-- ==== Sys2Proof/Word.lean ====
section
/-! DEFINITION. The word types of the SCM-4800 and their plainest arithmetic. -/

namespace Sys2Proof

/-- A 32-bit register word (R72). -/
abbrev Word := BitVec 32

/-- One byte of a memory or of a record. -/
abbrev Byte := BitVec 8

end Sys2Proof
end

