-- ==== Sys2Proof/Syntax.lean ====
section
/-! DEFINITION. The commands of the module: one constructor per row of spec/opcode_table.json. -/

namespace Sys2Proof

/-- The two compute lanes. -/
inductive Lane where
  | a | b
deriving DecidableEq, Repr

/-- Bit 3 of a requester code, and the copy of a per-lane register (R73, R74). -/
def Lane.idx : Lane → Nat
  | .a => 0
  | .b => 1

/-- The other lane. -/
def Lane.other : Lane → Lane
  | .a => .b
  | .b => .a

/-- The paths of a register access (R74). -/
inductive Path where
  | mgmt | app0 | app1 | hpp | service
deriving DecidableEq, Repr

/-- The low three bits of a requester code (R74). -/
def Path.code : Path → Nat
  | .mgmt => 0
  | .app0 => 1
  | .app1 => 2
  | .hpp => 3
  | .service => 4

/-- A requester: the lane whose map the access uses, and its path (R74). -/
structure Req where
  lane : Lane
  path : Path
deriving DecidableEq, Repr

/-- The requester code of R74. -/
def Req.code (r : Req) : Nat := 8 * r.lane.idx + r.path.code

/-- The two ring ports, RING-E and RING-W. -/
inductive Ring where
  | e | w
deriving DecidableEq, Repr

/-- A frame as it reaches a monitor (R109, R110): the port it entered by and, beside CMD and the payload, which the command
says, the ADDR, CRC, HOP and HOP_N that it carries there. -/
structure Frame where
  port : Ring
  addr : Nat
  crc : Nat
  hop : Nat
  hopN : Nat
deriving DecidableEq, Repr

/-- A reply as it reaches the chain master (R110): CMD, ADDR, the payload bytes and the CRC. -/
structure RingReply where
  cmd : Nat
  addr : Nat
  payload : List Nat
  crc : Nat
deriving DecidableEq, Repr

/-- The inputs of a monitor as converted (R119). -/
structure MonVals where
  fine : List Int
  coarse : List Nat
  stack : Nat
  ntc : List Nat
  die : Nat
deriving DecidableEq, Repr

/-- A sweep reply (R120). -/
structure SweepReply where
  id : Nat
  ep16 : Nat
  status : Nat
  vals : MonVals
deriving DecidableEq, Repr

/-- A CAN frame (R377): the identifier word (bit 31 IDE), FDF, BRS, ESI, DLC and the data bytes. -/
structure CanFrame where
  id : Nat
  fdf : Bool
  brs : Bool
  esi : Bool
  dlc : Nat
  data : List Nat
deriving DecidableEq, Repr

/-- The commands, one per row of the table, with the operands each brings; those without operands stand last. -/
inductive Instr where
  | powerUp (mv : Nat) (tMax : Int) (sensor : Nat) (aBad : List Nat) (bBad : List Nat) (bad : List (Lane × Nat × Nat))
  | moduleReset (aBad : List Nat) (bBad : List Nat) (bad : List (Lane × Nat × Nat))
  | brownOutWarning (mv : Nat)
  | trunkOvervoltage (mv : Nat)
  | brownOutClear (mv : Nat) (v : Nat)
  | holdupFull
  | actUndervoltage (mv : Nat)
  | actSupplyRestored (mv : Nat)
  | mreset (r : Req)
  | go (r : Req)
  | hold (r : Req)
  | pageSreset (r : Req) (page : Nat)
  | registerWrite (r : Req) (addr : Nat) (v : Word)
  | multiwordLowRead (r : Req) (addr : Nat)
  | unmappedAccess (r : Req) (addr : Nat)
  | evtClear (r : Req) (page : Nat) (v : Word)
  | evtSet (r : Req) (page : Nat) (v : Word)
  | errClear (r : Req) (page : Nat) (v : Word)
  | lockOpen (r : Req) (page : Nat)
  | lockClose (r : Req) (page : Nat)
  | lockTimeout (l : Lane) (page : Nat)
  | presenceClose (r : Req)
  | sealPoll (fitted : Bool)
  | nvWriteComplete (okA : Bool) (okB : Bool)
  | nvmCfgCommit (r : Req)
  | cdtInvalImmediate (r : Req) (first : Nat) (count : Nat)
  | cdtInvalDeferred (r : Req) (first : Nat) (count : Nat) (ep : Word)
  | cdtInvalDone (l : Lane)
  | cdtTableRelocate (r : Req) (count : Bool) (v : Word)
  | fmonWindow (l : Lane) (bad : Nat) (khz : Nat)
  | rootRatioWindow (ratio : Nat) (locked : Bool) (line : Bool)
  | ptpSyncRx (port : Lane) (dom : Nat) (gm : Nat) (seq : Nat) (twoStep : Bool) (t : Nat)
  | ptpFollowUpRx (port : Lane) (dom : Nat) (gm : Nat) (seq : Nat) (origin : Nat) (corr : Int) (demand : Int)
  | pdelayReqTx (port : Lane) (tag : Nat) (t : Nat)
  | pdelayReqRx (port : Lane) (tag : Nat) (t : Nat)
  | pdelayRespRx (port : Lane) (t2 : Nat) (t3 : Nat) (t4 : Nat)
  | ptpAnnounceRx (port : Lane) (dom : Nat) (gm : Nat) (ds : List Nat)
  | ptpUnsupportedRx (port : Lane)
  | timeStep (r : Req) (lo : Word)
  | timeRateWrite (r : Req) (v : Word)
  | timeReset (r : Req)
  | tsqPop (r : Req) (cbus : Bool)
  | tsqDropRead (r : Req)
  | snapOriginWrite (r : Req) (lo : Word)
  | snapPeriodWrite (r : Req) (v : Word)
  | snapSlotsWrite (r : Req) (slots : Bool) (v : Word)
  | chainReenum (r : Req)
  | enumerationDone (loop : Option Nat) (eIds : List Nat) (wIds : List Nat) (serials : List (Nat × Nat)) (trims : List (Nat × Option Nat × Option Nat))
  | enum (k : Nat) (f : Frame) (base : Nat) (up : Bool)
  | echo (k : Nat) (f : Frame)
  | readReg (k : Nat) (f : Frame) (first : Nat) (n : Nat)
  | writeReg (k : Nat) (f : Frame) (first : Nat) (vs : List Nat)
  | sample (k : Nat) (f : Frame) (epoch : Nat) (windowStart : Bool)
  | monitorSampleInstant (k : Nat) (v : MonVals)
  | monitorConversionDone (k : Nat) (eisOut : Nat) (faults : Nat)
  | readSweep (k : Nat) (f : Frame) (first : Nat) (last : Nat)
  | sweepReplyRx (p : Ring) (r : SweepReply) (crc : Nat)
  | sweepSlotSilent (p : Ring) (k : Nat)
  | sweepComplete (us : Nat)
  | sampleLoopback (hop : Nat)
  | chainReplyRx (r : RingReply)
  | unknownRingCommand (k : Nat) (f : Frame) (code : Nat) (payload : List Nat)
  | trimMeasure (k : Nat) (e : Option Nat) (w : Option Nat)
  | owTest (k : Nat) (f : Frame) (mask : Nat)
  | owRoundDone (k : Nat) (change : List Nat)
  | owResultRx (r : RingReply) (res : List (Nat × Nat))
  | chainOwReq (r : Req) (v : Word)
  | owAll (r : Req)
  | serTake (r : Req)
  | chainMreg (r : Req) (v : Word)
  | chainLullEnter (r : Req) (v : Word)
  | lullEnter (k : Nat) (f : Frame) (period : Nat) (vlo : Nat) (vhi : Nat) (tlo : Nat) (thi : Nat)
  | monitorLullCheck (k : Nat) (v : MonVals)
  | wakeBurst (mon : Nat) (detail : Nat)
  | cbusWake (f : CanFrame) (crcOk : Bool)
  | monitorSelfLull (k : Nat)
  | bleedPlan (k : Nat) (f : Frame) (plan : Nat) (timers : List Nat)
  | bleedStop (k : Nat) (f : Frame) (mask : Nat)
  | bleedDutyCycle (k : Nat)
  | bleedTimerEnd (k : Nat) (n : Nat)
  | bleedReconcile (k : Nat) (remain : List Nat) (duty : Nat)
  | stopAll (r : Req)
  | planNow (r : Req)
  | eisSetup (k : Nat) (f : Frame) (win : Nat) (tb : Nat) (nep : Nat) (pUs : Nat) (settle : Nat) (fmask : Nat)
  | eisFreq (k : Nat) (f : Frame) (first : Nat) (codes : List Nat)
  | eisAccept (k : Nat) (f : Frame) (win : Nat) (idx : Nat) (count : Nat)
  | eisAbortFrame (k : Nat) (f : Frame) (win : Nat)
  | eisRead (k : Nat) (f : Frame) (win : Nat) (sel : Nat) (bins : List Nat)
  | eisStart (r : Req)
  | eisResultsComplete
  | eisAbort (r : Option Req) (cause : Nat)
  | decimatorResult (t : Nat) (u : Int) (charge : Int) (hall : Int) (v : Nat) (ntc : List Int) (eis : List Int)
  | frontEndFault (path : Nat)
  | frontEndFaultClear (path : Nat)
  | snapshotReady (us : Nat) (shut : List Lane)
  | estRelearn (r : Req) (v : Word)
  | estEfcClr (r : Req)
  | squallTrip (negative : Bool) (t : Nat)
  | squallCmpRelease (negative : Bool)
  | squallLatchClear (r : Req) (pos : Bool) (neg : Bool)
  | squallThrWrite (r : Req) (v : Word)
  | squallTest (r : Req) (negative : Bool)
  | squallTestDone (ns : Nat)
  | clrTrip (r : Req)
  | protLimitWrite (r : Req) (k : Nat) (w : Nat) (v : Word)
  | protCcellWrite (r : Req) (v : Word)
  | tripReadbackFault (pairB : Bool) (trip : Bool)
  | ntcBlindTimeout (k : Nat)
  | safetyCycle (rb : Nat) (bad : Nat) (cpuOk : Bool) (eccOk : Bool)
  | safetyInputSample (raw : Nat) (reset : Bool) (pulse : Nat)
  | testPulse (tp2 : Bool) (highOk : Bool) (lowOk : Bool)
  | darkTest (n : Nat) (low : Bool) (ok : Bool)
  | ramMarchDone (ok : Bool)
  | romCrcCheck (ok : Bool)
  | verdictSetRx (crcOk : Bool)
  | resetInRelease (ms : Nat)
  | selfTestRunDone (mask : Nat)
  | clrSf (r : Req)
  | feedbackTimeout (n : Nat)
  | loopSample (k : Nat) (t : Nat)
  | converterReturnFrame (frame : List Nat)
  | gainTableCommit (r : Req) (v : Word)
  | clrPlaus (r : Req) (k : Nat)
  | cleModeWrite (r : Req) (v : Word)
  | traceArm (r : Req) (k : Nat) (v : Word)
  | traceForce (r : Req) (k : Nat) (v : Word)
  | order (port : Lane) (q : Nat) (payload : List Nat) (src : List Nat)
  | rebase (r : Req)
  | tallyCycle (t : Nat) (twA : Nat) (twB : Nat)
  | tallyLoad (r : Req)
  | tallyLoadDone (l : Lane)
  | tallyRun (r : Req)
  | tallyStop (r : Req)
  | stationInRx (l : Lane) (node : Nat) (alive : Nat) (bits : Nat)
  | laneWdog (r : Req) (v : Word)
  | laneWdogExpire (l : Lane)
  | appWdKick (r : Req)
  | appWdExpire (l : Lane)
  | laneFail (l : Lane) (bit : Nat)
  | handover (cause : Nat)
  | swap (r : Req)
  | inject (r : Req)
  | lreset (r : Req)
  | laneAutoReset (l : Lane)
  | laneBootComplete (l : Lane)
  | laneRdy (r : Req) (v : Word)
  | sync (r : Option Req)
  | cbusTxreq (r : Req) (n : Nat)
  | cbusTxCancel (r : Req) (n : Nat)
  | cbusTxDone (l : Lane) (outcome : Nat) (sof : Nat)
  | cbusFrameRx (l : Lane) (f : CanFrame) (ts : Nat)
  | cbusFifoPop (r : Req)
  | cbusRxbufLock (r : Req) (k : Nat)
  | cbusRxbufRelease (r : Req) (k : Nat)
  | cbusRxbufLockTimeout (l : Lane) (k : Nat)
  | cbusError (l : Lane) (tx : Bool) (fd : Bool) (heavy : Bool) (code : Nat)
  | boRec (r : Req)
  | cbusBusoffRecovered (l : Lane)
  | dominantTimeout (l : Lane)
  | shadowDrop (l : Lane) (n : Nat)
  | cbusErrRead (r : Req)
  | cbusRxlostRead (r : Req)
  | arrive (r : Req) (v : Word)
  | barrierTimeout (l : Lane)
  | plinkLinkUp (l : Lane)
  | plinkLinkDown (l : Lane)
  | dadFail (l : Lane)
  | linkRst (r : Req)
  | hppRecordIntake (port : Lane) (transport : Bool) (v4 : Bool) (src : List Nat) (b : List Nat)
  | regRead (port : Lane) (lane : Lane) (seq : Nat) (addr : Nat) (count : Nat) (src : List Nat)
  | regWrite (port : Lane) (lane : Lane) (seq : Nat) (addr : Nat) (count : Nat) (ws : List Word) (src : List Nat)
  | resendReq (port : Lane) (seq : Nat) (stream : Nat) (first : Nat) (count : Nat) (src : List Nat)
  | heartbeat (t : Nat)
  | recordTxDone (l : Lane)
  | txUnderrun (l : Lane)
  | retentionExpire (l : Lane)
  | flush (r : Req) (mask : Nat)
  | flushEffect (l : Lane) (n : Nat)
  | plnkRxdropRead (r : Req)
  | queCntRead (r : Req) (n : Nat)
  | icuClaim (r : Req) (t : Nat)
  | icuEoi (r : Req) (t : Nat) (k : Nat)
  | icuModTimeout (l : Lane) (k : Nat)
  | icuHoldoffEnd (l : Lane) (g : Nat)
  | icuRerouteTimeout (l : Lane) (k : Nat)
  | icuTargetSleep (l : Lane) (t : Nat)
  | icuTargetWake (l : Lane) (t : Nat)
  | icuGdisWrite (r : Req) (v : Word)
  | icuMaskWrite (r : Req) (n : Nat) (v : Word)
  | icuStatRead (r : Req)
  | icuUnmatchedRead (r : Req)
  | evrClear (r : Req)
  | thermSample (ts : List (Option Int))
  | shutdownExit (aBad : List Nat) (bBad : List Nat) (bad : List (Lane × Nat × Nat))
  | serviceRegRead (lane : Lane) (seq : Nat) (addr : Nat) (count : Nat) (crcOk : Bool) (form : Bool)
  | serviceRegWrite (lane : Lane) (seq : Nat) (addr : Nat) (count : Nat) (ws : List Word) (crcOk : Bool) (form : Bool)
  | updStageStart (r : Req) (v : Word)
  | updStageAbort (r : Option Req)
  | stagingData (bs : List Nat)
  | stagingComplete (okA : Bool) (okB : Bool)
  | updAct (r : Req) (v : Word)
  | ownerSet (r : Req)
  | ownerClr (r : Req)
  | rbCommit (r : Req)
  | announceReceiptTimeout (port : Lane) (gm : Nat)
  | monitorPowerUp (k : Nat)
  | cbusBusIntegration (l : Lane)
  | icmpEchoRequestRx (l : Lane) (v4 : Bool) (target : List Nat) (body : List Nat)
  | neighborDiscoveryRx (l : Lane) (v4 : Bool) (target : List Nat)
  | bootComplete
  | powerFailSwitchOff
  | holdupExhausted
  | presenceOpen
  | presenceTimeout
  | cfgCommitDone
  | pllLockLoss
  | rootRelease
  | rootLockTimeout
  | syncLossTimeout
  | epochSample
  | sampleLaunch
  | sweepStart
  | chainReplyTimeout
  | owPeriodic
  | lullEntry
  | selfWake
  | s1Wake
  | wakeComplete
  | selfWakeRelull
  | eisWindowStart
  | eisWindowEnd
  | shuntClip
  | slotRelease
  | fastBlockWrite
  | estEpochProcessing
  | restEvaluation
  | stateRecordWrite
  | learnedRecordWrite
  | impedanceTableWrite
  | squallDacUpdate
  | plausTripTimeout
  | safetyWatchdogExpire
  | safetySupplyFault
  | verdictTimeout
  | tickWatchdogExpire
  | closingStep
  | prechargeEnd
  | prechargeTimeout
  | openTimeout
  | returnFrameTimeout
  | convRunTimeout
  | orderCommitDone
  | orderExecute
  | contactorWaitDone
  | relearnWritebackDone
  | orderCompletionCommit
  | gapResendRepeat
  | gapTimeout
  | mergeEnd
  | syncCopy
  | syncComplete
  | eventBatchSend
  | evrRepeatWriteback
  | evrHoldEnd
  | evrClearDone
  | shutdownOutputsOff
  | shutdownLanesStop
  | exhaustionFlagLost
  | servicePortAttach
  | squallDacSettled
deriving DecidableEq, Repr

end Sys2Proof
end

