-- ==== Sys2Proof/Machine/Bits.lean ====
section
/-! DEFINITION. Bit fields, byte order, CRC-32C and the sparse canonical store shared by the register file, the
memories and the NV regions. -/

namespace Sys2Proof.Machine

open Sys2Proof

/-! ### Bit fields -/

/-- The field `[hi:lo]` of a word, as a number. -/
def getBits (w : Word) (hi lo : Nat) : Nat := w.toNat / 2 ^ lo % 2 ^ (hi + 1 - lo)

/-- The word with its field `[hi:lo]` replaced by the low bits of `v`. -/
def setBits (w : Word) (hi lo v : Nat) : Word :=
  BitVec.ofNat 32
    (w.toNat / 2 ^ (hi + 1) * 2 ^ (hi + 1) + v % 2 ^ (hi + 1 - lo) * 2 ^ lo + w.toNat % 2 ^ lo)

/-- Bit `k` of a number. -/
def bitAt (n k : Nat) : Bool := n / 2 ^ k % 2 == 1

/-- `n` with bit `k` set or cleared. -/
def putBit (n k : Nat) (b : Bool) : Nat :=
  n / 2 ^ (k + 1) * 2 ^ (k + 1) + (if b then 2 ^ k else 0) + n % 2 ^ k

/-- A truth value as a one-bit number. -/
def b2n (b : Bool) : Nat := if b then 1 else 0

/-- The number of bits set among the low `w` bits of `n`. -/
def popCount : Nat → Nat → Nat
  | 0, _ => 0
  | w + 1, n => n % 2 + popCount w (n / 2)

/-- Two's complement reading of the low `w` bits of `n`. -/
def toSigned (w n : Nat) : Int :=
  let m := n % 2 ^ w
  if m < 2 ^ (w - 1) then (m : Int) else (m : Int) - 2 ^ w

/-- Two's complement encoding of `i` in `w` bits. -/
def ofSigned (w : Nat) (i : Int) : Nat := (i % 2 ^ w).toNat

/-- Clamp an integer to a closed range. -/
def clampI (lo hi i : Int) : Int := if i < lo then lo else if hi < i then hi else i

/-- Increment of a counter that saturates at its largest value. -/
def satInc (max n : Nat) : Nat := if n < max then n + 1 else max

/-! ### Bytes -/

/-- `n` as `k` bytes, least significant first. -/
def leBytes : Nat → Nat → List Nat
  | 0, _ => []
  | k + 1, n => n % 256 :: leBytes k (n / 256)

/-- The number that a byte list spells, least significant byte first. -/
def ofLe : List Nat → Nat
  | [] => 0
  | b :: bs => b % 256 + 256 * ofLe bs

/-- Bytes `[off, off + n)` of a byte list, zero beyond its end. -/
def slice (bs : List Nat) (off n : Nat) : List Nat :=
  ((bs.drop off).take n) ++ List.replicate (n - (bs.length - off)) 0

/-- The little-endian number of `n` bytes at `off`. -/
def leAt (bs : List Nat) (off n : Nat) : Nat := ofLe (slice bs off n)

/-- A byte list brought to exactly `n` bytes, zero-padded. -/
def padTo (n : Nat) (bs : List Nat) : List Nat := slice bs 0 n

/-- One bit step of CRC-32C, reflected polynomial 0x82F6_3B78. -/
def crcBit (c : Nat) : Nat := if c % 2 = 1 then Nat.xor (c / 2) 0x82F63B78 else c / 2

/-- One byte of CRC-32C. -/
def crcByte (c b : Nat) : Nat :=
  crcBit (crcBit (crcBit (crcBit (crcBit (crcBit (crcBit (crcBit (Nat.xor c (b % 256)))))))))

/-- CRC-32C of a byte list (R90, R406, R442). -/
def crc32c (bs : List Nat) : Nat := Nat.xor (bs.foldl crcByte 0xFFFFFFFF) 0xFFFFFFFF

/-- One bit step of CRC-16/CCITT-FALSE, polynomial 0x1021, bit 15 first (R482). -/
def crc16Bit (c : Nat) : Nat := if 0x8000 ≤ c then Nat.xor (2 * c % 2 ^ 16) 0x1021 else 2 * c

/-- One byte of CRC-16/CCITT-FALSE. -/
def crc16Byte (c b : Nat) : Nat :=
  crc16Bit (crc16Bit (crc16Bit (crc16Bit (crc16Bit (crc16Bit (crc16Bit (crc16Bit (Nat.xor c (b % 256 * 256)))))))))

/-- CRC-16/CCITT-FALSE of a byte list (R482). -/
def crc16 (bs : List Nat) : Nat := bs.foldl crc16Byte 0xFFFF

/-- Fields of (width, value) laid end to end, the first at the least significant bits. -/
def packBits : List (Nat × Nat) → Nat
  | [] => 0
  | (w, v) :: l => v % 2 ^ w + 2 ^ w * packBits l

/-- Fields of (width, value) as bytes; the bits left over in the last byte are 0. -/
def packBytes (l : List (Nat × Nat)) : List Nat := leBytes (((l.map Prod.fst).sum + 7) / 8) (packBits l)

/-! ### The sparse store -/

/-- Read of a sparse store: an unlisted key reads as its default. -/
def sget {α : Type} (d : Nat → α) : List (Nat × α) → Nat → α
  | [], k => d k
  | (j, v) :: l, k => if j = k then v else sget d l k

/-- Insertion in key order. -/
def sins {α : Type} (k : Nat) (v : α) : List (Nat × α) → List (Nat × α)
  | [] => [(k, v)]
  | (j, w) :: l => if k < j then (k, v) :: (j, w) :: l else (j, w) :: sins k v l

/-- Removal of a key. -/
def sdel {α : Type} (k : Nat) : List (Nat × α) → List (Nat × α)
  | [] => []
  | (j, w) :: l => if j = k then sdel k l else (j, w) :: sdel k l

/-- Write of a sparse store: writing the default of a key unlists it. -/
def sput {α : Type} [DecidableEq α] (d : Nat → α) (l : List (Nat × α)) (k : Nat) (v : α) : List (Nat × α) :=
  if v = d k then sdel k l else sins k v (sdel k l)

/-- The canonical form: keys strictly rising and no entry equal to its default. -/
def swf {α : Type} [DecidableEq α] (d : Nat → α) : List (Nat × α) → Bool
  | [] => true
  | [(k, v)] => decide (v ≠ d k)
  | (k, v) :: (j, w) :: l => decide (k < j) && decide (v ≠ d k) && swf d ((j, w) :: l)

end Sys2Proof.Machine
end

