-- ==== Sys2Proof/Machine/Float.lean ====
section
/-! DEFINITION. IEEE 754 binary32 by exact rationals: a finite value read as a rational, and a rational rounded to the
nearest value, ties to even. The manual names the format; the rounding is the format's default. -/

namespace Sys2Proof.Machine

/-- The rational of a finite binary32 word; none for an infinity or a NaN. -/
def f32Rat (w : Nat) : Option Rat :=
  let e : Nat := w / 2 ^ 23 % 256
  let m : Nat := w % 2 ^ 23
  let sign : Int := if w / 2 ^ 31 % 2 = 1 then -1 else 1
  if e = 255 then none
  else if e = 0 then some (mkRat (sign * m) (2 ^ 149))
  else if 150 ≤ e then some (mkRat (sign * ((2 ^ 23 + m) * 2 ^ (e - 150))) 1)
  else some (mkRat (sign * (2 ^ 23 + m)) (2 ^ (150 - e)))

/-- The rational of a word, 0 where it is no finite number. -/
def f32 (w : Nat) : Rat := (f32Rat w).getD 0

/-- Is a word a finite binary32 number? -/
def f32Finite (w : Nat) : Bool := w / 2 ^ 23 % 256 != 255

/-- The nearest integer to a non-negative rational, ties to even. -/
def roundEven (q : Rat) : Nat :=
  let n := q.floor.toNat
  let r := q - n
  if r < 1 / 2 then n else if 1 / 2 < r then n + 1 else if n % 2 = 0 then n else n + 1

/-- 2 to an integer power. -/
def pow2 (e : Int) : Rat := if 0 ≤ e then ((2 ^ e.toNat : Nat) : Rat) else 1 / ((2 ^ (-e).toNat : Nat) : Rat)

/-- The exponent e with 2^e ≤ q < 2^(e+1), for a positive rational. -/
def ratExp (q : Rat) : Int :=
  let e : Int := (Nat.log2 q.num.natAbs : Int) - Nat.log2 q.den
  if q < pow2 e then e - 1 else e

/-- The binary32 word nearest to a rational, ties to even; beyond the largest finite value, infinity. -/
def f32Of (q : Rat) : Nat :=
  if q = 0 then 0
  else
    let sign := if q < 0 then 2 ^ 31 else 0
    let a := if q < 0 then -q else q
    let u := max (ratExp a - 23) (-149)
    let n := roundEven (a / pow2 u)
    let (n, u) := if n = 2 ^ 24 then (2 ^ 23, u + 1) else (n, u)
    if n < 2 ^ 23 then sign + n
    else
      let e := (u + 150).toNat
      if 255 ≤ e then sign + 0x7F800000 else sign + e * 2 ^ 23 + (n - 2 ^ 23)

/-- A rational rounded to the nearest integer, halves away from zero. -/
def roundI (q : Rat) : Int := if q < 0 then -((-q + 1 / 2).floor) else (q + 1 / 2).floor

end Sys2Proof.Machine
end

