-- ==== Sys2Proof/Config.lean ====
section
/-! DEFINITION. What the manual leaves open: the free values, each a constant without a body that nothing can evaluate. -/

namespace Sys2Proof

/-- A value that the manual leaves open, drawn afresh at each use: the first argument is the state's own counter
(`State.free`), which the step reads and advances, the second tells the values of one draw apart. -/
opaque Config.free : Nat → Nat → Nat

/-- The Kalman filter's gains and covariance, which the manual names without giving their equations (R194): its inputs,
and which of its outputs. -/
opaque Config.kalman : List Rat → Nat → Rat

/-- The phase of a tone of the excitation in turns, by the codes and weights of the selected entries and its place among them:
the manual names the Schroeder rule without writing it out (R167). -/
opaque Config.schroeder : List (Nat × Nat) → Nat → Rat

/-- The number that an infinity or a NaN of binary32 stands for in the control engine's arithmetic: the manual states no
such result (R282, R283). -/
opaque Config.special : Nat → Rat

/-- Is a signature valid over an image header under a key (R463)? The manual names Ed25519 (RFC 8032) and gives no key. -/
opaque Config.signed : Nat → List Nat → List Nat → Bool

/-- Does a key entry hold a key (R459)? Set at manufacture. -/
opaque Config.keyPresent : Nat → Bool

/-- Does a configuration package pass the CRC of a configuration slot? The manual does not give a slot's layout (R465). -/
opaque Config.packageOk : List Nat → Bool

/-- The registers that a configuration package holds, by their keys in the register file, none where the package proves
invalid (R466). The manual does not give a slot's layout. -/
opaque Config.packageWords : List Nat → Option (List (Nat × Word))

/-- The bytes of the Tally image in a configuration package, none where it holds none. -/
opaque Config.packageTally : List Nat → Option (List Nat)

/-- Whether a configuration package holds the owner lock set (R458). -/
opaque Config.packageOwner : List Nat → Bool

/-- What a register shows that the module measures and no command of the table brings (input current and power, fan speed,
the loop delay of the container bus, S1 as pressed): the register's key and the instant. -/
opaque Config.measured : Nat → Nat → Nat

/-- The bytes of the calibration and key regions, by MRAM offset and rollback counter: the factory wrote them, and the manual
does not give their layout (R459). -/
opaque Config.factoryByte : Nat → Nat → Nat

/-- The bytes of the header of a state record, from what the header holds: the manual does not give their places (R221). -/
opaque Config.estHeaderByte : List Nat → Nat → Nat

/-- The capacitance of the hold-up bank in µF, measured at manufacture (R478). -/
opaque Config.capacitance : Nat

end Sys2Proof
end

