-- ==== Sys2Proof/Machine/Registers.lean ====
section
/-! DEFINITION. The register maps of the 26 pages, as the register tables of spec/02 to spec/19 give them: every named
field with its place and its access type, the legal values of the fields that may be written, and the words that differ
from zero at module reset. -/

namespace Sys2Proof.Machine

open Sys2Proof

/-- Access types (R80). -/
inductive Acc where
  | ro | rw | w1c | w1s | wo | rwl | rwp
deriving DecidableEq, Repr

/-- The values a field accepts (R9): all of them, a closed range, or zero and a closed range. -/
inductive Lim where
  | any
  | rng (lo hi : Nat)
  | zr (lo hi : Nat)
deriving DecidableEq, Repr

/-- A field of a register: its page index (R73), the register's offset, and its bits. -/
structure Fld where
  page : Nat
  off : Nat
  hi : Nat
  lo : Nat
deriving DecidableEq, Repr

/-- A row of a register table; a row with `cnt` above 1 stands for registers `stride` bytes apart. -/
structure Row where
  name : String
  page : Nat
  off : Nat
  cnt : Nat
  stride : Nat
  hi : Nat
  lo : Nat
  acc : Acc
  cfgOnly : Bool
  lim : Lim
deriving DecidableEq, Repr

/-- Does a value satisfy a field's limits? -/
def Lim.ok : Lim → Nat → Bool
  | .any, _ => true
  | .rng lo hi, v => decide (lo ≤ v) && decide (v ≤ hi)
  | .zr lo hi, v => v == 0 || (decide (lo ≤ v) && decide (v ≤ hi))

/-- Page indices (R73). -/
def Pg.SYS : Nat := 0x0
def Pg.PWR : Nat := 0x1
def Pg.CLK : Nat := 0x2
def Pg.TIME : Nat := 0x3
def Pg.THERM : Nat := 0x4
def Pg.CDT : Nat := 0x5
def Pg.SNAP : Nat := 0x6
def Pg.MEAS : Nat := 0x7
def Pg.CHAIN : Nat := 0x8
def Pg.EIS : Nat := 0x9
def Pg.EST : Nat := 0xA
def Pg.BAL : Nat := 0xB
def Pg.PROT : Nat := 0xC
def Pg.SAFE : Nat := 0xD
def Pg.CLE : Nat := 0xE
def Pg.CLINK : Nat := 0xF
def Pg.ORD : Nat := 0x10
def Pg.TALLY : Nat := 0x11
def Pg.LANE : Nat := 0x12
def Pg.CBUS : Nat := 0x13
def Pg.PLNK : Nat := 0x14
def Pg.QUE : Nat := 0x15
def Pg.ICU : Nat := 0x16
def Pg.EVR : Nat := 0x17
def Pg.NVM : Nat := 0x18
def Pg.UPD : Nat := 0x19

/-! ### Fields by name -/

def F.CLK_STAT_THROTTLED : Fld := ⟨0x2, 0xC, 3, 3⟩
def F.CLK_STAT_ROOT_OK : Fld := ⟨0x2, 0xC, 2, 2⟩
def F.CLK_STAT_PLL_LOCK : Fld := ⟨0x2, 0xC, 1, 1⟩
def F.CLK_STAT_TCXO_OK : Fld := ⟨0x2, 0xC, 0, 0⟩
def F.CLK_FMON_DOMAIN : Fld := ⟨0x2, 0x40, 31, 24⟩
def F.CLK_FMON_FREQ_KHZ : Fld := ⟨0x2, 0x40, 23, 0⟩
def F.CLK_FMON_FAIL_FAIL : Fld := ⟨0x2, 0x44, 10, 0⟩
def F.CLK_SUP_ROOT_OK : Fld := ⟨0x2, 0x48, 31, 31⟩
def F.CLK_SUP_RATIO : Fld := ⟨0x2, 0x48, 15, 0⟩
def F.CLK_CORE_DIV_DIV_B : Fld := ⟨0x2, 0x4C, 7, 4⟩
def F.CLK_CORE_DIV_DIV_A : Fld := ⟨0x2, 0x4C, 3, 0⟩
def F.TIME_CTRL_TRESET : Fld := ⟨0x3, 0x8, 4, 4⟩
def F.TIME_CTRL_SRESET : Fld := ⟨0x3, 0x8, 1, 1⟩
def F.TIME_CTRL_ENABLE : Fld := ⟨0x3, 0x8, 0, 0⟩
def F.TIME_STAT_PTP_PORT : Fld := ⟨0x3, 0xC, 8, 8⟩
def F.TIME_STAT_RATE_SAT : Fld := ⟨0x3, 0xC, 5, 5⟩
def F.TIME_STAT_STEPPED : Fld := ⟨0x3, 0xC, 4, 4⟩
def F.TIME_STAT_SERVO_OFF : Fld := ⟨0x3, 0xC, 3, 3⟩
def F.TIME_STAT_QUAL : Fld := ⟨0x3, 0xC, 1, 0⟩
def F.TIME_NS_NS : Fld := ⟨0x3, 0x40, 31, 0⟩
def F.TIME_WRAPS_WRAPS : Fld := ⟨0x3, 0x44, 31, 0⟩
def F.TIME_STEP_STEP_LO : Fld := ⟨0x3, 0x48, 31, 0⟩
def F.TIME_STEP_HI_STEP_HI : Fld := ⟨0x3, 0x4C, 31, 0⟩
def F.TIME_RATE_RATE : Fld := ⟨0x3, 0x50, 31, 0⟩
def F.TIME_HOLD_LOCK_N : Fld := ⟨0x3, 0x54, 15, 8⟩
def F.TIME_HOLD_HOLD_TO : Fld := ⟨0x3, 0x54, 7, 0⟩
def F.TIME_OFFSET_OFFSET : Fld := ⟨0x3, 0x58, 31, 0⟩
def F.TIME_TSQ_VALID : Fld := ⟨0x3, 0x60, 31, 31⟩
def F.TIME_TSQ_LEVEL : Fld := ⟨0x3, 0x60, 19, 16⟩
def F.TIME_TSQ_TAG : Fld := ⟨0x3, 0x60, 15, 0⟩
def F.TIME_TSQC_VALID : Fld := ⟨0x3, 0x68, 31, 31⟩
def F.TIME_TSQC_LEVEL : Fld := ⟨0x3, 0x68, 19, 16⟩
def F.TIME_TSQC_TAG : Fld := ⟨0x3, 0x68, 15, 0⟩
def F.TIME_TSQ_NS_NS : Fld := ⟨0x3, 0x64, 31, 0⟩
def F.TIME_TSQC_NS_NS : Fld := ⟨0x3, 0x6C, 31, 0⟩
def F.TIME_TSQ_DROP_DROP_C : Fld := ⟨0x3, 0x70, 31, 16⟩
def F.TIME_TSQ_DROP_DROP_P : Fld := ⟨0x3, 0x70, 15, 0⟩
def F.SYS_CTRL_MRESET : Fld := ⟨0x0, 0x8, 9, 9⟩
def F.SYS_CTRL_GO : Fld := ⟨0x0, 0x8, 8, 8⟩
def F.SYS_CTRL_HOLD : Fld := ⟨0x0, 0x8, 7, 7⟩
def F.SYS_CTRL_SRESET : Fld := ⟨0x0, 0x8, 1, 1⟩
def F.SYS_CTRL_ENABLE : Fld := ⟨0x0, 0x8, 0, 0⟩
def F.SYS_STAT_AUTH : Fld := ⟨0x0, 0xC, 1, 1⟩
def F.SYS_STAT_LANE : Fld := ⟨0x0, 0xC, 0, 0⟩
def F.SYS_STATE_QUAL : Fld := ⟨0x0, 0x40, 17, 16⟩
def F.SYS_STATE_BO : Fld := ⟨0x0, 0x40, 15, 15⟩
def F.SYS_STATE_IN_MOTION : Fld := ⟨0x0, 0x40, 14, 14⟩
def F.SYS_STATE_THROTTLED : Fld := ⟨0x0, 0x40, 13, 13⟩
def F.SYS_STATE_LOCKOUT : Fld := ⟨0x0, 0x40, 12, 12⟩
def F.SYS_STATE_SEAL : Fld := ⟨0x0, 0x40, 11, 11⟩
def F.SYS_STATE_OWNER_LOCK : Fld := ⟨0x0, 0x40, 10, 10⟩
def F.SYS_STATE_PRESENCE : Fld := ⟨0x0, 0x40, 9, 9⟩
def F.SYS_STATE_STATE : Fld := ⟨0x0, 0x40, 3, 0⟩
def F.SYS_PRESENCE_OPEN : Fld := ⟨0x0, 0x44, 31, 31⟩
def F.SYS_PRESENCE_PRESSED : Fld := ⟨0x0, 0x44, 30, 30⟩
def F.SYS_PRESENCE_CLOSE : Fld := ⟨0x0, 0x44, 29, 29⟩
def F.SYS_PRESENCE_REMAIN_S : Fld := ⟨0x0, 0x44, 7, 0⟩
def F.SYS_SERIAL_SERIAL_LO : Fld := ⟨0x0, 0x48, 31, 0⟩
def F.SYS_SERIAL_HI_SERIAL_HI : Fld := ⟨0x0, 0x4C, 31, 0⟩
def F.SYS_NODE_NODE : Fld := ⟨0x0, 0x50, 10, 0⟩
def F.SYS_OPSEC_OPSEC : Fld := ⟨0x0, 0x54, 31, 0⟩
def F.SYS_PWRCYC_PWRCYC : Fld := ⟨0x0, 0x58, 31, 0⟩
def F.SYS_RST_CAUSE_STICKY : Fld := ⟨0x0, 0x5C, 31, 16⟩
def F.SYS_RST_CAUSE_CAUSE : Fld := ⟨0x0, 0x5C, 3, 0⟩
def F.SYS_UNMAPPED_ADDR : Fld := ⟨0x0, 0x60, 31, 0⟩
def F.CDT_CTRL_SRESET : Fld := ⟨0x5, 0x8, 1, 1⟩
def F.CDT_CTRL_ENABLE : Fld := ⟨0x5, 0x8, 0, 0⟩
def F.CDT_STAT_DEFER_PEND : Fld := ⟨0x5, 0xC, 2, 2⟩
def F.CDT_STAT_INV_BUSY : Fld := ⟨0x5, 0xC, 1, 1⟩
def F.CDT_STAT_READY : Fld := ⟨0x5, 0xC, 0, 0⟩
def F.CDT_BASE_BASE : Fld := ⟨0x5, 0x40, 31, 12⟩
def F.CDT_COUNT_COUNT : Fld := ⟨0x5, 0x44, 14, 0⟩
def F.CDT_INVAL_FIRST : Fld := ⟨0x5, 0x50, 13, 0⟩
def F.CDT_INVAL_HI_DEFER : Fld := ⟨0x5, 0x54, 31, 31⟩
def F.CDT_INVAL_HI_COUNT_M1 : Fld := ⟨0x5, 0x54, 13, 0⟩
def F.CDT_INVAL_EP_EPOCH : Fld := ⟨0x5, 0x58, 31, 0⟩
def F.CDT_INVAL_STAT_APPLY_EPOCH : Fld := ⟨0x5, 0x5C, 31, 0⟩
def F.CDT_HITS_HITS : Fld := ⟨0x5, 0x60, 31, 0⟩
def F.CDT_MISSES_MISSES : Fld := ⟨0x5, 0x64, 31, 0⟩
def F.CDT_BAD_COUNT : Fld := ⟨0x5, 0x68, 31, 16⟩
def F.CDT_BAD_INDEX : Fld := ⟨0x5, 0x68, 13, 0⟩
def F.NVM_CTRL_SRESET : Fld := ⟨0x18, 0x8, 1, 1⟩
def F.NVM_CTRL_ENABLE : Fld := ⟨0x18, 0x8, 0, 0⟩
def F.NVM_STAT_CFG_SLOT : Fld := ⟨0x18, 0xC, 7, 7⟩
def F.NVM_STAT_SEAL_BROKEN : Fld := ⟨0x18, 0xC, 6, 6⟩
def F.NVM_STAT_SEAL_FITTED : Fld := ⟨0x18, 0xC, 5, 5⟩
def F.NVM_STAT_WR_BLOCKED : Fld := ⟨0x18, 0xC, 4, 4⟩
def F.NVM_STAT_WR_BUSY : Fld := ⟨0x18, 0xC, 3, 3⟩
def F.NVM_STAT_MIRROR_OK : Fld := ⟨0x18, 0xC, 2, 2⟩
def F.NVM_STAT_B_OK : Fld := ⟨0x18, 0xC, 1, 1⟩
def F.NVM_STAT_A_OK : Fld := ⟨0x18, 0xC, 0, 0⟩
def F.NVM_WRITES_WRITES : Fld := ⟨0x18, 0x40, 31, 0⟩
def F.NVM_RECON_REPAIRED : Fld := ⟨0x18, 0x44, 31, 16⟩
def F.NVM_RECON_CONFLICTS : Fld := ⟨0x18, 0x44, 15, 0⟩
def F.NVM_CFG_COMMIT_BUSY : Fld := ⟨0x18, 0x48, 1, 1⟩
def F.NVM_CFG_COMMIT_COMMIT : Fld := ⟨0x18, 0x48, 0, 0⟩
def F.NVM_CFG_SEQ_SEQ : Fld := ⟨0x18, 0x4C, 31, 0⟩
def F.NVM_SEAL_REMOVALS : Fld := ⟨0x18, 0x50, 31, 16⟩
def F.NVM_SEAL_FITTED : Fld := ⟨0x18, 0x50, 0, 0⟩
def F.NVM_SEAL_T_FIRST_S : Fld := ⟨0x18, 0x54, 31, 0⟩
def F.NVM_FAULT_MRAM : Fld := ⟨0x18, 0x58, 31, 31⟩
def F.NVM_FAULT_OFFSET : Fld := ⟨0x18, 0x58, 23, 0⟩
def F.CHAIN_CTRL_SER_TAKE : Fld := ⟨0x8, 0x8, 4, 4⟩
def F.CHAIN_CTRL_OW_ALL : Fld := ⟨0x8, 0x8, 3, 3⟩
def F.CHAIN_CTRL_REENUM : Fld := ⟨0x8, 0x8, 2, 2⟩
def F.CHAIN_CTRL_SRESET : Fld := ⟨0x8, 0x8, 1, 1⟩
def F.CHAIN_CTRL_ENABLE : Fld := ⟨0x8, 0x8, 0, 0⟩
def F.CHAIN_STAT_REACH_W : Fld := ⟨0x8, 0xC, 29, 24⟩
def F.CHAIN_STAT_REACH_E : Fld := ⟨0x8, 0xC, 21, 16⟩
def F.CHAIN_STAT_OW_BLOCKED : Fld := ⟨0x8, 0xC, 6, 6⟩
def F.CHAIN_STAT_OW_BUSY : Fld := ⟨0x8, 0xC, 5, 5⟩
def F.CHAIN_STAT_ENUM_BUSY : Fld := ⟨0x8, 0xC, 4, 4⟩
def F.CHAIN_STAT_OPEN_MODE : Fld := ⟨0x8, 0xC, 3, 3⟩
def F.CHAIN_STAT_RING_CLOSED : Fld := ⟨0x8, 0xC, 2, 2⟩
def F.CHAIN_STAT_COUNT_OK : Fld := ⟨0x8, 0xC, 1, 1⟩
def F.CHAIN_STAT_RUNNING : Fld := ⟨0x8, 0xC, 0, 0⟩
def F.CHAIN_CFG_ADDR_MODE : Fld := ⟨0x8, 0x40, 24, 24⟩
def F.CHAIN_CFG_MISS_N : Fld := ⟨0x8, 0x40, 23, 16⟩
def F.CHAIN_CFG_FC_LIMIT : Fld := ⟨0x8, 0x40, 15, 8⟩
def F.CHAIN_CFG_MON_COUNT : Fld := ⟨0x8, 0x40, 5, 0⟩
def F.CHAIN_OWCFG_OW_PERIOD : Fld := ⟨0x8, 0x44, 15, 0⟩
def F.CHAIN_SWEEP_MAX_US : Fld := ⟨0x8, 0x48, 31, 16⟩
def F.CHAIN_SWEEP_LAST_US : Fld := ⟨0x8, 0x48, 15, 0⟩
def F.CHAIN_LOAD_M_W : Fld := ⟨0x8, 0x4C, 13, 8⟩
def F.CHAIN_LOAD_M_E : Fld := ⟨0x8, 0x4C, 5, 0⟩
def F.CHAIN_NS_MAP_LO : Fld := ⟨0x8, 0x50, 31, 0⟩
def F.CHAIN_NS_HI_MAP_HI : Fld := ⟨0x8, 0x54, 7, 0⟩
def F.CHAIN_NR_MAP_LO : Fld := ⟨0x8, 0x58, 31, 0⟩
def F.CHAIN_NR_HI_MAP_HI : Fld := ⟨0x8, 0x5C, 7, 0⟩
def F.CHAIN_MISS_MAP_LO : Fld := ⟨0x8, 0x60, 31, 0⟩
def F.CHAIN_MISS_HI_MAP_HI : Fld := ⟨0x8, 0x64, 7, 0⟩
def F.CHAIN_OW_REQ_MON : Fld := ⟨0x8, 0x68, 29, 24⟩
def F.CHAIN_OW_REQ_LEADS : Fld := ⟨0x8, 0x68, 12, 0⟩
def F.CHAIN_OW_RES_VALID : Fld := ⟨0x8, 0x6C, 31, 31⟩
def F.CHAIN_OW_RES_ABORTED : Fld := ⟨0x8, 0x6C, 30, 30⟩
def F.CHAIN_OW_RES_MON : Fld := ⟨0x8, 0x6C, 29, 24⟩
def F.CHAIN_OW_RES_OPEN : Fld := ⟨0x8, 0x6C, 12, 0⟩
def F.CHAIN_OW_OPEN_COUNT : Fld := ⟨0x8, 0x70, 15, 0⟩
def F.CHAIN_LULL_ENTER : Fld := ⟨0x8, 0x80, 31, 31⟩
def F.CHAIN_LULL_PERIOD : Fld := ⟨0x8, 0x80, 15, 0⟩
def F.CHAIN_LULL_WAKE_WAKE_S : Fld := ⟨0x8, 0x84, 16, 0⟩
def F.CHAIN_LULL_VLIM_VHI : Fld := ⟨0x8, 0x88, 27, 16⟩
def F.CHAIN_LULL_VLIM_VLO : Fld := ⟨0x8, 0x88, 11, 0⟩
def F.CHAIN_LULL_TLIM_THI : Fld := ⟨0x8, 0x8C, 25, 16⟩
def F.CHAIN_LULL_TLIM_TLO : Fld := ⟨0x8, 0x8C, 9, 0⟩
def F.CHAIN_WAKE_CAUSE : Fld := ⟨0x8, 0x90, 31, 28⟩
def F.CHAIN_WAKE_MON : Fld := ⟨0x8, 0x90, 21, 16⟩
def F.CHAIN_WAKE_DETAIL : Fld := ⟨0x8, 0x90, 15, 0⟩
def F.CHAIN_MREG_BUSY : Fld := ⟨0x8, 0x94, 31, 31⟩
def F.CHAIN_MREG_WR : Fld := ⟨0x8, 0x94, 30, 30⟩
def F.CHAIN_MREG_MON : Fld := ⟨0x8, 0x94, 29, 24⟩
def F.CHAIN_MREG_REG : Fld := ⟨0x8, 0x94, 23, 16⟩
def F.CHAIN_MREG_RESULT : Fld := ⟨0x8, 0x94, 7, 0⟩
def F.CHAIN_MREG_DATA_DATA : Fld := ⟨0x8, 0x98, 15, 0⟩
def F.CHAIN_LINKERR_CRC : Fld := ⟨0x8, 0x9C, 31, 16⟩
def F.CHAIN_LINKERR_TIMEOUT : Fld := ⟨0x8, 0x9C, 15, 0⟩
def F.CHAIN_SER_SEL_MON : Fld := ⟨0x8, 0xA0, 5, 0⟩
def F.CHAIN_SER_CFG_CFG_LO : Fld := ⟨0x8, 0xA4, 31, 0⟩
def F.CHAIN_SER_CFG_HI_CFG_HI : Fld := ⟨0x8, 0xA8, 15, 0⟩
def F.CHAIN_SER_ENUM_ENUM_LO : Fld := ⟨0x8, 0xAC, 31, 0⟩
def F.CHAIN_SER_ENUM_HI_ENUM_HI : Fld := ⟨0x8, 0xB0, 15, 0⟩
def F.MEAS_STAT_TCOMP_OFF : Fld := ⟨0x7, 0xC, 7, 7⟩
def F.MEAS_STAT_Q_PAUSED : Fld := ⟨0x7, 0xC, 6, 6⟩
def F.MEAS_STAT_HALL_FAULT : Fld := ⟨0x7, 0xC, 5, 5⟩
def F.MEAS_STAT_PLAUS_FAIL : Fld := ⟨0x7, 0xC, 4, 4⟩
def F.MEAS_STAT_V_FAULT : Fld := ⟨0x7, 0xC, 3, 3⟩
def F.MEAS_STAT_I_FAULT : Fld := ⟨0x7, 0xC, 2, 2⟩
def F.MEAS_STAT_OVERLOAD : Fld := ⟨0x7, 0xC, 1, 1⟩
def F.MEAS_STAT_RUNNING : Fld := ⟨0x7, 0xC, 0, 0⟩
def F.MEAS_I_I : Fld := ⟨0x7, 0x40, 31, 0⟩
def F.MEAS_V_V : Fld := ⟨0x7, 0x44, 31, 0⟩
def F.MEAS_HALL_HALL : Fld := ⟨0x7, 0x48, 31, 0⟩
def F.MEAS_Q_Q_LO : Fld := ⟨0x7, 0x4C, 31, 0⟩
def F.MEAS_Q_HI_Q_HI : Fld := ⟨0x7, 0x50, 31, 0⟩
def F.MEAS_SHUNT_TCR : Fld := ⟨0x7, 0x54, 31, 16⟩
def F.MEAS_SHUNT_R_NOM : Fld := ⟨0x7, 0x54, 15, 0⟩
def F.MEAS_HALL_CFG_SCALE : Fld := ⟨0x7, 0x58, 31, 16⟩
def F.MEAS_HALL_CFG_OFFSET : Fld := ⟨0x7, 0x58, 15, 0⟩
def F.MEAS_PLAUS_N : Fld := ⟨0x7, 0x5C, 31, 24⟩
def F.MEAS_PLAUS_ABS : Fld := ⟨0x7, 0x5C, 23, 12⟩
def F.MEAS_PLAUS_REL : Fld := ⟨0x7, 0x5C, 11, 0⟩
def F.MEAS_VCHK_LIMIT : Fld := ⟨0x7, 0x60, 15, 0⟩
def F.MEAS_FAST_BASE_BASE : Fld := ⟨0x7, 0x64, 31, 9⟩
def F.MEAS_FAST_BLOCKS_BLOCKS : Fld := ⟨0x7, 0x68, 15, 0⟩
def F.MEAS_FAST_WR_WR : Fld := ⟨0x7, 0x6C, 31, 0⟩
def F.SNAP_STAT_LOCAL : Fld := ⟨0x6, 0xC, 2, 2⟩
def F.SNAP_STAT_SLOTS_OK : Fld := ⟨0x6, 0xC, 1, 1⟩
def F.SNAP_STAT_RUNNING : Fld := ⟨0x6, 0xC, 0, 0⟩
def F.SNAP_ORIGIN_T0_LO : Fld := ⟨0x6, 0x40, 31, 0⟩
def F.SNAP_ORIGIN_HI_T0_HI : Fld := ⟨0x6, 0x44, 31, 0⟩
def F.SNAP_PERIOD_P : Fld := ⟨0x6, 0x48, 2, 0⟩
def F.SNAP_EPOCH_EPOCH_LO : Fld := ⟨0x6, 0x4C, 31, 0⟩
def F.SNAP_EPOCH_HI_EPOCH_HI : Fld := ⟨0x6, 0x50, 31, 0⟩
def F.SNAP_READY_EPOCH_LO : Fld := ⟨0x6, 0x54, 31, 16⟩
def F.SNAP_READY_TQUAL : Fld := ⟨0x6, 0x54, 15, 14⟩
def F.SNAP_READY_LATE : Fld := ⟨0x6, 0x54, 13, 13⟩
def F.SNAP_READY_SLOT : Fld := ⟨0x6, 0x54, 12, 0⟩
def F.SNAP_T_T_LO : Fld := ⟨0x6, 0x58, 31, 0⟩
def F.SNAP_T_HI_T_HI : Fld := ⟨0x6, 0x5C, 31, 0⟩
def F.SNAP_BASE_BASE : Fld := ⟨0x6, 0x60, 31, 13⟩
def F.SNAP_SLOTS_SLOTS : Fld := ⟨0x6, 0x64, 13, 0⟩
def F.SNAP_TIMING_LATE : Fld := ⟨0x6, 0x68, 31, 16⟩
def F.SNAP_TIMING_MAX_US : Fld := ⟨0x6, 0x68, 15, 0⟩
def F.EIS_CTRL_ABORT : Fld := ⟨0x9, 0x8, 4, 4⟩
def F.EIS_CTRL_START : Fld := ⟨0x9, 0x8, 3, 3⟩
def F.EIS_CTRL_SRESET : Fld := ⟨0x9, 0x8, 1, 1⟩
def F.EIS_CTRL_ENABLE : Fld := ⟨0x9, 0x8, 0, 0⟩
def F.EIS_STAT_PLAN_PEND : Fld := ⟨0x9, 0xC, 4, 4⟩
def F.EIS_STAT_SUSPENDED : Fld := ⟨0x9, 0xC, 3, 3⟩
def F.EIS_STAT_READOUT : Fld := ⟨0x9, 0xC, 2, 2⟩
def F.EIS_STAT_WINDOW : Fld := ⟨0x9, 0xC, 1, 1⟩
def F.EIS_STAT_EXCITING : Fld := ⟨0x9, 0xC, 0, 0⟩
def F.EIS_PLAN_PASSIVE : Fld := ⟨0x9, 0x40, 31, 31⟩
def F.EIS_PLAN_CONT : Fld := ⟨0x9, 0x40, 30, 30⟩
def F.EIS_PLAN_PROFILE : Fld := ⟨0x9, 0x40, 25, 24⟩
def F.EIS_PLAN_FMASK : Fld := ⟨0x9, 0x40, 15, 0⟩
def F.EIS_WIN_W_S : Fld := ⟨0x9, 0x44, 9, 0⟩
def F.EIS_AMP_PEAK : Fld := ⟨0x9, 0x48, 11, 0⟩
def F.EIS_FADE_FADE_MS : Fld := ⟨0x9, 0x54, 15, 0⟩
def F.EIS_WEIGHT_LO_W0 : Fld := ⟨0x9, 0x4C, 3, 0⟩
def F.EIS_WEIGHT_LO_W1 : Fld := ⟨0x9, 0x4C, 7, 4⟩
def F.EIS_WEIGHT_LO_W2 : Fld := ⟨0x9, 0x4C, 11, 8⟩
def F.EIS_WEIGHT_LO_W3 : Fld := ⟨0x9, 0x4C, 15, 12⟩
def F.EIS_WEIGHT_LO_W4 : Fld := ⟨0x9, 0x4C, 19, 16⟩
def F.EIS_WEIGHT_LO_W5 : Fld := ⟨0x9, 0x4C, 23, 20⟩
def F.EIS_WEIGHT_LO_W6 : Fld := ⟨0x9, 0x4C, 27, 24⟩
def F.EIS_WEIGHT_LO_W7 : Fld := ⟨0x9, 0x4C, 31, 28⟩
def F.EIS_WEIGHT_HI_W0 : Fld := ⟨0x9, 0x50, 3, 0⟩
def F.EIS_WEIGHT_HI_W1 : Fld := ⟨0x9, 0x50, 7, 4⟩
def F.EIS_WEIGHT_HI_W2 : Fld := ⟨0x9, 0x50, 11, 8⟩
def F.EIS_WEIGHT_HI_W3 : Fld := ⟨0x9, 0x50, 15, 12⟩
def F.EIS_WEIGHT_HI_W4 : Fld := ⟨0x9, 0x50, 19, 16⟩
def F.EIS_WEIGHT_HI_W5 : Fld := ⟨0x9, 0x50, 23, 20⟩
def F.EIS_WEIGHT_HI_W6 : Fld := ⟨0x9, 0x50, 27, 24⟩
def F.EIS_WEIGHT_HI_W7 : Fld := ⟨0x9, 0x50, 31, 28⟩
def F.EIS_GATE_RAMP_MAX : Fld := ⟨0x9, 0x58, 31, 16⟩
def F.EIS_GATE_REST_A : Fld := ⟨0x9, 0x58, 15, 8⟩
def F.EIS_GATE_SETTLE : Fld := ⟨0x9, 0x58, 7, 0⟩
def F.EIS_QUAL_MIN_EXC : Fld := ⟨0x9, 0x5C, 31, 16⟩
def F.EIS_QUAL_MIN_FILL : Fld := ⟨0x9, 0x5C, 7, 0⟩
def F.EIS_BASE_BASE : Fld := ⟨0x9, 0x60, 31, 12⟩
def F.EIS_SIZE_SIZE : Fld := ⟨0x9, 0x64, 31, 0⟩
def F.EIS_LAST_WINDOW : Fld := ⟨0x9, 0x68, 31, 0⟩
def F.EIS_LAST_EP_EP_LO : Fld := ⟨0x9, 0x6C, 31, 0⟩
def F.EIS_LAST_EP_HI_EP_HI : Fld := ⟨0x9, 0x70, 31, 0⟩
def F.EIS_TBL_CFG_I_TBL : Fld := ⟨0x9, 0x74, 31, 16⟩
def F.EIS_TBL_CFG_DEPART : Fld := ⟨0x9, 0x74, 15, 8⟩
def F.EIS_TBL_CFG_SHIFT : Fld := ⟨0x9, 0x74, 2, 0⟩
def F.EIS_VT_AGE_S : Fld := ⟨0x9, 0x78, 31, 16⟩
def F.EIS_VT_MAXRISE : Fld := ⟨0x9, 0x78, 15, 8⟩
def F.EIS_VT_LIMIT : Fld := ⟨0x9, 0x78, 7, 0⟩
def F.EIS_TBL_IDX_POS : Fld := ⟨0x9, 0x7C, 24, 16⟩
def F.EIS_TBL_IDX_BIN : Fld := ⟨0x9, 0x7C, 10, 8⟩
def F.EIS_TBL_IDX_FREQ : Fld := ⟨0x9, 0x7C, 3, 0⟩
def F.EIS_TBL_RE_RE : Fld := ⟨0x9, 0x80, 31, 0⟩
def F.EIS_TBL_IM_IM : Fld := ⟨0x9, 0x84, 31, 0⟩
def F.EIS_CNT_DONE : Fld := ⟨0x9, 0x88, 31, 16⟩
def F.EIS_CNT_ABORTED : Fld := ⟨0x9, 0x88, 15, 0⟩
def F.EIS_ABORT_CAUSE : Fld := ⟨0x9, 0x8C, 31, 24⟩
def F.EIS_ABORT_WINDOW : Fld := ⟨0x9, 0x8C, 23, 0⟩
def F.EIS_PEAK_PEAK : Fld := ⟨0x9, 0x90, 11, 0⟩
def F.EST_STAT_RELEARN_PEND : Fld := ⟨0xA, 0xC, 6, 6⟩
def F.EST_STAT_DERATED : Fld := ⟨0xA, 0xC, 5, 5⟩
def F.EST_STAT_SUSPECT_ANY : Fld := ⟨0xA, 0xC, 4, 4⟩
def F.EST_STAT_DISAGREE_ANY : Fld := ⟨0xA, 0xC, 3, 3⟩
def F.EST_STAT_UNCERTAIN_ANY : Fld := ⟨0xA, 0xC, 2, 2⟩
def F.EST_STAT_NO_HISTORY_ANY : Fld := ⟨0xA, 0xC, 1, 1⟩
def F.EST_STAT_RUNNING : Fld := ⟨0xA, 0xC, 0, 0⟩
def F.EST_CFG_PROFILE : Fld := ⟨0xA, 0x40, 25, 24⟩
def F.EST_CFG_CELLS_M1 : Fld := ⟨0xA, 0x40, 17, 16⟩
def F.EST_REST_SLOPE_UV : Fld := ⟨0xA, 0x44, 31, 16⟩
def F.EST_REST_RELAX_MIN : Fld := ⟨0xA, 0x44, 15, 8⟩
def F.EST_REST_I_REST : Fld := ⟨0xA, 0x44, 7, 0⟩
def F.EST_CAPL_MAX_H : Fld := ⟨0xA, 0x48, 31, 24⟩
def F.EST_CAPL_SPAN : Fld := ⟨0xA, 0x48, 23, 16⟩
def F.EST_CAPL_ACC : Fld := ⟨0xA, 0x48, 15, 8⟩
def F.EST_CAPL_REJ_N : Fld := ⟨0xA, 0x48, 7, 4⟩
def F.EST_CAPL_SHIFT : Fld := ⟨0xA, 0x48, 3, 0⟩
def F.EST_CONF_DERATE : Fld := ⟨0xA, 0x4C, 31, 24⟩
def F.EST_CONF_SIG_CLR : Fld := ⟨0xA, 0x4C, 15, 8⟩
def F.EST_CONF_SIG_SET : Fld := ⟨0xA, 0x4C, 7, 0⟩
def F.EST_DIS_N : Fld := ⟨0xA, 0x50, 31, 16⟩
def F.EST_DIS_RATE : Fld := ⟨0xA, 0x50, 15, 8⟩
def F.EST_DIS_LIM : Fld := ⟨0xA, 0x50, 7, 0⟩
def F.EST_START_OFF_MAX_D : Fld := ⟨0xA, 0x54, 31, 24⟩
def F.EST_START_SIG_NH : Fld := ⟨0xA, 0x54, 23, 16⟩
def F.EST_START_SIG_ADD : Fld := ⟨0xA, 0x54, 15, 8⟩
def F.EST_START_WAIT : Fld := ⟨0xA, 0x54, 7, 0⟩
def F.EST_NV_TBL_MIN : Fld := ⟨0xA, 0x58, 31, 24⟩
def F.EST_NV_LRN_MIN : Fld := ⟨0xA, 0x58, 23, 16⟩
def F.EST_NV_STATE_MS : Fld := ⟨0xA, 0x58, 15, 0⟩
def F.EST_OUT_BASE_BASE : Fld := ⟨0xA, 0x5C, 31, 15⟩
def F.EST_REP_EVERY : Fld := ⟨0xA, 0x60, 15, 0⟩
def F.EST_SOC_SOC_STR : Fld := ⟨0xA, 0x64, 31, 16⟩
def F.EST_SOC_SIG_MAX : Fld := ⟨0xA, 0x64, 15, 0⟩
def F.EST_SOC_MM_MAX : Fld := ⟨0xA, 0x68, 31, 16⟩
def F.EST_SOC_MM_MIN : Fld := ⟨0xA, 0x68, 15, 0⟩
def F.EST_CAPS_DIS_AH : Fld := ⟨0xA, 0x6C, 31, 16⟩
def F.EST_CAPS_CHG_AH : Fld := ⟨0xA, 0x6C, 15, 0⟩
def F.EST_LIM_LIM_CHG : Fld := ⟨0xA, 0x70, 31, 16⟩
def F.EST_LIM_LIM_DIS : Fld := ⟨0xA, 0x70, 15, 0⟩
def F.EST_SOH_SOH_MIN : Fld := ⟨0xA, 0x74, 31, 16⟩
def F.EST_SOH_POS : Fld := ⟨0xA, 0x74, 8, 0⟩
def F.EST_EFC_EFC : Fld := ⟨0xA, 0x78, 31, 0⟩
def F.EST_EFC_CLR_CLR : Fld := ⟨0xA, 0x7C, 0, 0⟩
def F.EST_CNTS_UNC : Fld := ⟨0xA, 0x80, 26, 18⟩
def F.EST_CNTS_DIS : Fld := ⟨0xA, 0x80, 17, 9⟩
def F.EST_CNTS_SUS : Fld := ⟨0xA, 0x80, 8, 0⟩
def F.EST_CNT_LEARNED : Fld := ⟨0xA, 0x84, 31, 16⟩
def F.EST_CNT_REJECTED : Fld := ⟨0xA, 0x84, 15, 0⟩
def F.EST_RELEARN_COUNT_M1 : Fld := ⟨0xA, 0x88, 24, 16⟩
def F.EST_RELEARN_FIRST : Fld := ⟨0xA, 0x88, 8, 0⟩
def F.EST_RELEARN_EP_EPOCH : Fld := ⟨0xA, 0x8C, 31, 0⟩
def F.EST_POS_SEL_POS : Fld := ⟨0xA, 0x90, 8, 0⟩
def F.EST_POS_ROWk_ROW (k : Nat) : Fld := ⟨0xA, 0xA0 + 0x4 * k, 31, 0⟩
def F.EST_NVSTAT_STATE_OK : Fld := ⟨0xA, 0xC0, 31, 31⟩
def F.EST_NVSTAT_LRN_OK : Fld := ⟨0xA, 0xC0, 30, 30⟩
def F.EST_NVSTAT_TBL_OK : Fld := ⟨0xA, 0xC0, 29, 29⟩
def F.EST_NV_SEQ_SEQ : Fld := ⟨0xA, 0xC4, 31, 0⟩
def F.BAL_CTRL_STOP_ALL : Fld := ⟨0xB, 0x8, 3, 3⟩
def F.BAL_CTRL_PLAN_NOW : Fld := ⟨0xB, 0x8, 2, 2⟩
def F.BAL_CTRL_SRESET : Fld := ⟨0xB, 0x8, 1, 1⟩
def F.BAL_CTRL_ENABLE : Fld := ⟨0xB, 0x8, 0, 0⟩
def F.BAL_STAT_EIS_HELD : Fld := ⟨0xB, 0xC, 4, 4⟩
def F.BAL_STAT_B_EST : Fld := ⟨0xB, 0xC, 3, 3⟩
def F.BAL_STAT_DELIVERING : Fld := ⟨0xB, 0xC, 2, 2⟩
def F.BAL_STAT_ACTIVE : Fld := ⟨0xB, 0xC, 1, 1⟩
def F.BAL_STAT_RUNNING : Fld := ⟨0xB, 0xC, 0, 0⟩
def F.BAL_CFG_PLAN_S : Fld := ⟨0xB, 0x40, 31, 24⟩
def F.BAL_CFG_MODE : Fld := ⟨0xB, 0x40, 21, 20⟩
def F.BAL_CFG_EIS_HOLD : Fld := ⟨0xB, 0x40, 19, 19⟩
def F.BAL_CFG_DEADBAND : Fld := ⟨0xB, 0x40, 15, 0⟩
def F.BAL_RDEF_R_DEF : Fld := ⟨0xB, 0x44, 15, 0⟩
def F.BAL_LAST_PLAN_ID : Fld := ⟨0xB, 0x48, 31, 24⟩
def F.BAL_LAST_CONFIRMED : Fld := ⟨0xB, 0x48, 23, 16⟩
def F.BAL_LAST_POS_ON : Fld := ⟨0xB, 0x48, 8, 0⟩
def F.BAL_LAST_EP_EPOCH : Fld := ⟨0xB, 0x4C, 31, 0⟩
def F.BAL_POS_SEL_POS : Fld := ⟨0xB, 0x50, 8, 0⟩
def F.BAL_POS_TGT_TGT : Fld := ⟨0xB, 0x54, 31, 0⟩
def F.BAL_POS_REM_B_EST : Fld := ⟨0xB, 0x58, 19, 19⟩
def F.BAL_POS_REM_EXCL : Fld := ⟨0xB, 0x58, 18, 18⟩
def F.BAL_POS_REM_STOPPED : Fld := ⟨0xB, 0x58, 17, 17⟩
def F.BAL_POS_REM_ON : Fld := ⟨0xB, 0x58, 16, 16⟩
def F.BAL_POS_REM_REMAIN : Fld := ⟨0xB, 0x58, 15, 0⟩
def F.BAL_POS_B_B_LO : Fld := ⟨0xB, 0x5C, 31, 0⟩
def F.BAL_POS_B_HI_B_HI : Fld := ⟨0xB, 0x60, 31, 0⟩
def F.BAL_CNT_PLANS : Fld := ⟨0xB, 0x64, 31, 16⟩
def F.BAL_CNT_FAILS : Fld := ⟨0xB, 0x64, 15, 0⟩
def F.PROT_CTRL_CLR_TRIP : Fld := ⟨0xC, 0x8, 2, 2⟩
def F.PROT_CTRL_SRESET : Fld := ⟨0xC, 0x8, 1, 1⟩
def F.PROT_CTRL_ENABLE : Fld := ⟨0xC, 0x8, 0, 0⟩
def F.PROT_STAT_PLAUS_OFF : Fld := ⟨0xC, 0xC, 8, 8⟩
def F.PROT_STAT_PLAUS_LIM : Fld := ⟨0xC, 0xC, 7, 7⟩
def F.PROT_STAT_RB_FAULT : Fld := ⟨0xC, 0xC, 6, 6⟩
def F.PROT_STAT_BRK_CMD : Fld := ⟨0xC, 0xC, 5, 5⟩
def F.PROT_STAT_TRIP_LATCHED : Fld := ⟨0xC, 0xC, 4, 4⟩
def F.PROT_STAT_CLAMP_CHG : Fld := ⟨0xC, 0xC, 3, 3⟩
def F.PROT_STAT_CLAMP_DIS : Fld := ⟨0xC, 0xC, 2, 2⟩
def F.PROT_STAT_SQUALL : Fld := ⟨0xC, 0xC, 1, 1⟩
def F.PROT_STAT_ARMED : Fld := ⟨0xC, 0xC, 0, 0⟩
def F.PROT_CCELL_VHI : Fld := ⟨0xC, 0x40, 27, 16⟩
def F.PROT_CCELL_VLO : Fld := ⟨0xC, 0x40, 11, 0⟩
def F.PROT_SQ_THR_NEG : Fld := ⟨0xC, 0x44, 24, 16⟩
def F.PROT_SQ_THR_POS : Fld := ⟨0xC, 0x44, 8, 0⟩
def F.PROT_SQ_STAT_LOADED : Fld := ⟨0xC, 0x48, 7, 7⟩
def F.PROT_SQ_STAT_CMP_POS : Fld := ⟨0xC, 0x48, 6, 6⟩
def F.PROT_SQ_STAT_CMP_NEG : Fld := ⟨0xC, 0x48, 5, 5⟩
def F.PROT_SQ_STAT_LATCH_POS : Fld := ⟨0xC, 0x48, 4, 4⟩
def F.PROT_SQ_STAT_LATCH_NEG : Fld := ⟨0xC, 0x48, 3, 3⟩
def F.PROT_SQ_STAT_RB_B : Fld := ⟨0xC, 0x48, 1, 1⟩
def F.PROT_SQ_STAT_RB_A : Fld := ⟨0xC, 0x48, 0, 0⟩
def F.PROT_SQ_T_T_LO : Fld := ⟨0xC, 0x4C, 31, 0⟩
def F.PROT_SQ_T_HI_T_HI : Fld := ⟨0xC, 0x50, 31, 0⟩
def F.PROT_SQ_TEST_GO : Fld := ⟨0xC, 0x54, 31, 31⟩
def F.PROT_SQ_TEST_POL : Fld := ⟨0xC, 0x54, 30, 30⟩
def F.PROT_SQ_TEST_DONE : Fld := ⟨0xC, 0x54, 29, 29⟩
def F.PROT_SQ_TEST_LAT_NS : Fld := ⟨0xC, 0x54, 15, 0⟩
def F.PROT_TRIP_RB : Fld := ⟨0xC, 0x58, 17, 17⟩
def F.PROT_TRIP_PLAUS : Fld := ⟨0xC, 0x58, 16, 16⟩
def F.PROT_TRIP_LIM : Fld := ⟨0xC, 0x58, 10, 0⟩
def F.PROT_CLAMP_CHG : Fld := ⟨0xC, 0x5C, 31, 16⟩
def F.PROT_CLAMP_DIS : Fld := ⟨0xC, 0x5C, 15, 0⟩
def F.PROT_PLAUS_T_S : Fld := ⟨0xC, 0x60, 31, 24⟩
def F.PROT_PLAUS_TACT : Fld := ⟨0xC, 0x60, 23, 22⟩
def F.PROT_PLAUS_TBLIND : Fld := ⟨0xC, 0x60, 21, 16⟩
def F.PROT_PLAUS_PLIM : Fld := ⟨0xC, 0x60, 11, 0⟩
def F.PROT_CNT_SQUALL : Fld := ⟨0xC, 0x64, 31, 16⟩
def F.PROT_CNT_TRIPS : Fld := ⟨0xC, 0x64, 15, 0⟩
def F.PROT_Lk_THR_WARN (k : Nat) : Fld := ⟨0xC, 0x80 + 0x10 * k, 31, 16⟩
def F.PROT_Lk_THR_TRIP (k : Nat) : Fld := ⟨0xC, 0x80 + 0x10 * k, 15, 0⟩
def F.PROT_Lk_CFG_SET_N (k : Nat) : Fld := ⟨0xC, 0x84 + 0x10 * k, 31, 16⟩
def F.PROT_Lk_CFG_CLR_N (k : Nat) : Fld := ⟨0xC, 0x84 + 0x10 * k, 15, 8⟩
def F.PROT_Lk_CFG_TACT (k : Nat) : Fld := ⟨0xC, 0x84 + 0x10 * k, 7, 6⟩
def F.PROT_Lk_CFG_WLIM (k : Nat) : Fld := ⟨0xC, 0x84 + 0x10 * k, 5, 5⟩
def F.PROT_Lk_HYS_HYS (k : Nat) : Fld := ⟨0xC, 0x88 + 0x10 * k, 15, 0⟩
def F.PROT_Lk_ST_TRIPPED (k : Nat) : Fld := ⟨0xC, 0x8C + 0x10 * k, 31, 31⟩
def F.PROT_Lk_ST_LIMIT (k : Nat) : Fld := ⟨0xC, 0x8C + 0x10 * k, 30, 30⟩
def F.PROT_Lk_ST_WARN (k : Nat) : Fld := ⟨0xC, 0x8C + 0x10 * k, 29, 29⟩
def F.PROT_Lk_ST_WORST_CH (k : Nat) : Fld := ⟨0xC, 0x8C + 0x10 * k, 24, 16⟩
def F.PROT_Lk_ST_WORST (k : Nat) : Fld := ⟨0xC, 0x8C + 0x10 * k, 15, 0⟩
def F.SAFE_CTRL_CLR_SF : Fld := ⟨0xD, 0x8, 2, 2⟩
def F.SAFE_CTRL_SRESET : Fld := ⟨0xD, 0x8, 1, 1⟩
def F.SAFE_CTRL_ENABLE : Fld := ⟨0xD, 0x8, 0, 0⟩
def F.SAFE_STAT_SF3_ARMED : Fld := ⟨0xD, 0xC, 9, 9⟩
def F.SAFE_STAT_RESET_READY : Fld := ⟨0xD, 0xC, 8, 8⟩
def F.SAFE_STAT_HOLDUP_OK : Fld := ⟨0xD, 0xC, 7, 7⟩
def F.SAFE_STAT_ACT_OK : Fld := ⟨0xD, 0xC, 6, 6⟩
def F.SAFE_STAT_BRK_CMD : Fld := ⟨0xD, 0xC, 5, 5⟩
def F.SAFE_STAT_STEST_RUN : Fld := ⟨0xD, 0xC, 4, 4⟩
def F.SAFE_STAT_LOCKOUT : Fld := ⟨0xD, 0xC, 3, 3⟩
def F.SAFE_STAT_SF_ACTIVE : Fld := ⟨0xD, 0xC, 2, 2⟩
def F.SAFE_STAT_TRIP : Fld := ⟨0xD, 0xC, 1, 1⟩
def F.SAFE_STAT_RUNNING : Fld := ⟨0xD, 0xC, 0, 0⟩
def F.SAFE_STATE_SEQ : Fld := ⟨0xD, 0x40, 26, 24⟩
def F.SAFE_STATE_SF : Fld := ⟨0xD, 0x40, 20, 16⟩
def F.SAFE_STATE_PERM_AUX : Fld := ⟨0xD, 0x40, 9, 9⟩
def F.SAFE_STATE_PERM_MAIN : Fld := ⟨0xD, 0x40, 8, 8⟩
def F.SAFE_STATE_OUT_CMD : Fld := ⟨0xD, 0x40, 7, 4⟩
def F.SAFE_STATE_OUT_RB : Fld := ⟨0xD, 0x40, 3, 0⟩
def F.SAFE_LOCKOUT_LATCHED : Fld := ⟨0xD, 0x44, 31, 31⟩
def F.SAFE_LOCKOUT_NV_PEND : Fld := ⟨0xD, 0x44, 30, 30⟩
def F.SAFE_LOCKOUT_COUNT : Fld := ⟨0xD, 0x44, 15, 8⟩
def F.SAFE_LOCKOUT_CAUSE : Fld := ⟨0xD, 0x44, 7, 0⟩
def F.SAFE_LO_T_OPSEC : Fld := ⟨0xD, 0x48, 31, 0⟩
def F.SAFE_LO_EP_EPOCH : Fld := ⟨0xD, 0x4C, 31, 0⟩
def F.SAFE_IN_FAULT : Fld := ⟨0xD, 0x50, 31, 24⟩
def F.SAFE_IN_RESET : Fld := ⟨0xD, 0x50, 16, 16⟩
def F.SAFE_IN_FILT : Fld := ⟨0xD, 0x50, 15, 8⟩
def F.SAFE_IN_RAW : Fld := ⟨0xD, 0x50, 7, 0⟩
def F.SAFE_IN_CFG_DISC_MS : Fld := ⟨0xD, 0x54, 31, 16⟩
def F.SAFE_IN_CFG_SI8_STATIC : Fld := ⟨0xD, 0x54, 8, 8⟩
def F.SAFE_IN_CFG_FB_EN : Fld := ⟨0xD, 0x54, 2, 0⟩
def F.SAFE_SF_CFG_SF2_MAN : Fld := ⟨0xD, 0x58, 8, 8⟩
def F.SAFE_SF_CFG_BRK5 : Fld := ⟨0xD, 0x58, 3, 3⟩
def F.SAFE_SF_CFG_BRK3 : Fld := ⟨0xD, 0x58, 2, 2⟩
def F.SAFE_SF_CFG_BRK2 : Fld := ⟨0xD, 0x58, 1, 1⟩
def F.SAFE_SF_CFG_BRK1 : Fld := ⟨0xD, 0x58, 0, 0⟩
def F.SAFE_SEQ_CLOSE : Fld := ⟨0xD, 0x5C, 31, 24⟩
def F.SAFE_SEQ_FB : Fld := ⟨0xD, 0x5C, 23, 16⟩
def F.SAFE_SEQ_OPEN_TO : Fld := ⟨0xD, 0x5C, 15, 8⟩
def F.SAFE_SEQ_I_OPEN : Fld := ⟨0xD, 0x5C, 7, 0⟩
def F.SAFE_PRE_T_MIN : Fld := ⟨0xD, 0x60, 31, 24⟩
def F.SAFE_PRE_T_MAX : Fld := ⟨0xD, 0x60, 23, 12⟩
def F.SAFE_PRE_I_END : Fld := ⟨0xD, 0x60, 11, 0⟩
def F.SAFE_STEST_PASS : Fld := ⟨0xD, 0x64, 7, 0⟩
def F.SAFE_SF3_VERDICT : Fld := ⟨0xD, 0x68, 31, 30⟩
def F.SAFE_SF3_POS : Fld := ⟨0xD, 0x68, 8, 0⟩
def F.SAFE_CNT_DEMANDS : Fld := ⟨0xD, 0x6C, 31, 16⟩
def F.SAFE_CNT_ABORTS : Fld := ⟨0xD, 0x6C, 15, 0⟩
def F.CLE_MODE_POWER : Fld := ⟨0xE, 0x40, 0, 0⟩
def F.CLE_PWM_F_F_HZ : Fld := ⟨0xE, 0x50, 14, 0⟩
def F.CLE_GT_SEL_COMMIT : Fld := ⟨0xE, 0x44, 31, 31⟩
def F.CLE_GT_SEL_LOOP : Fld := ⟨0xE, 0x44, 26, 24⟩
def F.CLE_GT_SEL_IDX : Fld := ⟨0xE, 0x44, 5, 0⟩
def F.CLE_GT_ERR_ERR : Fld := ⟨0xE, 0x48, 31, 0⟩
def F.CLE_GT_GAIN_GAIN : Fld := ⟨0xE, 0x4C, 31, 0⟩
def F.CLE_TACH_TACH2 : Fld := ⟨0xE, 0x54, 31, 16⟩
def F.CLE_TACH_TACH1 : Fld := ⟨0xE, 0x54, 15, 0⟩
def F.CLE_TACH_HI_TACH4 : Fld := ⟨0xE, 0x58, 31, 16⟩
def F.CLE_TACH_HI_TACH3 : Fld := ⟨0xE, 0x58, 15, 0⟩
def F.CLE_Lk_CFG_EN (k : Nat) : Fld := ⟨0xE, 0x100 + 0x80 * k, 31, 31⟩
def F.CLE_Lk_CFG_INV (k : Nat) : Fld := ⟨0xE, 0x100 + 0x80 * k, 30, 30⟩
def F.CLE_Lk_CFG_APP_SP (k : Nat) : Fld := ⟨0xE, 0x100 + 0x80 * k, 29, 29⟩
def F.CLE_Lk_CFG_RATE (k : Nat) : Fld := ⟨0xE, 0x100 + 0x80 * k, 28, 26⟩
def F.CLE_Lk_CFG_FC_N (k : Nat) : Fld := ⟨0xE, 0x100 + 0x80 * k, 23, 16⟩
def F.CLE_Lk_CFG_FC_D (k : Nat) : Fld := ⟨0xE, 0x100 + 0x80 * k, 15, 12⟩
def F.CLE_Lk_SRC_MODE (k : Nat) : Fld := ⟨0xE, 0x104 + 0x80 * k, 31, 30⟩
def F.CLE_Lk_SRC_INDEX (k : Nat) : Fld := ⟨0xE, 0x104 + 0x80 * k, 15, 0⟩
def F.CLE_Lk_DST_PWM (k : Nat) : Fld := ⟨0xE, 0x108 + 0x80 * k, 7, 4⟩
def F.CLE_Lk_DST_AO (k : Nat) : Fld := ⟨0xE, 0x108 + 0x80 * k, 3, 0⟩
def F.CLE_Lk_CTRL_FULL (k : Nat) : Fld := ⟨0xE, 0x10C + 0x80 * k, 2, 2⟩
def F.CLE_Lk_CTRL_CLR_PLAUS (k : Nat) : Fld := ⟨0xE, 0x10C + 0x80 * k, 1, 1⟩
def F.CLE_Lk_CTRL_HOLD (k : Nat) : Fld := ⟨0xE, 0x10C + 0x80 * k, 0, 0⟩
def F.CLE_Lk_STAT_FORCED_ZERO (k : Nat) : Fld := ⟨0xE, 0x110 + 0x80 * k, 7, 7⟩
def F.CLE_Lk_STAT_CLIP (k : Nat) : Fld := ⟨0xE, 0x110 + 0x80 * k, 6, 6⟩
def F.CLE_Lk_STAT_AT_SP (k : Nat) : Fld := ⟨0xE, 0x110 + 0x80 * k, 5, 5⟩
def F.CLE_Lk_STAT_RAMP_DN (k : Nat) : Fld := ⟨0xE, 0x110 + 0x80 * k, 4, 4⟩
def F.CLE_Lk_STAT_RAMP_UP (k : Nat) : Fld := ⟨0xE, 0x110 + 0x80 * k, 3, 3⟩
def F.CLE_Lk_STAT_INT_HOLD (k : Nat) : Fld := ⟨0xE, 0x110 + 0x80 * k, 2, 2⟩
def F.CLE_Lk_STAT_PLAUS (k : Nat) : Fld := ⟨0xE, 0x110 + 0x80 * k, 1, 1⟩
def F.CLE_Lk_STAT_RUN (k : Nat) : Fld := ⟨0xE, 0x110 + 0x80 * k, 0, 0⟩
def F.CLE_Lk_SP_V (k : Nat) : Fld := ⟨0xE, 0x114 + 0x80 * k, 31, 0⟩
def F.CLE_Lk_SP_RL_V (k : Nat) : Fld := ⟨0xE, 0x118 + 0x80 * k, 31, 0⟩
def F.CLE_Lk_FB_V (k : Nat) : Fld := ⟨0xE, 0x11C + 0x80 * k, 31, 0⟩
def F.CLE_Lk_OUT_V (k : Nat) : Fld := ⟨0xE, 0x120 + 0x80 * k, 31, 0⟩
def F.CLE_Lk_RESID_V (k : Nat) : Fld := ⟨0xE, 0x124 + 0x80 * k, 31, 0⟩
def F.CLE_Lk_RATE_UP_V (k : Nat) : Fld := ⟨0xE, 0x128 + 0x80 * k, 31, 0⟩
def F.CLE_Lk_RATE_DN_V (k : Nat) : Fld := ⟨0xE, 0x12C + 0x80 * k, 31, 0⟩
def F.CLE_Lk_FF_V (k : Nat) : Fld := ⟨0xE, 0x130 + 0x80 * k, 31, 0⟩
def F.CLE_Lk_KP_V (k : Nat) : Fld := ⟨0xE, 0x134 + 0x80 * k, 31, 0⟩
def F.CLE_Lk_KI_V (k : Nat) : Fld := ⟨0xE, 0x138 + 0x80 * k, 31, 0⟩
def F.CLE_Lk_OUT_MIN_V (k : Nat) : Fld := ⟨0xE, 0x13C + 0x80 * k, 31, 0⟩
def F.CLE_Lk_OUT_MAX_V (k : Nat) : Fld := ⟨0xE, 0x140 + 0x80 * k, 31, 0⟩
def F.CLE_Lk_FC_K_V (k : Nat) : Fld := ⟨0xE, 0x144 + 0x80 * k, 31, 0⟩
def F.CLE_Lk_FC_TAU_V (k : Nat) : Fld := ⟨0xE, 0x148 + 0x80 * k, 31, 0⟩
def F.CLE_Lk_FC_LIM_V (k : Nat) : Fld := ⟨0xE, 0x14C + 0x80 * k, 31, 0⟩
def F.CLE_Lk_TRC_CFG_ARM (k : Nat) : Fld := ⟨0xE, 0x150 + 0x80 * k, 31, 31⟩
def F.CLE_Lk_TRC_CFG_FORCE (k : Nat) : Fld := ⟨0xE, 0x150 + 0x80 * k, 30, 30⟩
def F.CLE_Lk_TRC_CFG_NODE (k : Nat) : Fld := ⟨0xE, 0x150 + 0x80 * k, 29, 27⟩
def F.CLE_Lk_TRC_CFG_SRC (k : Nat) : Fld := ⟨0xE, 0x150 + 0x80 * k, 26, 24⟩
def F.CLE_Lk_TRC_CFG_EDGE (k : Nat) : Fld := ⟨0xE, 0x150 + 0x80 * k, 23, 22⟩
def F.CLE_Lk_TRC_CFG_PRE (k : Nat) : Fld := ⟨0xE, 0x150 + 0x80 * k, 12, 0⟩
def F.CLE_Lk_TRC_LEVEL_LEVEL (k : Nat) : Fld := ⟨0xE, 0x154 + 0x80 * k, 31, 0⟩
def F.CLE_Lk_TRC_DEC_DEC (k : Nat) : Fld := ⟨0xE, 0x158 + 0x80 * k, 15, 0⟩
def F.CLE_Lk_TRC_STAT_ARMED (k : Nat) : Fld := ⟨0xE, 0x15C + 0x80 * k, 31, 31⟩
def F.CLE_Lk_TRC_STAT_TRIGGERED (k : Nat) : Fld := ⟨0xE, 0x15C + 0x80 * k, 30, 30⟩
def F.CLE_Lk_TRC_STAT_DONE (k : Nat) : Fld := ⟨0xE, 0x15C + 0x80 * k, 29, 29⟩
def F.CLE_Lk_TRC_STAT_TRIG_IDX (k : Nat) : Fld := ⟨0xE, 0x15C + 0x80 * k, 12, 0⟩
def F.CLE_Lk_TRC_EVT_CODE (k : Nat) : Fld := ⟨0xE, 0x160 + 0x80 * k, 15, 0⟩
def F.CLINK_STAT_CONV_FAULT : Fld := ⟨0xF, 0xC, 4, 4⟩
def F.CLINK_STAT_LOST : Fld := ⟨0xF, 0xC, 3, 3⟩
def F.CLINK_STAT_MERGE : Fld := ⟨0xF, 0xC, 2, 2⟩
def F.CLINK_STAT_RX_OK : Fld := ⟨0xF, 0xC, 1, 1⟩
def F.CLINK_STAT_RUNNING : Fld := ⟨0xF, 0xC, 0, 0⟩
def F.CLINK_CFG_LOSS_N : Fld := ⟨0xF, 0x40, 31, 24⟩
def F.CLINK_CFG_REGAIN_N : Fld := ⟨0xF, 0x40, 15, 0⟩
def F.CLINK_RATED_I_RATED : Fld := ⟨0xF, 0x44, 13, 0⟩
def F.CLINK_REF_I_REF : Fld := ⟨0xF, 0x48, 31, 0⟩
def F.CLINK_MEAS_I_MEAS : Fld := ⟨0xF, 0x4C, 31, 0⟩
def F.CLINK_CONV_V_LINK : Fld := ⟨0xF, 0x50, 31, 16⟩
def F.CLINK_CONV_T_CONV : Fld := ⟨0xF, 0x50, 15, 8⟩
def F.CLINK_CONV_FAULT : Fld := ⟨0xF, 0x50, 7, 0⟩
def F.CLINK_RXSTAT_STATUS : Fld := ⟨0xF, 0x54, 15, 0⟩
def F.CLINK_AVAIL_CHG : Fld := ⟨0xF, 0x58, 31, 16⟩
def F.CLINK_AVAIL_DIS : Fld := ⟨0xF, 0x58, 15, 0⟩
def F.CLINK_ERR_CRC : Fld := ⟨0xF, 0x5C, 31, 16⟩
def F.CLINK_ERR_MISSING : Fld := ⟨0xF, 0x5C, 15, 0⟩
def F.CLINK_LOSTCNT_LOST : Fld := ⟨0xF, 0x60, 15, 0⟩
def F.ORD_CTRL_REBASE : Fld := ⟨0x10, 0x8, 2, 2⟩
def F.ORD_CTRL_SRESET : Fld := ⟨0x10, 0x8, 1, 1⟩
def F.ORD_CTRL_ENABLE : Fld := ⟨0x10, 0x8, 0, 0⟩
def F.ORD_STAT_GAP : Fld := ⟨0x10, 0xC, 7, 7⟩
def F.ORD_STAT_WAITING : Fld := ⟨0x10, 0xC, 6, 6⟩
def F.ORD_STAT_HELD_STATE : Fld := ⟨0x10, 0xC, 5, 5⟩
def F.ORD_STAT_HELD_BO : Fld := ⟨0x10, 0xC, 4, 4⟩
def F.ORD_STAT_WAIT_TOE : Fld := ⟨0x10, 0xC, 3, 3⟩
def F.ORD_STAT_WAIT_STEP : Fld := ⟨0x10, 0xC, 2, 2⟩
def F.ORD_STAT_SINGLE : Fld := ⟨0x10, 0xC, 1, 1⟩
def F.ORD_STAT_RUNNING : Fld := ⟨0x10, 0xC, 0, 0⟩
def F.ORD_NEXT_SEQ_NEXT : Fld := ⟨0x10, 0x40, 31, 0⟩
def F.ORD_OLDEST_OLDEST : Fld := ⟨0x10, 0x44, 31, 0⟩
def F.ORD_INFLIGHT_BEYOND : Fld := ⟨0x10, 0x48, 15, 8⟩
def F.ORD_INFLIGHT_COUNT : Fld := ⟨0x10, 0x48, 7, 0⟩
def F.ORD_LAST_SEQ : Fld := ⟨0x10, 0x4C, 31, 0⟩
def F.ORD_LAST_RES_TYPE : Fld := ⟨0x10, 0x50, 31, 24⟩
def F.ORD_LAST_RES_RESULT : Fld := ⟨0x10, 0x50, 23, 16⟩
def F.ORD_LAST_RES_DFLAGS : Fld := ⟨0x10, 0x50, 15, 8⟩
def F.ORD_NEXT_TX_TX_LO : Fld := ⟨0x10, 0x54, 31, 0⟩
def F.ORD_NEXT_TX_HI_TX_HI : Fld := ⟨0x10, 0x58, 31, 0⟩
def F.ORD_CFG_GAP_TO_S : Fld := ⟨0x10, 0x5C, 31, 16⟩
def F.ORD_CFG_GAP_MS : Fld := ⟨0x10, 0x5C, 7, 0⟩
def F.ORD_CONTACT_AUX_REQ : Fld := ⟨0x10, 0x60, 1, 1⟩
def F.ORD_CONTACT_MAIN_REQ : Fld := ⟨0x10, 0x60, 0, 0⟩
def F.ORD_REBASE_SEQ : Fld := ⟨0x10, 0x64, 31, 0⟩
def F.ORD_CNT_COMMITTED : Fld := ⟨0x10, 0x68, 31, 16⟩
def F.ORD_CNT_DUPLICATES : Fld := ⟨0x10, 0x68, 15, 0⟩
def F.ORD_CNT2_LATE : Fld := ⟨0x10, 0x6C, 31, 16⟩
def F.ORD_CNT2_NONZERO : Fld := ⟨0x10, 0x6C, 15, 0⟩
def F.TALLY_CTRL_STOP : Fld := ⟨0x11, 0x8, 5, 5⟩
def F.TALLY_CTRL_RUN : Fld := ⟨0x11, 0x8, 4, 4⟩
def F.TALLY_CTRL_LOAD : Fld := ⟨0x11, 0x8, 3, 3⟩
def F.TALLY_CTRL_SRESET : Fld := ⟨0x11, 0x8, 1, 1⟩
def F.TALLY_CTRL_ENABLE : Fld := ⟨0x11, 0x8, 0, 0⟩
def F.TALLY_STAT_SUBST_ANY : Fld := ⟨0x11, 0xC, 9, 9⟩
def F.TALLY_STAT_STALE_ANY : Fld := ⟨0x11, 0xC, 8, 8⟩
def F.TALLY_STAT_WCET_OVER : Fld := ⟨0x11, 0xC, 7, 7⟩
def F.TALLY_STAT_OVR : Fld := ⟨0x11, 0xC, 6, 6⟩
def F.TALLY_STAT_LOADING : Fld := ⟨0x11, 0xC, 5, 5⟩
def F.TALLY_STAT_LOADED : Fld := ⟨0x11, 0xC, 4, 4⟩
def F.TALLY_STAT_FIRST : Fld := ⟨0x11, 0xC, 3, 3⟩
def F.TALLY_STAT_STATE : Fld := ⟨0x11, 0xC, 1, 0⟩
def F.TALLY_IMG_BASE_BASE : Fld := ⟨0x11, 0x40, 31, 6⟩
def F.TALLY_RUN_EP_EPOCH : Fld := ⟨0x11, 0x44, 31, 0⟩
def F.TALLY_LDERR_REASON : Fld := ⟨0x11, 0x48, 31, 24⟩
def F.TALLY_LDERR_INDEX : Fld := ⟨0x11, 0x48, 12, 0⟩
def F.TALLY_TIMING_WCET_US : Fld := ⟨0x11, 0x4C, 31, 16⟩
def F.TALLY_TIMING_CYCLE : Fld := ⟨0x11, 0x4C, 7, 0⟩
def F.TALLY_EXEC_MAX_US : Fld := ⟨0x11, 0x50, 31, 16⟩
def F.TALLY_EXEC_LAST_US : Fld := ⟨0x11, 0x50, 15, 0⟩
def F.TALLY_CNT_OVERRUNS : Fld := ⟨0x11, 0x54, 31, 16⟩
def F.TALLY_CNT_DROPOUTS : Fld := ⟨0x11, 0x54, 15, 0⟩
def F.TALLY_CYC_CYC : Fld := ⟨0x11, 0x58, 31, 0⟩
def F.TALLY_UIN_UIN : Fld := ⟨0x11, 0x5C, 31, 0⟩
def F.TALLY_Q_Q : Fld := ⟨0x11, 0x60, 9, 0⟩
def F.TALLY_STA_STALE : Fld := ⟨0x11, 0x64, 31, 16⟩
def F.TALLY_STA_OK : Fld := ⟨0x11, 0x64, 15, 0⟩
def F.TALLY_STA_SUB_SUBST : Fld := ⟨0x11, 0x68, 15, 0⟩
def F.TALLY_IMG_CRC_CRC : Fld := ⟨0x11, 0x6C, 31, 0⟩
def F.TALLY_PCRC_PCRC : Fld := ⟨0x11, 0x70, 31, 0⟩
def F.TALLY_BUILD_BUILD : Fld := ⟨0x11, 0x74, 31, 0⟩
def F.TALLY_M_SEL_WORD : Fld := ⟨0x11, 0x78, 5, 0⟩
def F.TALLY_M_M : Fld := ⟨0x11, 0x7C, 31, 0⟩
def F.LANE_CTRL_INJECT : Fld := ⟨0x12, 0x8, 5, 5⟩
def F.LANE_CTRL_SWAP : Fld := ⟨0x12, 0x8, 4, 4⟩
def F.LANE_CTRL_SYNC : Fld := ⟨0x12, 0x8, 3, 3⟩
def F.LANE_CTRL_LRESET : Fld := ⟨0x12, 0x8, 2, 2⟩
def F.LANE_CTRL_SRESET : Fld := ⟨0x12, 0x8, 1, 1⟩
def F.LANE_CTRL_ENABLE : Fld := ⟨0x12, 0x8, 0, 0⟩
def F.LANE_STAT_DIVERGED : Fld := ⟨0x12, 0xC, 3, 3⟩
def F.LANE_STAT_SYNCING : Fld := ⟨0x12, 0xC, 2, 2⟩
def F.LANE_STAT_MERGE : Fld := ⟨0x12, 0xC, 1, 1⟩
def F.LANE_STAT_DUAL : Fld := ⟨0x12, 0xC, 0, 0⟩
def F.LANE_AUTH_MERGE : Fld := ⟨0x12, 0x40, 31, 31⟩
def F.LANE_AUTH_CAUSE : Fld := ⟨0x12, 0x40, 18, 16⟩
def F.LANE_AUTH_OWNER : Fld := ⟨0x12, 0x40, 1, 0⟩
def F.LANE_STATE_B : Fld := ⟨0x12, 0x44, 6, 4⟩
def F.LANE_STATE_A : Fld := ⟨0x12, 0x44, 2, 0⟩
def F.LANE_HEALTH_B : Fld := ⟨0x12, 0x48, 23, 16⟩
def F.LANE_HEALTH_A : Fld := ⟨0x12, 0x48, 7, 0⟩
def F.LANE_CFG_MERGE_US : Fld := ⟨0x12, 0x4C, 31, 16⟩
def F.LANE_CFG_DIV_N : Fld := ⟨0x12, 0x4C, 15, 8⟩
def F.LANE_CFG_APP_WD_ACT : Fld := ⟨0x12, 0x4C, 3, 3⟩
def F.LANE_CFG_AUTO_SYNC : Fld := ⟨0x12, 0x4C, 2, 2⟩
def F.LANE_CFG_AUTO_RST : Fld := ⟨0x12, 0x4C, 1, 1⟩
def F.LANE_CFG_PREF : Fld := ⟨0x12, 0x4C, 0, 0⟩
def F.LANE_WDOG_REMAIN_B : Fld := ⟨0x12, 0x50, 31, 16⟩
def F.LANE_WDOG_REMAIN_A : Fld := ⟨0x12, 0x50, 15, 0⟩
def F.LANE_APP_WD_KICK : Fld := ⟨0x12, 0x54, 31, 31⟩
def F.LANE_APP_WD_TO_MS : Fld := ⟨0x12, 0x54, 15, 0⟩
def F.LANE_RDY_RDY_B : Fld := ⟨0x12, 0x58, 1, 1⟩
def F.LANE_RDY_RDY_A : Fld := ⟨0x12, 0x58, 0, 0⟩
def F.LANE_DIV_COUNT : Fld := ⟨0x12, 0x5C, 31, 16⟩
def F.LANE_DIV_CLE : Fld := ⟨0x12, 0x5C, 2, 2⟩
def F.LANE_DIV_TALLY : Fld := ⟨0x12, 0x5C, 1, 1⟩
def F.LANE_DIV_EST : Fld := ⟨0x12, 0x5C, 0, 0⟩
def F.LANE_CNT_HANDOVERS : Fld := ⟨0x12, 0x68, 31, 16⟩
def F.LANE_CNT_REJOINS : Fld := ⟨0x12, 0x68, 15, 0⟩
def F.LANE_SYNC_EP_EPOCH : Fld := ⟨0x12, 0x6C, 31, 0⟩
def F.LANE_HO_T_T_LO : Fld := ⟨0x12, 0x60, 31, 0⟩
def F.LANE_HO_T_HI_T_HI : Fld := ⟨0x12, 0x64, 31, 0⟩
def F.LANE_TBL_CRC_A_CRC : Fld := ⟨0x12, 0x70, 31, 0⟩
def F.LANE_TBL_CRC_B_CRC : Fld := ⟨0x12, 0x74, 31, 0⟩
def F.CBUS_CTRL_AUTO_REC : Fld := ⟨0x13, 0x8, 5, 5⟩
def F.CBUS_CTRL_BO_REC : Fld := ⟨0x13, 0x8, 4, 4⟩
def F.CBUS_CTRL_SRESET : Fld := ⟨0x13, 0x8, 1, 1⟩
def F.CBUS_CTRL_ENABLE : Fld := ⟨0x13, 0x8, 0, 0⟩
def F.CBUS_STAT_TX_ROLE : Fld := ⟨0x13, 0xC, 8, 8⟩
def F.CBUS_STAT_FSTATE : Fld := ⟨0x13, 0xC, 7, 6⟩
def F.CBUS_STAT_BO_RECOVERING : Fld := ⟨0x13, 0xC, 5, 5⟩
def F.CBUS_STAT_IDLE : Fld := ⟨0x13, 0xC, 4, 4⟩
def F.CBUS_STAT_RXF_NE : Fld := ⟨0x13, 0xC, 3, 3⟩
def F.CBUS_STAT_WARN : Fld := ⟨0x13, 0xC, 2, 2⟩
def F.CBUS_STAT_ON : Fld := ⟨0x13, 0xC, 0, 0⟩
def F.CBUS_NODE_NODE : Fld := ⟨0x13, 0x40, 5, 0⟩
def F.CBUS_FDCFG_PEX : Fld := ⟨0x13, 0x4C, 1, 1⟩
def F.CBUS_FDCFG_BRS_EN : Fld := ⟨0x13, 0x4C, 0, 0⟩
def F.CBUS_TDC_TDCV : Fld := ⟨0x13, 0x54, 7, 0⟩
def F.CBUS_NBT_BRP_M1 : Fld := ⟨0x13, 0x44, 31, 28⟩
def F.CBUS_NBT_PROP : Fld := ⟨0x13, 0x44, 27, 21⟩
def F.CBUS_NBT_PH1 : Fld := ⟨0x13, 0x44, 20, 14⟩
def F.CBUS_NBT_PH2 : Fld := ⟨0x13, 0x44, 13, 7⟩
def F.CBUS_NBT_SJW : Fld := ⟨0x13, 0x44, 6, 0⟩
def F.CBUS_DBT_BRP_M1 : Fld := ⟨0x13, 0x48, 31, 28⟩
def F.CBUS_DBT_PROP : Fld := ⟨0x13, 0x48, 27, 23⟩
def F.CBUS_DBT_PH1 : Fld := ⟨0x13, 0x48, 22, 18⟩
def F.CBUS_DBT_PH2 : Fld := ⟨0x13, 0x48, 17, 13⟩
def F.CBUS_DBT_SJW : Fld := ⟨0x13, 0x48, 12, 8⟩
def F.CBUS_DBT_TDC_EN : Fld := ⟨0x13, 0x48, 7, 7⟩
def F.CBUS_DBT_TDCO : Fld := ⟨0x13, 0x48, 6, 0⟩
def F.CBUS_ERR_TEC : Fld := ⟨0x13, 0x50, 23, 16⟩
def F.CBUS_ERR_REC_P : Fld := ⟨0x13, 0x50, 15, 15⟩
def F.CBUS_ERR_REC : Fld := ⟨0x13, 0x50, 14, 8⟩
def F.CBUS_ERR_DLEC : Fld := ⟨0x13, 0x50, 7, 4⟩
def F.CBUS_ERR_LEC : Fld := ⟨0x13, 0x50, 3, 0⟩
def F.CBUS_TXCFG_SHADOW_US : Fld := ⟨0x13, 0x58, 31, 16⟩
def F.CBUS_TXCFG_MODE : Fld := ⟨0x13, 0x58, 0, 0⟩
def F.CBUS_TXREQ_CAN : Fld := ⟨0x13, 0x5C, 18, 16⟩
def F.CBUS_TXREQ_REQ : Fld := ⟨0x13, 0x5C, 2, 0⟩
def F.CBUS_TXSTAT_ST : Fld := ⟨0x13, 0x60, 11, 0⟩
def F.CBUS_RXCFG_STA_COPY : Fld := ⟨0x13, 0x64, 1, 1⟩
def F.CBUS_RXCFG_ACC_ALL : Fld := ⟨0x13, 0x64, 0, 0⟩
def F.CBUS_RXSTAT_FIFO_LVL : Fld := ⟨0x13, 0x68, 20, 16⟩
def F.CBUS_RXSTAT_B1_LOCK : Fld := ⟨0x13, 0x68, 9, 9⟩
def F.CBUS_RXSTAT_B0_LOCK : Fld := ⟨0x13, 0x68, 8, 8⟩
def F.CBUS_RXSTAT_B1_PEND : Fld := ⟨0x13, 0x68, 1, 1⟩
def F.CBUS_RXSTAT_B0_PEND : Fld := ⟨0x13, 0x68, 0, 0⟩
def F.CBUS_BAR_ARRIVE : Fld := ⟨0x13, 0x70, 31, 31⟩
def F.CBUS_BAR_DONE : Fld := ⟨0x13, 0x70, 30, 30⟩
def F.CBUS_BAR_BUSY : Fld := ⟨0x13, 0x70, 29, 29⟩
def F.CBUS_BAR_TO_MS : Fld := ⟨0x13, 0x70, 28, 16⟩
def F.CBUS_BAR_NUM : Fld := ⟨0x13, 0x70, 11, 0⟩
def F.CBUS_BAR_MASK_MASK_LO : Fld := ⟨0x13, 0x74, 31, 0⟩
def F.CBUS_BAR_MASK_HI_MASK_HI : Fld := ⟨0x13, 0x78, 31, 0⟩
def F.CBUS_BAR_SEEN_SEEN_LO : Fld := ⟨0x13, 0x7C, 31, 0⟩
def F.CBUS_BAR_SEEN_HI_SEEN_HI : Fld := ⟨0x13, 0x80, 31, 0⟩
def F.CBUS_BAR_T_T_US : Fld := ⟨0x13, 0x84, 31, 0⟩
def F.CBUS_CNT_TX : Fld := ⟨0x13, 0x88, 31, 16⟩
def F.CBUS_CNT_RX : Fld := ⟨0x13, 0x88, 15, 0⟩
def F.CBUS_RXLOST_FIFO : Fld := ⟨0x13, 0x8C, 31, 16⟩
def F.CBUS_RXLOST_OVW : Fld := ⟨0x13, 0x8C, 15, 0⟩
def F.CBUS_STR_RES11 : Fld := ⟨0x13, 0x90, 31, 16⟩
def F.CBUS_STR_RESTYPE : Fld := ⟨0x13, 0x90, 15, 8⟩
def F.CBUS_STR_CLASH : Fld := ⟨0x13, 0x90, 7, 0⟩
def F.CBUS_STAQ_OVERTAKEN : Fld := ⟨0x13, 0x94, 31, 16⟩
def F.CBUS_STAQ_LEVEL : Fld := ⟨0x13, 0x94, 4, 0⟩
def F.CBUS_WAKE_WAKE_EN : Fld := ⟨0x13, 0x98, 0, 0⟩
def F.CBUS_FLT_ID_IDE (k : Nat) : Fld := ⟨0x13, 0x400 + 0x10 * k, 31, 31⟩
def F.CBUS_FLT_ID_ID (k : Nat) : Fld := ⟨0x13, 0x400 + 0x10 * k, 28, 0⟩
def F.CBUS_FLT_MASK_MASK (k : Nat) : Fld := ⟨0x13, 0x404 + 0x10 * k, 28, 0⟩
def F.CBUS_FLT_CFG_EN (k : Nat) : Fld := ⟨0x13, 0x408 + 0x10 * k, 31, 31⟩
def F.CBUS_FLT_CFG_DEST (k : Nat) : Fld := ⟨0x13, 0x408 + 0x10 * k, 1, 0⟩
def F.PLNK_CTRL_LINK_RST : Fld := ⟨0x14, 0x8, 2, 2⟩
def F.PLNK_CTRL_SRESET : Fld := ⟨0x14, 0x8, 1, 1⟩
def F.PLNK_CTRL_ENABLE : Fld := ⟨0x14, 0x8, 0, 0⟩
def F.PLNK_STAT_DAD_FAIL : Fld := ⟨0x14, 0xC, 5, 5⟩
def F.PLNK_STAT_RESENDING : Fld := ⟨0x14, 0xC, 4, 4⟩
def F.PLNK_STAT_ROLE : Fld := ⟨0x14, 0xC, 3, 3⟩
def F.PLNK_STAT_ADDR_OK : Fld := ⟨0x14, 0xC, 2, 2⟩
def F.PLNK_STAT_LINK_UP : Fld := ⟨0x14, 0xC, 1, 1⟩
def F.PLNK_STAT_RUNNING : Fld := ⟨0x14, 0xC, 0, 0⟩
def F.PLNK_CFG_MASTER : Fld := ⟨0x14, 0x40, 31, 31⟩
def F.PLNK_CFG_IP4 : Fld := ⟨0x14, 0x40, 30, 30⟩
def F.PLNK_CFG_VLAN_EN : Fld := ⟨0x14, 0x40, 29, 29⟩
def F.PLNK_CFG_PCP : Fld := ⟨0x14, 0x40, 28, 26⟩
def F.PLNK_CFG_VID : Fld := ⟨0x14, 0x40, 23, 12⟩
def F.PLNK_MTU_MTU : Fld := ⟨0x14, 0x44, 15, 0⟩
def F.PLNK_MAC_MAC_LO : Fld := ⟨0x14, 0x48, 31, 0⟩
def F.PLNK_MAC_HI_MAC_HI : Fld := ⟨0x14, 0x4C, 15, 0⟩
def F.PLNK_IP6_ADDR_k (k : Nat) : Fld := ⟨0x14, 0x50 + 0x4 * k, 31, 0⟩
def F.PLNK_GW6_ADDR_k (k : Nat) : Fld := ⟨0x14, 0x60 + 0x4 * k, 31, 0⟩
def F.PLNK_HOST6_ADDR_k (k : Nat) : Fld := ⟨0x14, 0x70 + 0x4 * k, 31, 0⟩
def F.PLNK_ACC6_ADDR_k (k : Nat) : Fld := ⟨0x14, 0x80 + 0x4 * k, 31, 0⟩
def F.PLNK_IP4_ADDR_k : Fld := ⟨0x14, 0x90, 31, 0⟩
def F.PLNK_GW4_ADDR_k : Fld := ⟨0x14, 0x94, 31, 0⟩
def F.PLNK_HOST4_ADDR_k : Fld := ⟨0x14, 0x98, 31, 0⟩
def F.PLNK_ACC4_ADDR_k : Fld := ⟨0x14, 0x9C, 31, 0⟩
def F.PLNK_PFX_P6 : Fld := ⟨0x14, 0xA0, 31, 24⟩
def F.PLNK_PFX_A6 : Fld := ⟨0x14, 0xA0, 23, 16⟩
def F.PLNK_PFX_P4 : Fld := ⟨0x14, 0xA0, 15, 8⟩
def F.PLNK_PFX_A4 : Fld := ⟨0x14, 0xA0, 7, 0⟩
def F.PLNK_HB_PERIOD_MS : Fld := ⟨0x14, 0xA4, 15, 0⟩
def F.PLNK_RET_BASE_BASE : Fld := ⟨0x14, 0xA8, 31, 12⟩
def F.PLNK_RET_SIZE_SIZE : Fld := ⟨0x14, 0xAC, 31, 0⟩
def F.PLNK_RET_AGE_S : Fld := ⟨0x14, 0xB0, 31, 16⟩
def F.PLNK_RET_EARLY : Fld := ⟨0x14, 0xB0, 15, 0⟩
def F.PLNK_RESEND_MBPS : Fld := ⟨0x14, 0xB4, 31, 16⟩
def F.PLNK_RESEND_PEND : Fld := ⟨0x14, 0xB4, 4, 0⟩
def F.PLNK_EVT_BATCH_US : Fld := ⟨0x14, 0xC4, 15, 0⟩
def F.PLNK_TRC_AUTO : Fld := ⟨0x14, 0xC8, 7, 0⟩
def F.PLNK_BOOT_BOOT : Fld := ⟨0x14, 0xCC, 31, 0⟩
def F.PLNK_TX_TX : Fld := ⟨0x14, 0xB8, 31, 0⟩
def F.PLNK_RX_RX : Fld := ⟨0x14, 0xBC, 31, 0⟩
def F.PLNK_RXDROP_FORMAT : Fld := ⟨0x14, 0xC0, 31, 24⟩
def F.PLNK_RXDROP_CRC : Fld := ⟨0x14, 0xC0, 23, 16⟩
def F.PLNK_RXDROP_ADDR : Fld := ⟨0x14, 0xC0, 15, 8⟩
def F.PLNK_RXDROP_DUP : Fld := ⟨0x14, 0xC0, 7, 0⟩
def F.QUE_CTRL_FLUSH : Fld := ⟨0x15, 0x8, 23, 16⟩
def F.QUE_CTRL_SRESET : Fld := ⟨0x15, 0x8, 1, 1⟩
def F.QUE_CTRL_ENABLE : Fld := ⟨0x15, 0x8, 0, 0⟩
def F.QUE_STAT_FLUSH_BUSY : Fld := ⟨0x15, 0xC, 31, 24⟩
def F.QUE_STAT_SPILL : Fld := ⟨0x15, 0xC, 23, 16⟩
def F.QUE_STAT_NE : Fld := ⟨0x15, 0xC, 7, 0⟩
def F.QUE_SPILL_BASE_BASE : Fld := ⟨0x15, 0x40, 31, 12⟩
def F.QUE_SPILL_SIZE_SIZE : Fld := ⟨0x15, 0x44, 31, 0⟩
def F.QUE_Qn_CFG_CUT (k : Nat) : Fld := ⟨0x15, 0x80 + 0x10 * k, 31, 16⟩
def F.QUE_Qn_CFG_MAX_MIB (k : Nat) : Fld := ⟨0x15, 0x80 + 0x10 * k, 6, 0⟩
def F.QUE_Qn_BYTES_BYTES (k : Nat) : Fld := ⟨0x15, 0x84 + 0x10 * k, 26, 0⟩
def F.QUE_Qn_REC_RECORDS (k : Nat) : Fld := ⟨0x15, 0x88 + 0x10 * k, 15, 0⟩
def F.QUE_Qn_CNT_DROP (k : Nat) : Fld := ⟨0x15, 0x8C + 0x10 * k, 31, 16⟩
def F.QUE_Qn_CNT_DISCARD (k : Nat) : Fld := ⟨0x15, 0x8C + 0x10 * k, 15, 4⟩
def F.QUE_Qn_CNT_UNDERRUN (k : Nat) : Fld := ⟨0x15, 0x8C + 0x10 * k, 3, 0⟩
def F.ICU_STAT_RESTORED : Fld := ⟨0x16, 0xC, 8, 8⟩
def F.ICU_STAT_LINE : Fld := ⟨0x16, 0xC, 7, 4⟩
def F.ICU_STAT_SLEEP : Fld := ⟨0x16, 0xC, 3, 0⟩
def F.ICU_GDIS_DIS : Fld := ⟨0x16, 0x40, 3, 0⟩
def F.ICU_REROUTE_TO_TO_US : Fld := ⟨0x16, 0x44, 15, 0⟩
def F.ICU_SEL_SLOT : Fld := ⟨0x16, 0x48, 7, 0⟩
def F.ICU_S_MATCH_CODE : Fld := ⟨0x16, 0x4C, 31, 16⟩
def F.ICU_S_MATCH_MASK : Fld := ⟨0x16, 0x4C, 15, 0⟩
def F.ICU_S_CFG_EN : Fld := ⟨0x16, 0x50, 31, 31⟩
def F.ICU_S_CFG_LEGACY : Fld := ⟨0x16, 0x50, 30, 30⟩
def F.ICU_S_CFG_WAKE : Fld := ⟨0x16, 0x50, 29, 29⟩
def F.ICU_S_CFG_XCOPY : Fld := ⟨0x16, 0x50, 28, 28⟩
def F.ICU_S_CFG_PRIO : Fld := ⟨0x16, 0x50, 27, 24⟩
def F.ICU_S_CFG_TARGET : Fld := ⟨0x16, 0x50, 23, 22⟩
def F.ICU_S_CFG_FB : Fld := ⟨0x16, 0x50, 21, 20⟩
def F.ICU_S_MOD_CNT : Fld := ⟨0x16, 0x54, 31, 24⟩
def F.ICU_S_MOD_TIME_US : Fld := ⟨0x16, 0x54, 15, 0⟩
def F.ICU_S_STAT_COUNT : Fld := ⟨0x16, 0x58, 31, 24⟩
def F.ICU_S_STAT_LAST_CODE : Fld := ⟨0x16, 0x58, 23, 8⟩
def F.ICU_S_STAT_PEND : Fld := ⟨0x16, 0x58, 7, 7⟩
def F.ICU_S_STAT_INSVC : Fld := ⟨0x16, 0x58, 6, 6⟩
def F.ICU_S_STAT_REROUTED : Fld := ⟨0x16, 0x58, 5, 5⟩
def F.ICU_S_STAT_WAITING : Fld := ⟨0x16, 0x58, 4, 4⟩
def F.ICU_UNMATCHED_LOST_LULL : Fld := ⟨0x16, 0x5C, 31, 24⟩
def F.ICU_UNMATCHED_LOST : Fld := ⟨0x16, 0x5C, 23, 16⟩
def F.ICU_UNMATCHED_UNMATCHED : Fld := ⟨0x16, 0x5C, 15, 0⟩
def F.ICU_CNT_DELIV : Fld := ⟨0x16, 0x60, 31, 16⟩
def F.ICU_CNT_REROUTES : Fld := ⟨0x16, 0x60, 15, 0⟩
def F.ICU_HOLD_g_HOLD_US (k : Nat) : Fld := ⟨0x16, 0x80 + 0x4 * k, 15, 0⟩
def F.ICU_PENDn_PEND (k : Nat) : Fld := ⟨0x16, 0xC0 + 0x4 * k, 31, 0⟩
def F.ICU_MASKn_MASK (k : Nat) : Fld := ⟨0x16, 0xE0 + 0x4 * k, 31, 0⟩
def F.ICU_Tt_CLAIM_COUNT (k : Nat) : Fld := ⟨0x16, 0x100 + 0x10 * k, 31, 24⟩
def F.ICU_Tt_CLAIM_CODE (k : Nat) : Fld := ⟨0x16, 0x100 + 0x10 * k, 23, 8⟩
def F.ICU_Tt_CLAIM_SLOT (k : Nat) : Fld := ⟨0x16, 0x100 + 0x10 * k, 7, 0⟩
def F.ICU_Tt_EOI_SLOT (k : Nat) : Fld := ⟨0x16, 0x104 + 0x10 * k, 7, 0⟩
def F.ICU_Tt_THR_THR (k : Nat) : Fld := ⟨0x16, 0x108 + 0x10 * k, 3, 0⟩
def F.ICU_Tt_INFO_REROUTED (k : Nat) : Fld := ⟨0x16, 0x10C + 0x10 * k, 31, 31⟩
def F.ICU_Tt_INFO_LATE (k : Nat) : Fld := ⟨0x16, 0x10C + 0x10 * k, 30, 30⟩
def F.ICU_Tt_INFO_SLOT (k : Nat) : Fld := ⟨0x16, 0x10C + 0x10 * k, 7, 0⟩
def F.EVR_STAT_CLEARING : Fld := ⟨0x17, 0xC, 4, 4⟩
def F.EVR_STAT_HOLDING : Fld := ⟨0x17, 0xC, 3, 3⟩
def F.EVR_STAT_FULL : Fld := ⟨0x17, 0xC, 2, 2⟩
def F.EVR_STAT_SINGLE : Fld := ⟨0x17, 0xC, 1, 1⟩
def F.EVR_STAT_RUNNING : Fld := ⟨0x17, 0xC, 0, 0⟩
def F.EVR_WR_INDEX_INDEX : Fld := ⟨0x17, 0x40, 17, 0⟩
def F.EVR_RD_IDX_SLOT : Fld := ⟨0x17, 0x44, 16, 0⟩
def F.EVR_RL_RATE : Fld := ⟨0x17, 0x48, 15, 8⟩
def F.EVR_RL_BURST : Fld := ⟨0x17, 0x48, 7, 0⟩
def F.EVR_RDk_WORD (k : Nat) : Fld := ⟨0x17, 0x50 + 0x4 * k, 31, 0⟩
def F.EVR_RLDROP_DROP : Fld := ⟨0x17, 0x70, 31, 0⟩
def F.EVR_HELD_LOST : Fld := ⟨0x17, 0x74, 31, 16⟩
def F.EVR_HELD_LEVEL : Fld := ⟨0x17, 0x74, 6, 0⟩
def F.EVR_CLEAR_CLEAR : Fld := ⟨0x17, 0x78, 0, 0⟩
def F.EVR_SUPPk_CODE (k : Nat) : Fld := ⟨0x17, 0x80 + 0x4 * k, 31, 16⟩
def F.EVR_SUPPk_MASK (k : Nat) : Fld := ⟨0x17, 0x80 + 0x4 * k, 15, 0⟩
def F.THERM_STAT_SENS_FAIL : Fld := ⟨0x4, 0xC, 13, 8⟩
def F.THERM_STAT_FORCED : Fld := ⟨0x4, 0xC, 3, 3⟩
def F.THERM_STAT_LEVEL : Fld := ⟨0x4, 0xC, 1, 0⟩
def F.THERM_MAX_SENSOR : Fld := ⟨0x4, 0x40, 18, 16⟩
def F.THERM_MAX_T : Fld := ⟨0x4, 0x40, 15, 0⟩
def F.THERM_PEAK_SENSOR : Fld := ⟨0x4, 0x5C, 18, 16⟩
def F.THERM_PEAK_T : Fld := ⟨0x4, 0x5C, 15, 0⟩
def F.THERM_Sk_VALID (k : Nat) : Fld := ⟨0x4, 0x44 + 0x4 * k, 31, 31⟩
def F.THERM_Sk_T (k : Nat) : Fld := ⟨0x4, 0x44 + 0x4 * k, 15, 0⟩
def F.THERM_CNT_THROTTLES : Fld := ⟨0x4, 0x60, 31, 16⟩
def F.THERM_CNT_SHUTDOWNS : Fld := ⟨0x4, 0x60, 15, 0⟩
def F.THERM_TRIP_SEQ_SEQ : Fld := ⟨0x4, 0x64, 31, 0⟩
def F.PWR_STAT_ACT_OK : Fld := ⟨0x1, 0xC, 4, 4⟩
def F.PWR_STAT_INPUT_OPEN : Fld := ⟨0x1, 0xC, 3, 3⟩
def F.PWR_STAT_CHARGING : Fld := ⟨0x1, 0xC, 2, 2⟩
def F.PWR_STAT_HOLDUP_FULL : Fld := ⟨0x1, 0xC, 1, 1⟩
def F.PWR_STAT_TRUNK_OK : Fld := ⟨0x1, 0xC, 0, 0⟩
def F.PWR_TRUNK_MV_MV : Fld := ⟨0x1, 0x40, 19, 0⟩
def F.PWR_ACT_MV_MV : Fld := ⟨0x1, 0x4C, 19, 0⟩
def F.PWR_BO_COUNT : Fld := ⟨0x1, 0x44, 31, 16⟩
def F.PWR_BO_OV : Fld := ⟨0x1, 0x44, 1, 1⟩
def F.PWR_BO_BO : Fld := ⟨0x1, 0x44, 0, 0⟩
def F.PWR_HOLDUP_VCAP : Fld := ⟨0x1, 0x48, 31, 16⟩
def F.PWR_HOLDUP_ENERGY : Fld := ⟨0x1, 0x48, 15, 0⟩
def F.PWR_IN_P : Fld := ⟨0x1, 0x50, 31, 16⟩
def F.PWR_IN_I : Fld := ⟨0x1, 0x50, 15, 0⟩
def F.PWR_MIN_MIN : Fld := ⟨0x1, 0x54, 15, 0⟩
def F.UPD_STAT_FALLBACK : Fld := ⟨0x19, 0xC, 5, 5⟩
def F.UPD_STAT_RECOVERY : Fld := ⟨0x19, 0xC, 4, 4⟩
def F.UPD_STAT_OWNER : Fld := ⟨0x19, 0xC, 3, 3⟩
def F.UPD_STAT_CFG_STAGED : Fld := ⟨0x19, 0xC, 2, 2⟩
def F.UPD_STAT_IMG_STAGED : Fld := ⟨0x19, 0xC, 1, 1⟩
def F.UPD_STAT_STAGING : Fld := ⟨0x19, 0xC, 0, 0⟩
def F.UPD_SLOT_BOOTED : Fld := ⟨0x19, 0x40, 8, 8⟩
def F.UPD_SLOT_ACTIVE : Fld := ⟨0x19, 0x40, 4, 4⟩
def F.UPD_SLOT_ST1 : Fld := ⟨0x19, 0x40, 3, 2⟩
def F.UPD_SLOT_ST0 : Fld := ⟨0x19, 0x40, 1, 0⟩
def F.UPD_VER0_BUILD : Fld := ⟨0x19, 0x44, 31, 0⟩
def F.UPD_VER1_BUILD : Fld := ⟨0x19, 0x48, 31, 0⟩
def F.UPD_RB_COUNTER : Fld := ⟨0x19, 0x4C, 31, 16⟩
def F.UPD_RB_ROLLBACK : Fld := ⟨0x19, 0x4C, 15, 0⟩
def F.UPD_STAGE_START : Fld := ⟨0x19, 0x50, 31, 31⟩
def F.UPD_STAGE_ABORT : Fld := ⟨0x19, 0x50, 30, 30⟩
def F.UPD_STAGE_KIND : Fld := ⟨0x19, 0x50, 29, 29⟩
def F.UPD_STAGE_LEN_KIB : Fld := ⟨0x19, 0x50, 15, 0⟩
def F.UPD_STAGE_CRC_CRC : Fld := ⟨0x19, 0x54, 31, 0⟩
def F.UPD_STAGE_PROG_BYTES : Fld := ⟨0x19, 0x58, 31, 0⟩
def F.UPD_ACT_ACT : Fld := ⟨0x19, 0x5C, 1, 0⟩
def F.UPD_OWNER_CLR : Fld := ⟨0x19, 0x60, 1, 1⟩
def F.UPD_OWNER_SET : Fld := ⟨0x19, 0x60, 0, 0⟩
def F.UPD_RB_COMMIT_COMMIT : Fld := ⟨0x19, 0x64, 0, 0⟩
def F.UPD_BOOT_REASON : Fld := ⟨0x19, 0x68, 31, 24⟩
def F.UPD_BOOT_FAIL_SLOT : Fld := ⟨0x19, 0x68, 16, 16⟩
def F.UPD_HASHk_HASH (k : Nat) : Fld := ⟨0x19, 0x80 + 0x4 * k, 31, 0⟩
def F.PWR_CTRL_ENABLE : Fld := ⟨0x1, 0x8, 0, 0⟩
def F.PWR_CTRL_SRESET : Fld := ⟨0x1, 0x8, 1, 1⟩
def F.CLK_CTRL_ENABLE : Fld := ⟨0x2, 0x8, 0, 0⟩
def F.CLK_CTRL_SRESET : Fld := ⟨0x2, 0x8, 1, 1⟩
def F.THERM_CTRL_ENABLE : Fld := ⟨0x4, 0x8, 0, 0⟩
def F.THERM_CTRL_SRESET : Fld := ⟨0x4, 0x8, 1, 1⟩
def F.SNAP_CTRL_ENABLE : Fld := ⟨0x6, 0x8, 0, 0⟩
def F.SNAP_CTRL_SRESET : Fld := ⟨0x6, 0x8, 1, 1⟩
def F.MEAS_CTRL_ENABLE : Fld := ⟨0x7, 0x8, 0, 0⟩
def F.MEAS_CTRL_SRESET : Fld := ⟨0x7, 0x8, 1, 1⟩
def F.EST_CTRL_ENABLE : Fld := ⟨0xA, 0x8, 0, 0⟩
def F.EST_CTRL_SRESET : Fld := ⟨0xA, 0x8, 1, 1⟩
def F.CLE_CTRL_ENABLE : Fld := ⟨0xE, 0x8, 0, 0⟩
def F.CLE_CTRL_SRESET : Fld := ⟨0xE, 0x8, 1, 1⟩
def F.CLINK_CTRL_ENABLE : Fld := ⟨0xF, 0x8, 0, 0⟩
def F.CLINK_CTRL_SRESET : Fld := ⟨0xF, 0x8, 1, 1⟩
def F.ICU_CTRL_ENABLE : Fld := ⟨0x16, 0x8, 0, 0⟩
def F.ICU_CTRL_SRESET : Fld := ⟨0x16, 0x8, 1, 1⟩
def F.EVR_CTRL_ENABLE : Fld := ⟨0x17, 0x8, 0, 0⟩
def F.EVR_CTRL_SRESET : Fld := ⟨0x17, 0x8, 1, 1⟩
def F.UPD_CTRL_ENABLE : Fld := ⟨0x19, 0x8, 0, 0⟩
def F.UPD_CTRL_SRESET : Fld := ⟨0x19, 0x8, 1, 1⟩
def F.CBUS_TXn_ID_IDE (k : Nat) : Fld := ⟨0x13, 0x100 + 0x80 * k, 31, 31⟩
def F.CBUS_TXn_ID_ID (k : Nat) : Fld := ⟨0x13, 0x100 + 0x80 * k, 28, 0⟩
def F.CBUS_TXn_CTRL_TAG (k : Nat) : Fld := ⟨0x13, 0x104 + 0x80 * k, 31, 16⟩
def F.CBUS_TXn_CTRL_TS_REQ (k : Nat) : Fld := ⟨0x13, 0x104 + 0x80 * k, 15, 15⟩
def F.CBUS_TXn_CTRL_FDF (k : Nat) : Fld := ⟨0x13, 0x104 + 0x80 * k, 7, 7⟩
def F.CBUS_TXn_CTRL_BRS (k : Nat) : Fld := ⟨0x13, 0x104 + 0x80 * k, 6, 6⟩
def F.CBUS_TXn_CTRL_DLC (k : Nat) : Fld := ⟨0x13, 0x104 + 0x80 * k, 3, 0⟩
def F.CBUS_TX0_DATA_DATA (k : Nat) : Fld := ⟨0x13, 0x10C + 0x4 * k, 31, 0⟩
def F.CBUS_TX1_DATA_DATA (k : Nat) : Fld := ⟨0x13, 0x18C + 0x4 * k, 31, 0⟩
def F.CBUS_TX2_DATA_DATA (k : Nat) : Fld := ⟨0x13, 0x20C + 0x4 * k, 31, 0⟩

/-! ### The rows -/

/-- The fields of the SYS page. -/
def rowsSYS : List Row := [
  ⟨"SYS_CTRL.MRESET", 0x0, 0x8, 1, 0x4, 9, 9, .rwl, false, .any⟩,
  ⟨"SYS_CTRL.GO", 0x0, 0x8, 1, 0x4, 8, 8, .w1s, false, .any⟩,
  ⟨"SYS_CTRL.HOLD", 0x0, 0x8, 1, 0x4, 7, 7, .w1s, false, .any⟩,
  ⟨"SYS_CTRL.SRESET", 0x0, 0x8, 1, 0x4, 1, 1, .w1s, false, .any⟩,
  ⟨"SYS_CTRL.ENABLE", 0x0, 0x8, 1, 0x4, 0, 0, .rw, false, .any⟩,
  ⟨"SYS_STAT.AUTH", 0x0, 0xC, 1, 0x4, 1, 1, .ro, false, .any⟩,
  ⟨"SYS_STAT.LANE", 0x0, 0xC, 1, 0x4, 0, 0, .ro, false, .any⟩,
  ⟨"SYS_STATE.QUAL", 0x0, 0x40, 1, 0x4, 17, 16, .ro, false, .any⟩,
  ⟨"SYS_STATE.BO", 0x0, 0x40, 1, 0x4, 15, 15, .ro, false, .any⟩,
  ⟨"SYS_STATE.IN_MOTION", 0x0, 0x40, 1, 0x4, 14, 14, .ro, false, .any⟩,
  ⟨"SYS_STATE.THROTTLED", 0x0, 0x40, 1, 0x4, 13, 13, .ro, false, .any⟩,
  ⟨"SYS_STATE.LOCKOUT", 0x0, 0x40, 1, 0x4, 12, 12, .ro, false, .any⟩,
  ⟨"SYS_STATE.SEAL", 0x0, 0x40, 1, 0x4, 11, 11, .ro, false, .any⟩,
  ⟨"SYS_STATE.OWNER_LOCK", 0x0, 0x40, 1, 0x4, 10, 10, .ro, false, .any⟩,
  ⟨"SYS_STATE.PRESENCE", 0x0, 0x40, 1, 0x4, 9, 9, .ro, false, .any⟩,
  ⟨"SYS_STATE.STATE", 0x0, 0x40, 1, 0x4, 3, 0, .ro, false, .any⟩,
  ⟨"SYS_PRESENCE.OPEN", 0x0, 0x44, 1, 0x4, 31, 31, .ro, false, .any⟩,
  ⟨"SYS_PRESENCE.PRESSED", 0x0, 0x44, 1, 0x4, 30, 30, .ro, false, .any⟩,
  ⟨"SYS_PRESENCE.CLOSE", 0x0, 0x44, 1, 0x4, 29, 29, .w1s, false, .any⟩,
  ⟨"SYS_PRESENCE.REMAIN_S", 0x0, 0x44, 1, 0x4, 7, 0, .ro, false, .any⟩,
  ⟨"SYS_SERIAL.SERIAL_LO", 0x0, 0x48, 1, 0x4, 31, 0, .ro, false, .any⟩,
  ⟨"SYS_SERIAL_HI.SERIAL_HI", 0x0, 0x4C, 1, 0x4, 31, 0, .ro, false, .any⟩,
  ⟨"SYS_NODE.NODE", 0x0, 0x50, 1, 0x4, 10, 0, .rwl, false, .any⟩,
  ⟨"SYS_OPSEC.OPSEC", 0x0, 0x54, 1, 0x4, 31, 0, .ro, false, .any⟩,
  ⟨"SYS_PWRCYC.PWRCYC", 0x0, 0x58, 1, 0x4, 31, 0, .ro, false, .any⟩,
  ⟨"SYS_RST_CAUSE.STICKY", 0x0, 0x5C, 1, 0x4, 31, 16, .ro, false, .any⟩,
  ⟨"SYS_RST_CAUSE.CAUSE", 0x0, 0x5C, 1, 0x4, 3, 0, .ro, false, .any⟩,
  ⟨"SYS_UNMAPPED.ADDR", 0x0, 0x60, 1, 0x4, 31, 0, .ro, false, .any⟩]

/-- The fields of the PWR page. -/
def rowsPWR : List Row := [
  ⟨"PWR_STAT.ACT_OK", 0x1, 0xC, 1, 0x4, 4, 4, .ro, false, .any⟩,
  ⟨"PWR_STAT.INPUT_OPEN", 0x1, 0xC, 1, 0x4, 3, 3, .ro, false, .any⟩,
  ⟨"PWR_STAT.CHARGING", 0x1, 0xC, 1, 0x4, 2, 2, .ro, false, .any⟩,
  ⟨"PWR_STAT.HOLDUP_FULL", 0x1, 0xC, 1, 0x4, 1, 1, .ro, false, .any⟩,
  ⟨"PWR_STAT.TRUNK_OK", 0x1, 0xC, 1, 0x4, 0, 0, .ro, false, .any⟩,
  ⟨"PWR_TRUNK_MV.MV", 0x1, 0x40, 1, 0x4, 19, 0, .ro, false, .any⟩,
  ⟨"PWR_ACT_MV.MV", 0x1, 0x4C, 1, 0x4, 19, 0, .ro, false, .any⟩,
  ⟨"PWR_BO.COUNT", 0x1, 0x44, 1, 0x4, 31, 16, .ro, false, .any⟩,
  ⟨"PWR_BO.OV", 0x1, 0x44, 1, 0x4, 1, 1, .ro, false, .any⟩,
  ⟨"PWR_BO.BO", 0x1, 0x44, 1, 0x4, 0, 0, .ro, false, .any⟩,
  ⟨"PWR_HOLDUP.VCAP", 0x1, 0x48, 1, 0x4, 31, 16, .ro, false, .any⟩,
  ⟨"PWR_HOLDUP.ENERGY", 0x1, 0x48, 1, 0x4, 15, 0, .ro, false, .any⟩,
  ⟨"PWR_IN.P", 0x1, 0x50, 1, 0x4, 31, 16, .ro, false, .any⟩,
  ⟨"PWR_IN.I", 0x1, 0x50, 1, 0x4, 15, 0, .ro, false, .any⟩,
  ⟨"PWR_MIN.MIN", 0x1, 0x54, 1, 0x4, 15, 0, .ro, false, .any⟩,
  ⟨"PWR_CTRL.ENABLE", 0x1, 0x8, 1, 0x4, 0, 0, .rw, false, .any⟩,
  ⟨"PWR_CTRL.SRESET", 0x1, 0x8, 1, 0x4, 1, 1, .w1s, false, .any⟩]

/-- The fields of the CLK page. -/
def rowsCLK : List Row := [
  ⟨"CLK_STAT.THROTTLED", 0x2, 0xC, 1, 0x4, 3, 3, .ro, false, .any⟩,
  ⟨"CLK_STAT.ROOT_OK", 0x2, 0xC, 1, 0x4, 2, 2, .ro, false, .any⟩,
  ⟨"CLK_STAT.PLL_LOCK", 0x2, 0xC, 1, 0x4, 1, 1, .ro, false, .any⟩,
  ⟨"CLK_STAT.TCXO_OK", 0x2, 0xC, 1, 0x4, 0, 0, .ro, false, .any⟩,
  ⟨"CLK_FMON.DOMAIN", 0x2, 0x40, 1, 0x4, 31, 24, .rw, false, .rng 1 12⟩,
  ⟨"CLK_FMON.FREQ_KHZ", 0x2, 0x40, 1, 0x4, 23, 0, .ro, false, .any⟩,
  ⟨"CLK_FMON_FAIL.FAIL", 0x2, 0x44, 1, 0x4, 10, 0, .ro, false, .any⟩,
  ⟨"CLK_SUP.ROOT_OK", 0x2, 0x48, 1, 0x4, 31, 31, .ro, false, .any⟩,
  ⟨"CLK_SUP.RATIO", 0x2, 0x48, 1, 0x4, 15, 0, .ro, false, .any⟩,
  ⟨"CLK_CORE_DIV.DIV_B", 0x2, 0x4C, 1, 0x4, 7, 4, .ro, false, .any⟩,
  ⟨"CLK_CORE_DIV.DIV_A", 0x2, 0x4C, 1, 0x4, 3, 0, .ro, false, .any⟩,
  ⟨"CLK_CTRL.ENABLE", 0x2, 0x8, 1, 0x4, 0, 0, .rw, false, .any⟩,
  ⟨"CLK_CTRL.SRESET", 0x2, 0x8, 1, 0x4, 1, 1, .w1s, false, .any⟩]

/-- The fields of the TIME page. -/
def rowsTIME : List Row := [
  ⟨"TIME_CTRL.TRESET", 0x3, 0x8, 1, 0x4, 4, 4, .w1s, false, .any⟩,
  ⟨"TIME_CTRL.SRESET", 0x3, 0x8, 1, 0x4, 1, 1, .w1s, false, .any⟩,
  ⟨"TIME_CTRL.ENABLE", 0x3, 0x8, 1, 0x4, 0, 0, .rw, false, .any⟩,
  ⟨"TIME_STAT.PTP_PORT", 0x3, 0xC, 1, 0x4, 8, 8, .ro, false, .any⟩,
  ⟨"TIME_STAT.RATE_SAT", 0x3, 0xC, 1, 0x4, 5, 5, .ro, false, .any⟩,
  ⟨"TIME_STAT.STEPPED", 0x3, 0xC, 1, 0x4, 4, 4, .ro, false, .any⟩,
  ⟨"TIME_STAT.SERVO_OFF", 0x3, 0xC, 1, 0x4, 3, 3, .ro, false, .any⟩,
  ⟨"TIME_STAT.QUAL", 0x3, 0xC, 1, 0x4, 1, 0, .ro, false, .any⟩,
  ⟨"TIME_NS.NS", 0x3, 0x40, 1, 0x4, 31, 0, .ro, false, .any⟩,
  ⟨"TIME_WRAPS.WRAPS", 0x3, 0x44, 1, 0x4, 31, 0, .ro, false, .any⟩,
  ⟨"TIME_STEP.STEP_LO", 0x3, 0x48, 1, 0x4, 31, 0, .wo, false, .any⟩,
  ⟨"TIME_STEP_HI.STEP_HI", 0x3, 0x4C, 1, 0x4, 31, 0, .wo, false, .any⟩,
  ⟨"TIME_RATE.RATE", 0x3, 0x50, 1, 0x4, 31, 0, .rw, false, .any⟩,
  ⟨"TIME_HOLD.LOCK_N", 0x3, 0x54, 1, 0x4, 15, 8, .rwl, false, .rng 4 64⟩,
  ⟨"TIME_HOLD.HOLD_TO", 0x3, 0x54, 1, 0x4, 7, 0, .rwl, false, .rng 2 16⟩,
  ⟨"TIME_OFFSET.OFFSET", 0x3, 0x58, 1, 0x4, 31, 0, .ro, false, .any⟩,
  ⟨"TIME_TSQ.VALID", 0x3, 0x60, 1, 0x4, 31, 31, .ro, false, .any⟩,
  ⟨"TIME_TSQ.LEVEL", 0x3, 0x60, 1, 0x4, 19, 16, .ro, false, .any⟩,
  ⟨"TIME_TSQ.TAG", 0x3, 0x60, 1, 0x4, 15, 0, .ro, false, .any⟩,
  ⟨"TIME_TSQC.VALID", 0x3, 0x68, 1, 0x4, 31, 31, .ro, false, .any⟩,
  ⟨"TIME_TSQC.LEVEL", 0x3, 0x68, 1, 0x4, 19, 16, .ro, false, .any⟩,
  ⟨"TIME_TSQC.TAG", 0x3, 0x68, 1, 0x4, 15, 0, .ro, false, .any⟩,
  ⟨"TIME_TSQ_NS.NS", 0x3, 0x64, 1, 0x4, 31, 0, .ro, false, .any⟩,
  ⟨"TIME_TSQC_NS.NS", 0x3, 0x6C, 1, 0x4, 31, 0, .ro, false, .any⟩,
  ⟨"TIME_TSQ_DROP.DROP_C", 0x3, 0x70, 1, 0x4, 31, 16, .ro, false, .any⟩,
  ⟨"TIME_TSQ_DROP.DROP_P", 0x3, 0x70, 1, 0x4, 15, 0, .ro, false, .any⟩]

/-- The fields of the THERM page. -/
def rowsTHERM : List Row := [
  ⟨"THERM_STAT.SENS_FAIL", 0x4, 0xC, 1, 0x4, 13, 8, .ro, false, .any⟩,
  ⟨"THERM_STAT.FORCED", 0x4, 0xC, 1, 0x4, 3, 3, .ro, false, .any⟩,
  ⟨"THERM_STAT.LEVEL", 0x4, 0xC, 1, 0x4, 1, 0, .ro, false, .any⟩,
  ⟨"THERM_MAX.SENSOR", 0x4, 0x40, 1, 0x4, 18, 16, .ro, false, .any⟩,
  ⟨"THERM_MAX.T", 0x4, 0x40, 1, 0x4, 15, 0, .ro, false, .any⟩,
  ⟨"THERM_PEAK.SENSOR", 0x4, 0x5C, 1, 0x4, 18, 16, .ro, false, .any⟩,
  ⟨"THERM_PEAK.T", 0x4, 0x5C, 1, 0x4, 15, 0, .ro, false, .any⟩,
  ⟨"THERM_Sk.VALID", 0x4, 0x44, 6, 0x4, 31, 31, .ro, false, .any⟩,
  ⟨"THERM_Sk.T", 0x4, 0x44, 6, 0x4, 15, 0, .ro, false, .any⟩,
  ⟨"THERM_CNT.THROTTLES", 0x4, 0x60, 1, 0x4, 31, 16, .ro, false, .any⟩,
  ⟨"THERM_CNT.SHUTDOWNS", 0x4, 0x60, 1, 0x4, 15, 0, .ro, false, .any⟩,
  ⟨"THERM_TRIP_SEQ.SEQ", 0x4, 0x64, 1, 0x4, 31, 0, .ro, false, .any⟩,
  ⟨"THERM_CTRL.ENABLE", 0x4, 0x8, 1, 0x4, 0, 0, .rw, false, .any⟩,
  ⟨"THERM_CTRL.SRESET", 0x4, 0x8, 1, 0x4, 1, 1, .w1s, false, .any⟩]

/-- The fields of the CDT page. -/
def rowsCDT : List Row := [
  ⟨"CDT_CTRL.SRESET", 0x5, 0x8, 1, 0x4, 1, 1, .w1s, false, .any⟩,
  ⟨"CDT_CTRL.ENABLE", 0x5, 0x8, 1, 0x4, 0, 0, .rw, false, .any⟩,
  ⟨"CDT_STAT.DEFER_PEND", 0x5, 0xC, 1, 0x4, 2, 2, .ro, false, .any⟩,
  ⟨"CDT_STAT.INV_BUSY", 0x5, 0xC, 1, 0x4, 1, 1, .ro, false, .any⟩,
  ⟨"CDT_STAT.READY", 0x5, 0xC, 1, 0x4, 0, 0, .ro, false, .any⟩,
  ⟨"CDT_BASE.BASE", 0x5, 0x40, 1, 0x4, 31, 12, .rwl, true, .any⟩,
  ⟨"CDT_COUNT.COUNT", 0x5, 0x44, 1, 0x4, 14, 0, .rwl, true, .rng 0 16384⟩,
  ⟨"CDT_INVAL.FIRST", 0x5, 0x50, 1, 0x4, 13, 0, .wo, false, .any⟩,
  ⟨"CDT_INVAL_HI.DEFER", 0x5, 0x54, 1, 0x4, 31, 31, .wo, false, .any⟩,
  ⟨"CDT_INVAL_HI.COUNT_M1", 0x5, 0x54, 1, 0x4, 13, 0, .wo, false, .any⟩,
  ⟨"CDT_INVAL_EP.EPOCH", 0x5, 0x58, 1, 0x4, 31, 0, .wo, false, .any⟩,
  ⟨"CDT_INVAL_STAT.APPLY_EPOCH", 0x5, 0x5C, 1, 0x4, 31, 0, .ro, false, .any⟩,
  ⟨"CDT_HITS.HITS", 0x5, 0x60, 1, 0x4, 31, 0, .ro, false, .any⟩,
  ⟨"CDT_MISSES.MISSES", 0x5, 0x64, 1, 0x4, 31, 0, .ro, false, .any⟩,
  ⟨"CDT_BAD.COUNT", 0x5, 0x68, 1, 0x4, 31, 16, .ro, false, .any⟩,
  ⟨"CDT_BAD.INDEX", 0x5, 0x68, 1, 0x4, 13, 0, .ro, false, .any⟩]

/-- The fields of the SNAP page. -/
def rowsSNAP : List Row := [
  ⟨"SNAP_STAT.LOCAL", 0x6, 0xC, 1, 0x4, 2, 2, .ro, false, .any⟩,
  ⟨"SNAP_STAT.SLOTS_OK", 0x6, 0xC, 1, 0x4, 1, 1, .ro, false, .any⟩,
  ⟨"SNAP_STAT.RUNNING", 0x6, 0xC, 1, 0x4, 0, 0, .ro, false, .any⟩,
  ⟨"SNAP_ORIGIN.T0_LO", 0x6, 0x40, 1, 0x4, 31, 0, .rwl, false, .any⟩,
  ⟨"SNAP_ORIGIN_HI.T0_HI", 0x6, 0x44, 1, 0x4, 31, 0, .rwl, false, .any⟩,
  ⟨"SNAP_PERIOD.P", 0x6, 0x48, 1, 0x4, 2, 0, .rwl, false, .rng 0 5⟩,
  ⟨"SNAP_EPOCH.EPOCH_LO", 0x6, 0x4C, 1, 0x4, 31, 0, .ro, false, .any⟩,
  ⟨"SNAP_EPOCH_HI.EPOCH_HI", 0x6, 0x50, 1, 0x4, 31, 0, .ro, false, .any⟩,
  ⟨"SNAP_READY.EPOCH_LO", 0x6, 0x54, 1, 0x4, 31, 16, .ro, false, .any⟩,
  ⟨"SNAP_READY.TQUAL", 0x6, 0x54, 1, 0x4, 15, 14, .ro, false, .any⟩,
  ⟨"SNAP_READY.LATE", 0x6, 0x54, 1, 0x4, 13, 13, .ro, false, .any⟩,
  ⟨"SNAP_READY.SLOT", 0x6, 0x54, 1, 0x4, 12, 0, .ro, false, .any⟩,
  ⟨"SNAP_T.T_LO", 0x6, 0x58, 1, 0x4, 31, 0, .ro, false, .any⟩,
  ⟨"SNAP_T_HI.T_HI", 0x6, 0x5C, 1, 0x4, 31, 0, .ro, false, .any⟩,
  ⟨"SNAP_BASE.BASE", 0x6, 0x60, 1, 0x4, 31, 13, .rwl, false, .any⟩,
  ⟨"SNAP_SLOTS.SLOTS", 0x6, 0x64, 1, 0x4, 13, 0, .rwl, false, .zr 8 8192⟩,
  ⟨"SNAP_TIMING.LATE", 0x6, 0x68, 1, 0x4, 31, 16, .ro, false, .any⟩,
  ⟨"SNAP_TIMING.MAX_US", 0x6, 0x68, 1, 0x4, 15, 0, .ro, false, .any⟩,
  ⟨"SNAP_CTRL.ENABLE", 0x6, 0x8, 1, 0x4, 0, 0, .rw, false, .any⟩,
  ⟨"SNAP_CTRL.SRESET", 0x6, 0x8, 1, 0x4, 1, 1, .w1s, false, .any⟩]

/-- The fields of the MEAS page. -/
def rowsMEAS : List Row := [
  ⟨"MEAS_STAT.TCOMP_OFF", 0x7, 0xC, 1, 0x4, 7, 7, .ro, false, .any⟩,
  ⟨"MEAS_STAT.Q_PAUSED", 0x7, 0xC, 1, 0x4, 6, 6, .ro, false, .any⟩,
  ⟨"MEAS_STAT.HALL_FAULT", 0x7, 0xC, 1, 0x4, 5, 5, .ro, false, .any⟩,
  ⟨"MEAS_STAT.PLAUS_FAIL", 0x7, 0xC, 1, 0x4, 4, 4, .ro, false, .any⟩,
  ⟨"MEAS_STAT.V_FAULT", 0x7, 0xC, 1, 0x4, 3, 3, .ro, false, .any⟩,
  ⟨"MEAS_STAT.I_FAULT", 0x7, 0xC, 1, 0x4, 2, 2, .ro, false, .any⟩,
  ⟨"MEAS_STAT.OVERLOAD", 0x7, 0xC, 1, 0x4, 1, 1, .ro, false, .any⟩,
  ⟨"MEAS_STAT.RUNNING", 0x7, 0xC, 1, 0x4, 0, 0, .ro, false, .any⟩,
  ⟨"MEAS_I.I", 0x7, 0x40, 1, 0x4, 31, 0, .ro, false, .any⟩,
  ⟨"MEAS_V.V", 0x7, 0x44, 1, 0x4, 31, 0, .ro, false, .any⟩,
  ⟨"MEAS_HALL.HALL", 0x7, 0x48, 1, 0x4, 31, 0, .ro, false, .any⟩,
  ⟨"MEAS_Q.Q_LO", 0x7, 0x4C, 1, 0x4, 31, 0, .ro, false, .any⟩,
  ⟨"MEAS_Q_HI.Q_HI", 0x7, 0x50, 1, 0x4, 31, 0, .ro, false, .any⟩,
  ⟨"MEAS_SHUNT.TCR", 0x7, 0x54, 1, 0x4, 31, 16, .rwl, true, .any⟩,
  ⟨"MEAS_SHUNT.R_NOM", 0x7, 0x54, 1, 0x4, 15, 0, .rwl, true, .rng 45000 55000⟩,
  ⟨"MEAS_HALL_CFG.SCALE", 0x7, 0x58, 1, 0x4, 31, 16, .rwl, true, .rng 1 65535⟩,
  ⟨"MEAS_HALL_CFG.OFFSET", 0x7, 0x58, 1, 0x4, 15, 0, .rwl, true, .any⟩,
  ⟨"MEAS_PLAUS.N", 0x7, 0x5C, 1, 0x4, 31, 24, .rwl, false, .rng 1 255⟩,
  ⟨"MEAS_PLAUS.ABS", 0x7, 0x5C, 1, 0x4, 23, 12, .rwl, false, .rng 1 4095⟩,
  ⟨"MEAS_PLAUS.REL", 0x7, 0x5C, 1, 0x4, 11, 0, .rwl, false, .rng 0 1000⟩,
  ⟨"MEAS_VCHK.LIMIT", 0x7, 0x60, 1, 0x4, 15, 0, .rwl, false, .rng 0 10000⟩,
  ⟨"MEAS_FAST_BASE.BASE", 0x7, 0x64, 1, 0x4, 31, 9, .rwl, true, .any⟩,
  ⟨"MEAS_FAST_BLOCKS.BLOCKS", 0x7, 0x68, 1, 0x4, 15, 0, .rwl, true, .zr 16 65535⟩,
  ⟨"MEAS_FAST_WR.WR", 0x7, 0x6C, 1, 0x4, 31, 0, .ro, false, .any⟩,
  ⟨"MEAS_CTRL.ENABLE", 0x7, 0x8, 1, 0x4, 0, 0, .rw, false, .any⟩,
  ⟨"MEAS_CTRL.SRESET", 0x7, 0x8, 1, 0x4, 1, 1, .w1s, false, .any⟩]

/-- The fields of the CHAIN page. -/
def rowsCHAIN : List Row := [
  ⟨"CHAIN_CTRL.SER_TAKE", 0x8, 0x8, 1, 0x4, 4, 4, .w1s, false, .any⟩,
  ⟨"CHAIN_CTRL.OW_ALL", 0x8, 0x8, 1, 0x4, 3, 3, .w1s, false, .any⟩,
  ⟨"CHAIN_CTRL.REENUM", 0x8, 0x8, 1, 0x4, 2, 2, .w1s, false, .any⟩,
  ⟨"CHAIN_CTRL.SRESET", 0x8, 0x8, 1, 0x4, 1, 1, .w1s, false, .any⟩,
  ⟨"CHAIN_CTRL.ENABLE", 0x8, 0x8, 1, 0x4, 0, 0, .rw, true, .any⟩,
  ⟨"CHAIN_STAT.REACH_W", 0x8, 0xC, 1, 0x4, 29, 24, .ro, false, .any⟩,
  ⟨"CHAIN_STAT.REACH_E", 0x8, 0xC, 1, 0x4, 21, 16, .ro, false, .any⟩,
  ⟨"CHAIN_STAT.OW_BLOCKED", 0x8, 0xC, 1, 0x4, 6, 6, .ro, false, .any⟩,
  ⟨"CHAIN_STAT.OW_BUSY", 0x8, 0xC, 1, 0x4, 5, 5, .ro, false, .any⟩,
  ⟨"CHAIN_STAT.ENUM_BUSY", 0x8, 0xC, 1, 0x4, 4, 4, .ro, false, .any⟩,
  ⟨"CHAIN_STAT.OPEN_MODE", 0x8, 0xC, 1, 0x4, 3, 3, .ro, false, .any⟩,
  ⟨"CHAIN_STAT.RING_CLOSED", 0x8, 0xC, 1, 0x4, 2, 2, .ro, false, .any⟩,
  ⟨"CHAIN_STAT.COUNT_OK", 0x8, 0xC, 1, 0x4, 1, 1, .ro, false, .any⟩,
  ⟨"CHAIN_STAT.RUNNING", 0x8, 0xC, 1, 0x4, 0, 0, .ro, false, .any⟩,
  ⟨"CHAIN_CFG.ADDR_MODE", 0x8, 0x40, 1, 0x4, 24, 24, .rwl, true, .any⟩,
  ⟨"CHAIN_CFG.MISS_N", 0x8, 0x40, 1, 0x4, 23, 16, .rwl, false, .rng 1 255⟩,
  ⟨"CHAIN_CFG.FC_LIMIT", 0x8, 0x40, 1, 0x4, 15, 8, .rwl, false, .rng 9 50⟩,
  ⟨"CHAIN_CFG.MON_COUNT", 0x8, 0x40, 1, 0x4, 5, 0, .rwl, true, .rng 1 40⟩,
  ⟨"CHAIN_OWCFG.OW_PERIOD", 0x8, 0x44, 1, 0x4, 15, 0, .rwl, false, .zr 60 65535⟩,
  ⟨"CHAIN_SWEEP.MAX_US", 0x8, 0x48, 1, 0x4, 31, 16, .ro, false, .any⟩,
  ⟨"CHAIN_SWEEP.LAST_US", 0x8, 0x48, 1, 0x4, 15, 0, .ro, false, .any⟩,
  ⟨"CHAIN_LOAD.M_W", 0x8, 0x4C, 1, 0x4, 13, 8, .ro, false, .any⟩,
  ⟨"CHAIN_LOAD.M_E", 0x8, 0x4C, 1, 0x4, 5, 0, .ro, false, .any⟩,
  ⟨"CHAIN_NS.MAP_LO", 0x8, 0x50, 1, 0x4, 31, 0, .ro, false, .any⟩,
  ⟨"CHAIN_NS_HI.MAP_HI", 0x8, 0x54, 1, 0x4, 7, 0, .ro, false, .any⟩,
  ⟨"CHAIN_NR.MAP_LO", 0x8, 0x58, 1, 0x4, 31, 0, .ro, false, .any⟩,
  ⟨"CHAIN_NR_HI.MAP_HI", 0x8, 0x5C, 1, 0x4, 7, 0, .ro, false, .any⟩,
  ⟨"CHAIN_MISS.MAP_LO", 0x8, 0x60, 1, 0x4, 31, 0, .ro, false, .any⟩,
  ⟨"CHAIN_MISS_HI.MAP_HI", 0x8, 0x64, 1, 0x4, 7, 0, .ro, false, .any⟩,
  ⟨"CHAIN_OW_REQ.MON", 0x8, 0x68, 1, 0x4, 29, 24, .wo, false, .any⟩,
  ⟨"CHAIN_OW_REQ.LEADS", 0x8, 0x68, 1, 0x4, 12, 0, .wo, false, .any⟩,
  ⟨"CHAIN_OW_RES.VALID", 0x8, 0x6C, 1, 0x4, 31, 31, .ro, false, .any⟩,
  ⟨"CHAIN_OW_RES.ABORTED", 0x8, 0x6C, 1, 0x4, 30, 30, .ro, false, .any⟩,
  ⟨"CHAIN_OW_RES.MON", 0x8, 0x6C, 1, 0x4, 29, 24, .ro, false, .any⟩,
  ⟨"CHAIN_OW_RES.OPEN", 0x8, 0x6C, 1, 0x4, 12, 0, .ro, false, .any⟩,
  ⟨"CHAIN_OW_OPEN.COUNT", 0x8, 0x70, 1, 0x4, 15, 0, .ro, false, .any⟩,
  ⟨"CHAIN_LULL.ENTER", 0x8, 0x80, 1, 0x4, 31, 31, .w1s, false, .any⟩,
  ⟨"CHAIN_LULL.PERIOD", 0x8, 0x80, 1, 0x4, 15, 0, .rwl, false, .rng 10 3600⟩,
  ⟨"CHAIN_LULL_WAKE.WAKE_S", 0x8, 0x84, 1, 0x4, 16, 0, .rwl, false, .rng 60 86400⟩,
  ⟨"CHAIN_LULL_VLIM.VHI", 0x8, 0x88, 1, 0x4, 27, 16, .rwl, false, .any⟩,
  ⟨"CHAIN_LULL_VLIM.VLO", 0x8, 0x88, 1, 0x4, 11, 0, .rwl, false, .any⟩,
  ⟨"CHAIN_LULL_TLIM.THI", 0x8, 0x8C, 1, 0x4, 25, 16, .rwl, false, .any⟩,
  ⟨"CHAIN_LULL_TLIM.TLO", 0x8, 0x8C, 1, 0x4, 9, 0, .rwl, false, .any⟩,
  ⟨"CHAIN_WAKE.CAUSE", 0x8, 0x90, 1, 0x4, 31, 28, .ro, false, .any⟩,
  ⟨"CHAIN_WAKE.MON", 0x8, 0x90, 1, 0x4, 21, 16, .ro, false, .any⟩,
  ⟨"CHAIN_WAKE.DETAIL", 0x8, 0x90, 1, 0x4, 15, 0, .ro, false, .any⟩,
  ⟨"CHAIN_MREG.BUSY", 0x8, 0x94, 1, 0x4, 31, 31, .ro, false, .any⟩,
  ⟨"CHAIN_MREG.WR", 0x8, 0x94, 1, 0x4, 30, 30, .rw, false, .any⟩,
  ⟨"CHAIN_MREG.MON", 0x8, 0x94, 1, 0x4, 29, 24, .rw, false, .any⟩,
  ⟨"CHAIN_MREG.REG", 0x8, 0x94, 1, 0x4, 23, 16, .rw, false, .any⟩,
  ⟨"CHAIN_MREG.RESULT", 0x8, 0x94, 1, 0x4, 7, 0, .ro, false, .any⟩,
  ⟨"CHAIN_MREG_DATA.DATA", 0x8, 0x98, 1, 0x4, 15, 0, .rw, false, .any⟩,
  ⟨"CHAIN_LINKERR.CRC", 0x8, 0x9C, 1, 0x4, 31, 16, .ro, false, .any⟩,
  ⟨"CHAIN_LINKERR.TIMEOUT", 0x8, 0x9C, 1, 0x4, 15, 0, .ro, false, .any⟩,
  ⟨"CHAIN_SER_SEL.MON", 0x8, 0xA0, 1, 0x4, 5, 0, .rw, false, .rng 1 40⟩,
  ⟨"CHAIN_SER_CFG.CFG_LO", 0x8, 0xA4, 1, 0x4, 31, 0, .rwl, true, .any⟩,
  ⟨"CHAIN_SER_CFG_HI.CFG_HI", 0x8, 0xA8, 1, 0x4, 15, 0, .rwl, true, .any⟩,
  ⟨"CHAIN_SER_ENUM.ENUM_LO", 0x8, 0xAC, 1, 0x4, 31, 0, .ro, false, .any⟩,
  ⟨"CHAIN_SER_ENUM_HI.ENUM_HI", 0x8, 0xB0, 1, 0x4, 15, 0, .ro, false, .any⟩]

/-- The fields of the EIS page. -/
def rowsEIS : List Row := [
  ⟨"EIS_CTRL.ABORT", 0x9, 0x8, 1, 0x4, 4, 4, .w1s, false, .any⟩,
  ⟨"EIS_CTRL.START", 0x9, 0x8, 1, 0x4, 3, 3, .w1s, false, .any⟩,
  ⟨"EIS_CTRL.SRESET", 0x9, 0x8, 1, 0x4, 1, 1, .w1s, false, .any⟩,
  ⟨"EIS_CTRL.ENABLE", 0x9, 0x8, 1, 0x4, 0, 0, .rw, false, .any⟩,
  ⟨"EIS_STAT.PLAN_PEND", 0x9, 0xC, 1, 0x4, 4, 4, .ro, false, .any⟩,
  ⟨"EIS_STAT.SUSPENDED", 0x9, 0xC, 1, 0x4, 3, 3, .ro, false, .any⟩,
  ⟨"EIS_STAT.READOUT", 0x9, 0xC, 1, 0x4, 2, 2, .ro, false, .any⟩,
  ⟨"EIS_STAT.WINDOW", 0x9, 0xC, 1, 0x4, 1, 1, .ro, false, .any⟩,
  ⟨"EIS_STAT.EXCITING", 0x9, 0xC, 1, 0x4, 0, 0, .ro, false, .any⟩,
  ⟨"EIS_PLAN.PASSIVE", 0x9, 0x40, 1, 0x4, 31, 31, .rw, false, .any⟩,
  ⟨"EIS_PLAN.CONT", 0x9, 0x40, 1, 0x4, 30, 30, .rw, false, .any⟩,
  ⟨"EIS_PLAN.PROFILE", 0x9, 0x40, 1, 0x4, 25, 24, .rw, false, .any⟩,
  ⟨"EIS_PLAN.FMASK", 0x9, 0x40, 1, 0x4, 15, 0, .rw, false, .rng 1 65535⟩,
  ⟨"EIS_WIN.W_S", 0x9, 0x44, 1, 0x4, 9, 0, .rw, false, .rng 1 600⟩,
  ⟨"EIS_AMP.PEAK", 0x9, 0x48, 1, 0x4, 11, 0, .rw, false, .rng 1 250⟩,
  ⟨"EIS_FADE.FADE_MS", 0x9, 0x54, 1, 0x4, 15, 0, .rw, false, .rng 10 1000⟩,
  ⟨"EIS_WEIGHT_LO.W0", 0x9, 0x4C, 1, 0x4, 3, 0, .rw, false, .rng 1 15⟩,
  ⟨"EIS_WEIGHT_LO.W1", 0x9, 0x4C, 1, 0x4, 7, 4, .rw, false, .rng 1 15⟩,
  ⟨"EIS_WEIGHT_LO.W2", 0x9, 0x4C, 1, 0x4, 11, 8, .rw, false, .rng 1 15⟩,
  ⟨"EIS_WEIGHT_LO.W3", 0x9, 0x4C, 1, 0x4, 15, 12, .rw, false, .rng 1 15⟩,
  ⟨"EIS_WEIGHT_LO.W4", 0x9, 0x4C, 1, 0x4, 19, 16, .rw, false, .rng 1 15⟩,
  ⟨"EIS_WEIGHT_LO.W5", 0x9, 0x4C, 1, 0x4, 23, 20, .rw, false, .rng 1 15⟩,
  ⟨"EIS_WEIGHT_LO.W6", 0x9, 0x4C, 1, 0x4, 27, 24, .rw, false, .rng 1 15⟩,
  ⟨"EIS_WEIGHT_LO.W7", 0x9, 0x4C, 1, 0x4, 31, 28, .rw, false, .rng 1 15⟩,
  ⟨"EIS_WEIGHT_HI.W0", 0x9, 0x50, 1, 0x4, 3, 0, .rw, false, .rng 1 15⟩,
  ⟨"EIS_WEIGHT_HI.W1", 0x9, 0x50, 1, 0x4, 7, 4, .rw, false, .rng 1 15⟩,
  ⟨"EIS_WEIGHT_HI.W2", 0x9, 0x50, 1, 0x4, 11, 8, .rw, false, .rng 1 15⟩,
  ⟨"EIS_WEIGHT_HI.W3", 0x9, 0x50, 1, 0x4, 15, 12, .rw, false, .rng 1 15⟩,
  ⟨"EIS_WEIGHT_HI.W4", 0x9, 0x50, 1, 0x4, 19, 16, .rw, false, .rng 1 15⟩,
  ⟨"EIS_WEIGHT_HI.W5", 0x9, 0x50, 1, 0x4, 23, 20, .rw, false, .rng 1 15⟩,
  ⟨"EIS_WEIGHT_HI.W6", 0x9, 0x50, 1, 0x4, 27, 24, .rw, false, .rng 1 15⟩,
  ⟨"EIS_WEIGHT_HI.W7", 0x9, 0x50, 1, 0x4, 31, 28, .rw, false, .rng 1 15⟩,
  ⟨"EIS_GATE.RAMP_MAX", 0x9, 0x58, 1, 0x4, 31, 16, .rwl, false, .rng 1 65535⟩,
  ⟨"EIS_GATE.REST_A", 0x9, 0x58, 1, 0x4, 15, 8, .rwl, false, .rng 1 255⟩,
  ⟨"EIS_GATE.SETTLE", 0x9, 0x58, 1, 0x4, 7, 0, .rwl, false, .any⟩,
  ⟨"EIS_QUAL.MIN_EXC", 0x9, 0x5C, 1, 0x4, 31, 16, .rwl, false, .rng 1 65535⟩,
  ⟨"EIS_QUAL.MIN_FILL", 0x9, 0x5C, 1, 0x4, 7, 0, .rwl, false, .rng 10 100⟩,
  ⟨"EIS_BASE.BASE", 0x9, 0x60, 1, 0x4, 31, 12, .rwl, true, .any⟩,
  ⟨"EIS_SIZE.SIZE", 0x9, 0x64, 1, 0x4, 31, 0, .rwl, true, .any⟩,
  ⟨"EIS_LAST.WINDOW", 0x9, 0x68, 1, 0x4, 31, 0, .ro, false, .any⟩,
  ⟨"EIS_LAST_EP.EP_LO", 0x9, 0x6C, 1, 0x4, 31, 0, .ro, false, .any⟩,
  ⟨"EIS_LAST_EP_HI.EP_HI", 0x9, 0x70, 1, 0x4, 31, 0, .ro, false, .any⟩,
  ⟨"EIS_TBL_CFG.I_TBL", 0x9, 0x74, 1, 0x4, 31, 16, .rwl, false, .any⟩,
  ⟨"EIS_TBL_CFG.DEPART", 0x9, 0x74, 1, 0x4, 15, 8, .rwl, false, .rng 1 100⟩,
  ⟨"EIS_TBL_CFG.SHIFT", 0x9, 0x74, 1, 0x4, 2, 0, .rwl, false, .any⟩,
  ⟨"EIS_VT.AGE_S", 0x9, 0x78, 1, 0x4, 31, 16, .rwl, false, .rng 10 3600⟩,
  ⟨"EIS_VT.MAXRISE", 0x9, 0x78, 1, 0x4, 15, 8, .rwl, false, .rng 1 60⟩,
  ⟨"EIS_VT.LIMIT", 0x9, 0x78, 1, 0x4, 7, 0, .rwl, false, .rng 5 200⟩,
  ⟨"EIS_TBL_IDX.POS", 0x9, 0x7C, 1, 0x4, 24, 16, .rw, false, .rng 1 480⟩,
  ⟨"EIS_TBL_IDX.BIN", 0x9, 0x7C, 1, 0x4, 10, 8, .rw, false, .any⟩,
  ⟨"EIS_TBL_IDX.FREQ", 0x9, 0x7C, 1, 0x4, 3, 0, .rw, false, .any⟩,
  ⟨"EIS_TBL_RE.RE", 0x9, 0x80, 1, 0x4, 31, 0, .ro, false, .any⟩,
  ⟨"EIS_TBL_IM.IM", 0x9, 0x84, 1, 0x4, 31, 0, .ro, false, .any⟩,
  ⟨"EIS_CNT.DONE", 0x9, 0x88, 1, 0x4, 31, 16, .ro, false, .any⟩,
  ⟨"EIS_CNT.ABORTED", 0x9, 0x88, 1, 0x4, 15, 0, .ro, false, .any⟩,
  ⟨"EIS_ABORT.CAUSE", 0x9, 0x8C, 1, 0x4, 31, 24, .ro, false, .any⟩,
  ⟨"EIS_ABORT.WINDOW", 0x9, 0x8C, 1, 0x4, 23, 0, .ro, false, .any⟩,
  ⟨"EIS_PEAK.PEAK", 0x9, 0x90, 1, 0x4, 11, 0, .ro, false, .any⟩]

/-- The fields of the EST page. -/
def rowsEST : List Row := [
  ⟨"EST_STAT.RELEARN_PEND", 0xA, 0xC, 1, 0x4, 6, 6, .ro, false, .any⟩,
  ⟨"EST_STAT.DERATED", 0xA, 0xC, 1, 0x4, 5, 5, .ro, false, .any⟩,
  ⟨"EST_STAT.SUSPECT_ANY", 0xA, 0xC, 1, 0x4, 4, 4, .ro, false, .any⟩,
  ⟨"EST_STAT.DISAGREE_ANY", 0xA, 0xC, 1, 0x4, 3, 3, .ro, false, .any⟩,
  ⟨"EST_STAT.UNCERTAIN_ANY", 0xA, 0xC, 1, 0x4, 2, 2, .ro, false, .any⟩,
  ⟨"EST_STAT.NO_HISTORY_ANY", 0xA, 0xC, 1, 0x4, 1, 1, .ro, false, .any⟩,
  ⟨"EST_STAT.RUNNING", 0xA, 0xC, 1, 0x4, 0, 0, .ro, false, .any⟩,
  ⟨"EST_CFG.PROFILE", 0xA, 0x40, 1, 0x4, 25, 24, .rwl, true, .any⟩,
  ⟨"EST_CFG.CELLS_M1", 0xA, 0x40, 1, 0x4, 17, 16, .rwl, true, .any⟩,
  ⟨"EST_REST.SLOPE_UV", 0xA, 0x44, 1, 0x4, 31, 16, .rwl, false, .any⟩,
  ⟨"EST_REST.RELAX_MIN", 0xA, 0x44, 1, 0x4, 15, 8, .rwl, false, .zr 5 240⟩,
  ⟨"EST_REST.I_REST", 0xA, 0x44, 1, 0x4, 7, 0, .rwl, false, .rng 1 100⟩,
  ⟨"EST_CAPL.MAX_H", 0xA, 0x48, 1, 0x4, 31, 24, .rwl, false, .rng 1 255⟩,
  ⟨"EST_CAPL.SPAN", 0xA, 0x48, 1, 0x4, 23, 16, .rwl, false, .rng 20 90⟩,
  ⟨"EST_CAPL.ACC", 0xA, 0x48, 1, 0x4, 15, 8, .rwl, false, .rng 5 50⟩,
  ⟨"EST_CAPL.REJ_N", 0xA, 0x48, 1, 0x4, 7, 4, .rwl, false, .rng 1 15⟩,
  ⟨"EST_CAPL.SHIFT", 0xA, 0x48, 1, 0x4, 3, 0, .rwl, false, .rng 0 6⟩,
  ⟨"EST_CONF.DERATE", 0xA, 0x4C, 1, 0x4, 31, 24, .rwl, false, .rng 0 100⟩,
  ⟨"EST_CONF.SIG_CLR", 0xA, 0x4C, 1, 0x4, 15, 8, .rwl, false, .any⟩,
  ⟨"EST_CONF.SIG_SET", 0xA, 0x4C, 1, 0x4, 7, 0, .rwl, false, .rng 5 200⟩,
  ⟨"EST_DIS.N", 0xA, 0x50, 1, 0x4, 31, 16, .rwl, false, .rng 1 65535⟩,
  ⟨"EST_DIS.RATE", 0xA, 0x50, 1, 0x4, 15, 8, .rwl, false, .rng 1 100⟩,
  ⟨"EST_DIS.LIM", 0xA, 0x50, 1, 0x4, 7, 0, .rwl, false, .rng 2 50⟩,
  ⟨"EST_START.OFF_MAX_D", 0xA, 0x54, 1, 0x4, 31, 24, .rwl, false, .rng 1 255⟩,
  ⟨"EST_START.SIG_NH", 0xA, 0x54, 1, 0x4, 23, 16, .rwl, false, .rng 5 50⟩,
  ⟨"EST_START.SIG_ADD", 0xA, 0x54, 1, 0x4, 15, 8, .rwl, false, .rng 0 100⟩,
  ⟨"EST_START.WAIT", 0xA, 0x54, 1, 0x4, 7, 0, .rwl, false, .rng 1 255⟩,
  ⟨"EST_NV.TBL_MIN", 0xA, 0x58, 1, 0x4, 31, 24, .rwl, false, .rng 10 255⟩,
  ⟨"EST_NV.LRN_MIN", 0xA, 0x58, 1, 0x4, 23, 16, .rwl, false, .rng 1 255⟩,
  ⟨"EST_NV.STATE_MS", 0xA, 0x58, 1, 0x4, 15, 0, .rwl, false, .rng 100 60000⟩,
  ⟨"EST_OUT_BASE.BASE", 0xA, 0x5C, 1, 0x4, 31, 15, .rwl, true, .any⟩,
  ⟨"EST_REP.EVERY", 0xA, 0x60, 1, 0x4, 15, 0, .rwl, false, .any⟩,
  ⟨"EST_SOC.SOC_STR", 0xA, 0x64, 1, 0x4, 31, 16, .ro, false, .any⟩,
  ⟨"EST_SOC.SIG_MAX", 0xA, 0x64, 1, 0x4, 15, 0, .ro, false, .any⟩,
  ⟨"EST_SOC_MM.MAX", 0xA, 0x68, 1, 0x4, 31, 16, .ro, false, .any⟩,
  ⟨"EST_SOC_MM.MIN", 0xA, 0x68, 1, 0x4, 15, 0, .ro, false, .any⟩,
  ⟨"EST_CAPS.DIS_AH", 0xA, 0x6C, 1, 0x4, 31, 16, .ro, false, .any⟩,
  ⟨"EST_CAPS.CHG_AH", 0xA, 0x6C, 1, 0x4, 15, 0, .ro, false, .any⟩,
  ⟨"EST_LIM.LIM_CHG", 0xA, 0x70, 1, 0x4, 31, 16, .ro, false, .any⟩,
  ⟨"EST_LIM.LIM_DIS", 0xA, 0x70, 1, 0x4, 15, 0, .ro, false, .any⟩,
  ⟨"EST_SOH.SOH_MIN", 0xA, 0x74, 1, 0x4, 31, 16, .ro, false, .any⟩,
  ⟨"EST_SOH.POS", 0xA, 0x74, 1, 0x4, 8, 0, .ro, false, .any⟩,
  ⟨"EST_EFC.EFC", 0xA, 0x78, 1, 0x4, 31, 0, .ro, false, .any⟩,
  ⟨"EST_EFC_CLR.CLR", 0xA, 0x7C, 1, 0x4, 0, 0, .rwp, false, .any⟩,
  ⟨"EST_CNTS.UNC", 0xA, 0x80, 1, 0x4, 26, 18, .ro, false, .any⟩,
  ⟨"EST_CNTS.DIS", 0xA, 0x80, 1, 0x4, 17, 9, .ro, false, .any⟩,
  ⟨"EST_CNTS.SUS", 0xA, 0x80, 1, 0x4, 8, 0, .ro, false, .any⟩,
  ⟨"EST_CNT.LEARNED", 0xA, 0x84, 1, 0x4, 31, 16, .ro, false, .any⟩,
  ⟨"EST_CNT.REJECTED", 0xA, 0x84, 1, 0x4, 15, 0, .ro, false, .any⟩,
  ⟨"EST_RELEARN.COUNT_M1", 0xA, 0x88, 1, 0x4, 24, 16, .wo, false, .any⟩,
  ⟨"EST_RELEARN.FIRST", 0xA, 0x88, 1, 0x4, 8, 0, .wo, false, .any⟩,
  ⟨"EST_RELEARN_EP.EPOCH", 0xA, 0x8C, 1, 0x4, 31, 0, .ro, false, .any⟩,
  ⟨"EST_POS_SEL.POS", 0xA, 0x90, 1, 0x4, 8, 0, .rw, false, .rng 1 480⟩,
  ⟨"EST_POS_ROWk.ROW", 0xA, 0xA0, 8, 0x4, 31, 0, .ro, false, .any⟩,
  ⟨"EST_NVSTAT.STATE_OK", 0xA, 0xC0, 1, 0x4, 31, 31, .ro, false, .any⟩,
  ⟨"EST_NVSTAT.LRN_OK", 0xA, 0xC0, 1, 0x4, 30, 30, .ro, false, .any⟩,
  ⟨"EST_NVSTAT.TBL_OK", 0xA, 0xC0, 1, 0x4, 29, 29, .ro, false, .any⟩,
  ⟨"EST_NV_SEQ.SEQ", 0xA, 0xC4, 1, 0x4, 31, 0, .ro, false, .any⟩,
  ⟨"EST_CTRL.ENABLE", 0xA, 0x8, 1, 0x4, 0, 0, .rw, false, .any⟩,
  ⟨"EST_CTRL.SRESET", 0xA, 0x8, 1, 0x4, 1, 1, .w1s, false, .any⟩]

/-- The fields of the BAL page. -/
def rowsBAL : List Row := [
  ⟨"BAL_CTRL.STOP_ALL", 0xB, 0x8, 1, 0x4, 3, 3, .w1s, false, .any⟩,
  ⟨"BAL_CTRL.PLAN_NOW", 0xB, 0x8, 1, 0x4, 2, 2, .w1s, false, .any⟩,
  ⟨"BAL_CTRL.SRESET", 0xB, 0x8, 1, 0x4, 1, 1, .w1s, false, .any⟩,
  ⟨"BAL_CTRL.ENABLE", 0xB, 0x8, 1, 0x4, 0, 0, .rw, false, .any⟩,
  ⟨"BAL_STAT.EIS_HELD", 0xB, 0xC, 1, 0x4, 4, 4, .ro, false, .any⟩,
  ⟨"BAL_STAT.B_EST", 0xB, 0xC, 1, 0x4, 3, 3, .ro, false, .any⟩,
  ⟨"BAL_STAT.DELIVERING", 0xB, 0xC, 1, 0x4, 2, 2, .ro, false, .any⟩,
  ⟨"BAL_STAT.ACTIVE", 0xB, 0xC, 1, 0x4, 1, 1, .ro, false, .any⟩,
  ⟨"BAL_STAT.RUNNING", 0xB, 0xC, 1, 0x4, 0, 0, .ro, false, .any⟩,
  ⟨"BAL_CFG.PLAN_S", 0xB, 0x40, 1, 0x4, 31, 24, .rwl, false, .rng 10 255⟩,
  ⟨"BAL_CFG.MODE", 0xB, 0x40, 1, 0x4, 21, 20, .rwl, false, .rng 0 2⟩,
  ⟨"BAL_CFG.EIS_HOLD", 0xB, 0x40, 1, 0x4, 19, 19, .rwl, false, .any⟩,
  ⟨"BAL_CFG.DEADBAND", 0xB, 0x40, 1, 0x4, 15, 0, .rwl, false, .rng 1 65535⟩,
  ⟨"BAL_RDEF.R_DEF", 0xB, 0x44, 1, 0x4, 15, 0, .rwl, false, .rng 100 65535⟩,
  ⟨"BAL_LAST.PLAN_ID", 0xB, 0x48, 1, 0x4, 31, 24, .ro, false, .any⟩,
  ⟨"BAL_LAST.CONFIRMED", 0xB, 0x48, 1, 0x4, 23, 16, .ro, false, .any⟩,
  ⟨"BAL_LAST.POS_ON", 0xB, 0x48, 1, 0x4, 8, 0, .ro, false, .any⟩,
  ⟨"BAL_LAST_EP.EPOCH", 0xB, 0x4C, 1, 0x4, 31, 0, .ro, false, .any⟩,
  ⟨"BAL_POS_SEL.POS", 0xB, 0x50, 1, 0x4, 8, 0, .rw, false, .rng 1 480⟩,
  ⟨"BAL_POS_TGT.TGT", 0xB, 0x54, 1, 0x4, 31, 0, .ro, false, .any⟩,
  ⟨"BAL_POS_REM.B_EST", 0xB, 0x58, 1, 0x4, 19, 19, .ro, false, .any⟩,
  ⟨"BAL_POS_REM.EXCL", 0xB, 0x58, 1, 0x4, 18, 18, .ro, false, .any⟩,
  ⟨"BAL_POS_REM.STOPPED", 0xB, 0x58, 1, 0x4, 17, 17, .ro, false, .any⟩,
  ⟨"BAL_POS_REM.ON", 0xB, 0x58, 1, 0x4, 16, 16, .ro, false, .any⟩,
  ⟨"BAL_POS_REM.REMAIN", 0xB, 0x58, 1, 0x4, 15, 0, .ro, false, .any⟩,
  ⟨"BAL_POS_B.B_LO", 0xB, 0x5C, 1, 0x4, 31, 0, .ro, false, .any⟩,
  ⟨"BAL_POS_B_HI.B_HI", 0xB, 0x60, 1, 0x4, 31, 0, .ro, false, .any⟩,
  ⟨"BAL_CNT.PLANS", 0xB, 0x64, 1, 0x4, 31, 16, .ro, false, .any⟩,
  ⟨"BAL_CNT.FAILS", 0xB, 0x64, 1, 0x4, 15, 0, .ro, false, .any⟩]

/-- The fields of the PROT page. -/
def rowsPROT : List Row := [
  ⟨"PROT_CTRL.CLR_TRIP", 0xC, 0x8, 1, 0x4, 2, 2, .w1s, false, .any⟩,
  ⟨"PROT_CTRL.SRESET", 0xC, 0x8, 1, 0x4, 1, 1, .w1s, false, .any⟩,
  ⟨"PROT_CTRL.ENABLE", 0xC, 0x8, 1, 0x4, 0, 0, .rw, false, .any⟩,
  ⟨"PROT_STAT.PLAUS_OFF", 0xC, 0xC, 1, 0x4, 8, 8, .ro, false, .any⟩,
  ⟨"PROT_STAT.PLAUS_LIM", 0xC, 0xC, 1, 0x4, 7, 7, .ro, false, .any⟩,
  ⟨"PROT_STAT.RB_FAULT", 0xC, 0xC, 1, 0x4, 6, 6, .ro, false, .any⟩,
  ⟨"PROT_STAT.BRK_CMD", 0xC, 0xC, 1, 0x4, 5, 5, .ro, false, .any⟩,
  ⟨"PROT_STAT.TRIP_LATCHED", 0xC, 0xC, 1, 0x4, 4, 4, .ro, false, .any⟩,
  ⟨"PROT_STAT.CLAMP_CHG", 0xC, 0xC, 1, 0x4, 3, 3, .ro, false, .any⟩,
  ⟨"PROT_STAT.CLAMP_DIS", 0xC, 0xC, 1, 0x4, 2, 2, .ro, false, .any⟩,
  ⟨"PROT_STAT.SQUALL", 0xC, 0xC, 1, 0x4, 1, 1, .ro, false, .any⟩,
  ⟨"PROT_STAT.ARMED", 0xC, 0xC, 1, 0x4, 0, 0, .ro, false, .any⟩,
  ⟨"PROT_CCELL.VHI", 0xC, 0x40, 1, 0x4, 27, 16, .rwl, true, .any⟩,
  ⟨"PROT_CCELL.VLO", 0xC, 0x40, 1, 0x4, 11, 0, .rwl, true, .any⟩,
  ⟨"PROT_SQ_THR.NEG", 0xC, 0x44, 1, 0x4, 24, 16, .rwl, false, .rng 20 500⟩,
  ⟨"PROT_SQ_THR.POS", 0xC, 0x44, 1, 0x4, 8, 0, .rwl, false, .rng 20 500⟩,
  ⟨"PROT_SQ_STAT.LOADED", 0xC, 0x48, 1, 0x4, 7, 7, .ro, false, .any⟩,
  ⟨"PROT_SQ_STAT.CMP_POS", 0xC, 0x48, 1, 0x4, 6, 6, .ro, false, .any⟩,
  ⟨"PROT_SQ_STAT.CMP_NEG", 0xC, 0x48, 1, 0x4, 5, 5, .ro, false, .any⟩,
  ⟨"PROT_SQ_STAT.LATCH_POS", 0xC, 0x48, 1, 0x4, 4, 4, .w1c, false, .any⟩,
  ⟨"PROT_SQ_STAT.LATCH_NEG", 0xC, 0x48, 1, 0x4, 3, 3, .w1c, false, .any⟩,
  ⟨"PROT_SQ_STAT.RB_B", 0xC, 0x48, 1, 0x4, 1, 1, .ro, false, .any⟩,
  ⟨"PROT_SQ_STAT.RB_A", 0xC, 0x48, 1, 0x4, 0, 0, .ro, false, .any⟩,
  ⟨"PROT_SQ_T.T_LO", 0xC, 0x4C, 1, 0x4, 31, 0, .ro, false, .any⟩,
  ⟨"PROT_SQ_T_HI.T_HI", 0xC, 0x50, 1, 0x4, 31, 0, .ro, false, .any⟩,
  ⟨"PROT_SQ_TEST.GO", 0xC, 0x54, 1, 0x4, 31, 31, .w1s, false, .any⟩,
  ⟨"PROT_SQ_TEST.POL", 0xC, 0x54, 1, 0x4, 30, 30, .rw, false, .any⟩,
  ⟨"PROT_SQ_TEST.DONE", 0xC, 0x54, 1, 0x4, 29, 29, .ro, false, .any⟩,
  ⟨"PROT_SQ_TEST.LAT_NS", 0xC, 0x54, 1, 0x4, 15, 0, .ro, false, .any⟩,
  ⟨"PROT_TRIP.RB", 0xC, 0x58, 1, 0x4, 17, 17, .ro, false, .any⟩,
  ⟨"PROT_TRIP.PLAUS", 0xC, 0x58, 1, 0x4, 16, 16, .ro, false, .any⟩,
  ⟨"PROT_TRIP.LIM", 0xC, 0x58, 1, 0x4, 10, 0, .ro, false, .any⟩,
  ⟨"PROT_CLAMP.CHG", 0xC, 0x5C, 1, 0x4, 31, 16, .ro, false, .any⟩,
  ⟨"PROT_CLAMP.DIS", 0xC, 0x5C, 1, 0x4, 15, 0, .ro, false, .any⟩,
  ⟨"PROT_PLAUS.T_S", 0xC, 0x60, 1, 0x4, 31, 24, .rwl, false, .any⟩,
  ⟨"PROT_PLAUS.TACT", 0xC, 0x60, 1, 0x4, 23, 22, .rwl, false, .rng 1 3⟩,
  ⟨"PROT_PLAUS.TBLIND", 0xC, 0x60, 1, 0x4, 21, 16, .rwl, false, .rng 1 63⟩,
  ⟨"PROT_PLAUS.PLIM", 0xC, 0x60, 1, 0x4, 11, 0, .rwl, false, .any⟩,
  ⟨"PROT_CNT.SQUALL", 0xC, 0x64, 1, 0x4, 31, 16, .ro, false, .any⟩,
  ⟨"PROT_CNT.TRIPS", 0xC, 0x64, 1, 0x4, 15, 0, .ro, false, .any⟩,
  ⟨"PROT_Lk_THR.WARN", 0xC, 0x80, 11, 0x10, 31, 16, .rwl, false, .any⟩,
  ⟨"PROT_Lk_THR.TRIP", 0xC, 0x80, 11, 0x10, 15, 0, .rwl, false, .any⟩,
  ⟨"PROT_Lk_CFG.SET_N", 0xC, 0x84, 11, 0x10, 31, 16, .rwl, false, .rng 1 65535⟩,
  ⟨"PROT_Lk_CFG.CLR_N", 0xC, 0x84, 11, 0x10, 15, 8, .rwl, false, .rng 1 255⟩,
  ⟨"PROT_Lk_CFG.TACT", 0xC, 0x84, 11, 0x10, 7, 6, .rwl, false, .any⟩,
  ⟨"PROT_Lk_CFG.WLIM", 0xC, 0x84, 11, 0x10, 5, 5, .rwl, false, .any⟩,
  ⟨"PROT_Lk_HYS.HYS", 0xC, 0x88, 11, 0x10, 15, 0, .rwl, false, .any⟩,
  ⟨"PROT_Lk_ST.TRIPPED", 0xC, 0x8C, 11, 0x10, 31, 31, .ro, false, .any⟩,
  ⟨"PROT_Lk_ST.LIMIT", 0xC, 0x8C, 11, 0x10, 30, 30, .ro, false, .any⟩,
  ⟨"PROT_Lk_ST.WARN", 0xC, 0x8C, 11, 0x10, 29, 29, .ro, false, .any⟩,
  ⟨"PROT_Lk_ST.WORST_CH", 0xC, 0x8C, 11, 0x10, 24, 16, .ro, false, .any⟩,
  ⟨"PROT_Lk_ST.WORST", 0xC, 0x8C, 11, 0x10, 15, 0, .ro, false, .any⟩]

/-- The fields of the SAFE page. -/
def rowsSAFE : List Row := [
  ⟨"SAFE_CTRL.CLR_SF", 0xD, 0x8, 1, 0x4, 2, 2, .w1s, false, .any⟩,
  ⟨"SAFE_CTRL.SRESET", 0xD, 0x8, 1, 0x4, 1, 1, .w1s, false, .any⟩,
  ⟨"SAFE_CTRL.ENABLE", 0xD, 0x8, 1, 0x4, 0, 0, .rw, false, .any⟩,
  ⟨"SAFE_STAT.SF3_ARMED", 0xD, 0xC, 1, 0x4, 9, 9, .ro, false, .any⟩,
  ⟨"SAFE_STAT.RESET_READY", 0xD, 0xC, 1, 0x4, 8, 8, .ro, false, .any⟩,
  ⟨"SAFE_STAT.HOLDUP_OK", 0xD, 0xC, 1, 0x4, 7, 7, .ro, false, .any⟩,
  ⟨"SAFE_STAT.ACT_OK", 0xD, 0xC, 1, 0x4, 6, 6, .ro, false, .any⟩,
  ⟨"SAFE_STAT.BRK_CMD", 0xD, 0xC, 1, 0x4, 5, 5, .ro, false, .any⟩,
  ⟨"SAFE_STAT.STEST_RUN", 0xD, 0xC, 1, 0x4, 4, 4, .ro, false, .any⟩,
  ⟨"SAFE_STAT.LOCKOUT", 0xD, 0xC, 1, 0x4, 3, 3, .ro, false, .any⟩,
  ⟨"SAFE_STAT.SF_ACTIVE", 0xD, 0xC, 1, 0x4, 2, 2, .ro, false, .any⟩,
  ⟨"SAFE_STAT.TRIP", 0xD, 0xC, 1, 0x4, 1, 1, .ro, false, .any⟩,
  ⟨"SAFE_STAT.RUNNING", 0xD, 0xC, 1, 0x4, 0, 0, .ro, false, .any⟩,
  ⟨"SAFE_STATE.SEQ", 0xD, 0x40, 1, 0x4, 26, 24, .ro, false, .any⟩,
  ⟨"SAFE_STATE.SF", 0xD, 0x40, 1, 0x4, 20, 16, .ro, false, .any⟩,
  ⟨"SAFE_STATE.PERM_AUX", 0xD, 0x40, 1, 0x4, 9, 9, .ro, false, .any⟩,
  ⟨"SAFE_STATE.PERM_MAIN", 0xD, 0x40, 1, 0x4, 8, 8, .ro, false, .any⟩,
  ⟨"SAFE_STATE.OUT_CMD", 0xD, 0x40, 1, 0x4, 7, 4, .ro, false, .any⟩,
  ⟨"SAFE_STATE.OUT_RB", 0xD, 0x40, 1, 0x4, 3, 0, .ro, false, .any⟩,
  ⟨"SAFE_LOCKOUT.LATCHED", 0xD, 0x44, 1, 0x4, 31, 31, .ro, false, .any⟩,
  ⟨"SAFE_LOCKOUT.NV_PEND", 0xD, 0x44, 1, 0x4, 30, 30, .ro, false, .any⟩,
  ⟨"SAFE_LOCKOUT.COUNT", 0xD, 0x44, 1, 0x4, 15, 8, .ro, false, .any⟩,
  ⟨"SAFE_LOCKOUT.CAUSE", 0xD, 0x44, 1, 0x4, 7, 0, .ro, false, .any⟩,
  ⟨"SAFE_LO_T.OPSEC", 0xD, 0x48, 1, 0x4, 31, 0, .ro, false, .any⟩,
  ⟨"SAFE_LO_EP.EPOCH", 0xD, 0x4C, 1, 0x4, 31, 0, .ro, false, .any⟩,
  ⟨"SAFE_IN.FAULT", 0xD, 0x50, 1, 0x4, 31, 24, .ro, false, .any⟩,
  ⟨"SAFE_IN.RESET", 0xD, 0x50, 1, 0x4, 16, 16, .ro, false, .any⟩,
  ⟨"SAFE_IN.FILT", 0xD, 0x50, 1, 0x4, 15, 8, .ro, false, .any⟩,
  ⟨"SAFE_IN.RAW", 0xD, 0x50, 1, 0x4, 7, 0, .ro, false, .any⟩,
  ⟨"SAFE_IN_CFG.DISC_MS", 0xD, 0x54, 1, 0x4, 31, 16, .rwl, false, .rng 10 1000⟩,
  ⟨"SAFE_IN_CFG.SI8_STATIC", 0xD, 0x54, 1, 0x4, 8, 8, .rwl, false, .any⟩,
  ⟨"SAFE_IN_CFG.FB_EN", 0xD, 0x54, 1, 0x4, 2, 0, .rwl, false, .any⟩,
  ⟨"SAFE_SF_CFG.SF2_MAN", 0xD, 0x58, 1, 0x4, 8, 8, .rwl, false, .any⟩,
  ⟨"SAFE_SF_CFG.BRK5", 0xD, 0x58, 1, 0x4, 3, 3, .rwl, false, .any⟩,
  ⟨"SAFE_SF_CFG.BRK3", 0xD, 0x58, 1, 0x4, 2, 2, .rwl, false, .any⟩,
  ⟨"SAFE_SF_CFG.BRK2", 0xD, 0x58, 1, 0x4, 1, 1, .rwl, false, .any⟩,
  ⟨"SAFE_SF_CFG.BRK1", 0xD, 0x58, 1, 0x4, 0, 0, .rwl, false, .any⟩,
  ⟨"SAFE_SEQ.CLOSE", 0xD, 0x5C, 1, 0x4, 31, 24, .rwl, false, .rng 2 50⟩,
  ⟨"SAFE_SEQ.FB", 0xD, 0x5C, 1, 0x4, 23, 16, .rwl, false, .rng 1 49⟩,
  ⟨"SAFE_SEQ.OPEN_TO", 0xD, 0x5C, 1, 0x4, 15, 8, .rwl, false, .rng 1 255⟩,
  ⟨"SAFE_SEQ.I_OPEN", 0xD, 0x5C, 1, 0x4, 7, 0, .rwl, false, .any⟩,
  ⟨"SAFE_PRE.T_MIN", 0xD, 0x60, 1, 0x4, 31, 24, .rwl, false, .rng 1 255⟩,
  ⟨"SAFE_PRE.T_MAX", 0xD, 0x60, 1, 0x4, 23, 12, .rwl, false, .any⟩,
  ⟨"SAFE_PRE.I_END", 0xD, 0x60, 1, 0x4, 11, 0, .rwl, false, .rng 1 4095⟩,
  ⟨"SAFE_STEST.PASS", 0xD, 0x64, 1, 0x4, 7, 0, .ro, false, .any⟩,
  ⟨"SAFE_SF3.VERDICT", 0xD, 0x68, 1, 0x4, 31, 30, .ro, false, .any⟩,
  ⟨"SAFE_SF3.POS", 0xD, 0x68, 1, 0x4, 8, 0, .ro, false, .any⟩,
  ⟨"SAFE_CNT.DEMANDS", 0xD, 0x6C, 1, 0x4, 31, 16, .ro, false, .any⟩,
  ⟨"SAFE_CNT.ABORTS", 0xD, 0x6C, 1, 0x4, 15, 0, .ro, false, .any⟩]

/-- The fields of the CLE page. -/
def rowsCLE : List Row := [
  ⟨"CLE_MODE.POWER", 0xE, 0x40, 1, 0x4, 0, 0, .rw, false, .any⟩,
  ⟨"CLE_PWM_F.F_HZ", 0xE, 0x50, 1, 0x4, 14, 0, .rwl, true, .rng 25 25000⟩,
  ⟨"CLE_GT_SEL.COMMIT", 0xE, 0x44, 1, 0x4, 31, 31, .w1s, false, .any⟩,
  ⟨"CLE_GT_SEL.LOOP", 0xE, 0x44, 1, 0x4, 26, 24, .rw, false, .any⟩,
  ⟨"CLE_GT_SEL.IDX", 0xE, 0x44, 1, 0x4, 5, 0, .rw, false, .any⟩,
  ⟨"CLE_GT_ERR.ERR", 0xE, 0x48, 1, 0x4, 31, 0, .rw, false, .any⟩,
  ⟨"CLE_GT_GAIN.GAIN", 0xE, 0x4C, 1, 0x4, 31, 0, .rw, false, .any⟩,
  ⟨"CLE_TACH.TACH2", 0xE, 0x54, 1, 0x4, 31, 16, .ro, false, .any⟩,
  ⟨"CLE_TACH.TACH1", 0xE, 0x54, 1, 0x4, 15, 0, .ro, false, .any⟩,
  ⟨"CLE_TACH_HI.TACH4", 0xE, 0x58, 1, 0x4, 31, 16, .ro, false, .any⟩,
  ⟨"CLE_TACH_HI.TACH3", 0xE, 0x58, 1, 0x4, 15, 0, .ro, false, .any⟩,
  ⟨"CLE_Lk_CFG.EN", 0xE, 0x100, 8, 0x80, 31, 31, .rwl, true, .any⟩,
  ⟨"CLE_Lk_CFG.INV", 0xE, 0x100, 8, 0x80, 30, 30, .rwl, true, .any⟩,
  ⟨"CLE_Lk_CFG.APP_SP", 0xE, 0x100, 8, 0x80, 29, 29, .rwl, true, .any⟩,
  ⟨"CLE_Lk_CFG.RATE", 0xE, 0x100, 8, 0x80, 28, 26, .rwl, true, .rng 0 5⟩,
  ⟨"CLE_Lk_CFG.FC_N", 0xE, 0x100, 8, 0x80, 23, 16, .rwl, true, .any⟩,
  ⟨"CLE_Lk_CFG.FC_D", 0xE, 0x100, 8, 0x80, 15, 12, .rwl, true, .any⟩,
  ⟨"CLE_Lk_SRC.MODE", 0xE, 0x104, 8, 0x80, 31, 30, .rwl, true, .rng 0 2⟩,
  ⟨"CLE_Lk_SRC.INDEX", 0xE, 0x104, 8, 0x80, 15, 0, .rwl, true, .any⟩,
  ⟨"CLE_Lk_DST.PWM", 0xE, 0x108, 8, 0x80, 7, 4, .rwl, true, .any⟩,
  ⟨"CLE_Lk_DST.AO", 0xE, 0x108, 8, 0x80, 3, 0, .rwl, true, .any⟩,
  ⟨"CLE_Lk_CTRL.FULL", 0xE, 0x10C, 8, 0x80, 2, 2, .rw, false, .any⟩,
  ⟨"CLE_Lk_CTRL.CLR_PLAUS", 0xE, 0x10C, 8, 0x80, 1, 1, .w1s, false, .any⟩,
  ⟨"CLE_Lk_CTRL.HOLD", 0xE, 0x10C, 8, 0x80, 0, 0, .rw, false, .any⟩,
  ⟨"CLE_Lk_STAT.FORCED_ZERO", 0xE, 0x110, 8, 0x80, 7, 7, .ro, false, .any⟩,
  ⟨"CLE_Lk_STAT.CLIP", 0xE, 0x110, 8, 0x80, 6, 6, .ro, false, .any⟩,
  ⟨"CLE_Lk_STAT.AT_SP", 0xE, 0x110, 8, 0x80, 5, 5, .ro, false, .any⟩,
  ⟨"CLE_Lk_STAT.RAMP_DN", 0xE, 0x110, 8, 0x80, 4, 4, .ro, false, .any⟩,
  ⟨"CLE_Lk_STAT.RAMP_UP", 0xE, 0x110, 8, 0x80, 3, 3, .ro, false, .any⟩,
  ⟨"CLE_Lk_STAT.INT_HOLD", 0xE, 0x110, 8, 0x80, 2, 2, .ro, false, .any⟩,
  ⟨"CLE_Lk_STAT.PLAUS", 0xE, 0x110, 8, 0x80, 1, 1, .ro, false, .any⟩,
  ⟨"CLE_Lk_STAT.RUN", 0xE, 0x110, 8, 0x80, 0, 0, .ro, false, .any⟩,
  ⟨"CLE_Lk_SP.V", 0xE, 0x114, 8, 0x80, 31, 0, .rw, false, .any⟩,
  ⟨"CLE_Lk_SP_RL.V", 0xE, 0x118, 8, 0x80, 31, 0, .ro, false, .any⟩,
  ⟨"CLE_Lk_FB.V", 0xE, 0x11C, 8, 0x80, 31, 0, .ro, false, .any⟩,
  ⟨"CLE_Lk_OUT.V", 0xE, 0x120, 8, 0x80, 31, 0, .ro, false, .any⟩,
  ⟨"CLE_Lk_RESID.V", 0xE, 0x124, 8, 0x80, 31, 0, .ro, false, .any⟩,
  ⟨"CLE_Lk_RATE_UP.V", 0xE, 0x128, 8, 0x80, 31, 0, .rwl, false, .any⟩,
  ⟨"CLE_Lk_RATE_DN.V", 0xE, 0x12C, 8, 0x80, 31, 0, .rwl, false, .any⟩,
  ⟨"CLE_Lk_FF.V", 0xE, 0x130, 8, 0x80, 31, 0, .rwl, false, .any⟩,
  ⟨"CLE_Lk_KP.V", 0xE, 0x134, 8, 0x80, 31, 0, .rwl, false, .any⟩,
  ⟨"CLE_Lk_KI.V", 0xE, 0x138, 8, 0x80, 31, 0, .rwl, false, .any⟩,
  ⟨"CLE_Lk_OUT_MIN.V", 0xE, 0x13C, 8, 0x80, 31, 0, .rwl, false, .any⟩,
  ⟨"CLE_Lk_OUT_MAX.V", 0xE, 0x140, 8, 0x80, 31, 0, .rwl, false, .any⟩,
  ⟨"CLE_Lk_FC_K.V", 0xE, 0x144, 8, 0x80, 31, 0, .rwl, false, .any⟩,
  ⟨"CLE_Lk_FC_TAU.V", 0xE, 0x148, 8, 0x80, 31, 0, .rwl, false, .any⟩,
  ⟨"CLE_Lk_FC_LIM.V", 0xE, 0x14C, 8, 0x80, 31, 0, .rwl, false, .any⟩,
  ⟨"CLE_Lk_TRC_CFG.ARM", 0xE, 0x150, 8, 0x80, 31, 31, .w1s, false, .any⟩,
  ⟨"CLE_Lk_TRC_CFG.FORCE", 0xE, 0x150, 8, 0x80, 30, 30, .w1s, false, .any⟩,
  ⟨"CLE_Lk_TRC_CFG.NODE", 0xE, 0x150, 8, 0x80, 29, 27, .rw, false, .any⟩,
  ⟨"CLE_Lk_TRC_CFG.SRC", 0xE, 0x150, 8, 0x80, 26, 24, .rw, false, .rng 0 4⟩,
  ⟨"CLE_Lk_TRC_CFG.EDGE", 0xE, 0x150, 8, 0x80, 23, 22, .rw, false, .rng 0 2⟩,
  ⟨"CLE_Lk_TRC_CFG.PRE", 0xE, 0x150, 8, 0x80, 12, 0, .rw, false, .any⟩,
  ⟨"CLE_Lk_TRC_LEVEL.LEVEL", 0xE, 0x154, 8, 0x80, 31, 0, .rw, false, .any⟩,
  ⟨"CLE_Lk_TRC_DEC.DEC", 0xE, 0x158, 8, 0x80, 15, 0, .rw, false, .rng 1 65535⟩,
  ⟨"CLE_Lk_TRC_STAT.ARMED", 0xE, 0x15C, 8, 0x80, 31, 31, .ro, false, .any⟩,
  ⟨"CLE_Lk_TRC_STAT.TRIGGERED", 0xE, 0x15C, 8, 0x80, 30, 30, .ro, false, .any⟩,
  ⟨"CLE_Lk_TRC_STAT.DONE", 0xE, 0x15C, 8, 0x80, 29, 29, .ro, false, .any⟩,
  ⟨"CLE_Lk_TRC_STAT.TRIG_IDX", 0xE, 0x15C, 8, 0x80, 12, 0, .ro, false, .any⟩,
  ⟨"CLE_Lk_TRC_EVT.CODE", 0xE, 0x160, 8, 0x80, 15, 0, .rw, false, .any⟩,
  ⟨"CLE_CTRL.ENABLE", 0xE, 0x8, 1, 0x4, 0, 0, .rw, false, .any⟩,
  ⟨"CLE_CTRL.SRESET", 0xE, 0x8, 1, 0x4, 1, 1, .w1s, false, .any⟩]

/-- The fields of the CLINK page. -/
def rowsCLINK : List Row := [
  ⟨"CLINK_STAT.CONV_FAULT", 0xF, 0xC, 1, 0x4, 4, 4, .ro, false, .any⟩,
  ⟨"CLINK_STAT.LOST", 0xF, 0xC, 1, 0x4, 3, 3, .ro, false, .any⟩,
  ⟨"CLINK_STAT.MERGE", 0xF, 0xC, 1, 0x4, 2, 2, .ro, false, .any⟩,
  ⟨"CLINK_STAT.RX_OK", 0xF, 0xC, 1, 0x4, 1, 1, .ro, false, .any⟩,
  ⟨"CLINK_STAT.RUNNING", 0xF, 0xC, 1, 0x4, 0, 0, .ro, false, .any⟩,
  ⟨"CLINK_CFG.LOSS_N", 0xF, 0x40, 1, 0x4, 31, 24, .rwl, true, .rng 1 255⟩,
  ⟨"CLINK_CFG.REGAIN_N", 0xF, 0x40, 1, 0x4, 15, 0, .rwl, true, .rng 10 65535⟩,
  ⟨"CLINK_RATED.I_RATED", 0xF, 0x44, 1, 0x4, 13, 0, .rwl, true, .rng 10 10000⟩,
  ⟨"CLINK_REF.I_REF", 0xF, 0x48, 1, 0x4, 31, 0, .ro, false, .any⟩,
  ⟨"CLINK_MEAS.I_MEAS", 0xF, 0x4C, 1, 0x4, 31, 0, .ro, false, .any⟩,
  ⟨"CLINK_CONV.V_LINK", 0xF, 0x50, 1, 0x4, 31, 16, .ro, false, .any⟩,
  ⟨"CLINK_CONV.T_CONV", 0xF, 0x50, 1, 0x4, 15, 8, .ro, false, .any⟩,
  ⟨"CLINK_CONV.FAULT", 0xF, 0x50, 1, 0x4, 7, 0, .ro, false, .any⟩,
  ⟨"CLINK_RXSTAT.STATUS", 0xF, 0x54, 1, 0x4, 15, 0, .ro, false, .any⟩,
  ⟨"CLINK_AVAIL.CHG", 0xF, 0x58, 1, 0x4, 31, 16, .ro, false, .any⟩,
  ⟨"CLINK_AVAIL.DIS", 0xF, 0x58, 1, 0x4, 15, 0, .ro, false, .any⟩,
  ⟨"CLINK_ERR.CRC", 0xF, 0x5C, 1, 0x4, 31, 16, .ro, false, .any⟩,
  ⟨"CLINK_ERR.MISSING", 0xF, 0x5C, 1, 0x4, 15, 0, .ro, false, .any⟩,
  ⟨"CLINK_LOSTCNT.LOST", 0xF, 0x60, 1, 0x4, 15, 0, .ro, false, .any⟩,
  ⟨"CLINK_CTRL.ENABLE", 0xF, 0x8, 1, 0x4, 0, 0, .rw, false, .any⟩,
  ⟨"CLINK_CTRL.SRESET", 0xF, 0x8, 1, 0x4, 1, 1, .w1s, false, .any⟩]

/-- The fields of the ORD page. -/
def rowsORD : List Row := [
  ⟨"ORD_CTRL.REBASE", 0x10, 0x8, 1, 0x4, 2, 2, .w1s, false, .any⟩,
  ⟨"ORD_CTRL.SRESET", 0x10, 0x8, 1, 0x4, 1, 1, .w1s, false, .any⟩,
  ⟨"ORD_CTRL.ENABLE", 0x10, 0x8, 1, 0x4, 0, 0, .rw, false, .any⟩,
  ⟨"ORD_STAT.GAP", 0x10, 0xC, 1, 0x4, 7, 7, .ro, false, .any⟩,
  ⟨"ORD_STAT.WAITING", 0x10, 0xC, 1, 0x4, 6, 6, .ro, false, .any⟩,
  ⟨"ORD_STAT.HELD_STATE", 0x10, 0xC, 1, 0x4, 5, 5, .ro, false, .any⟩,
  ⟨"ORD_STAT.HELD_BO", 0x10, 0xC, 1, 0x4, 4, 4, .ro, false, .any⟩,
  ⟨"ORD_STAT.WAIT_TOE", 0x10, 0xC, 1, 0x4, 3, 3, .ro, false, .any⟩,
  ⟨"ORD_STAT.WAIT_STEP", 0x10, 0xC, 1, 0x4, 2, 2, .ro, false, .any⟩,
  ⟨"ORD_STAT.SINGLE", 0x10, 0xC, 1, 0x4, 1, 1, .ro, false, .any⟩,
  ⟨"ORD_STAT.RUNNING", 0x10, 0xC, 1, 0x4, 0, 0, .ro, false, .any⟩,
  ⟨"ORD_NEXT_SEQ.NEXT", 0x10, 0x40, 1, 0x4, 31, 0, .ro, false, .any⟩,
  ⟨"ORD_OLDEST.OLDEST", 0x10, 0x44, 1, 0x4, 31, 0, .ro, false, .any⟩,
  ⟨"ORD_INFLIGHT.BEYOND", 0x10, 0x48, 1, 0x4, 15, 8, .ro, false, .any⟩,
  ⟨"ORD_INFLIGHT.COUNT", 0x10, 0x48, 1, 0x4, 7, 0, .ro, false, .any⟩,
  ⟨"ORD_LAST.SEQ", 0x10, 0x4C, 1, 0x4, 31, 0, .ro, false, .any⟩,
  ⟨"ORD_LAST_RES.TYPE", 0x10, 0x50, 1, 0x4, 31, 24, .ro, false, .any⟩,
  ⟨"ORD_LAST_RES.RESULT", 0x10, 0x50, 1, 0x4, 23, 16, .ro, false, .any⟩,
  ⟨"ORD_LAST_RES.DFLAGS", 0x10, 0x50, 1, 0x4, 15, 8, .ro, false, .any⟩,
  ⟨"ORD_NEXT_TX.TX_LO", 0x10, 0x54, 1, 0x4, 31, 0, .ro, false, .any⟩,
  ⟨"ORD_NEXT_TX_HI.TX_HI", 0x10, 0x58, 1, 0x4, 31, 0, .ro, false, .any⟩,
  ⟨"ORD_CFG.GAP_TO_S", 0x10, 0x5C, 1, 0x4, 31, 16, .rwl, false, .rng 1 3600⟩,
  ⟨"ORD_CFG.GAP_MS", 0x10, 0x5C, 1, 0x4, 7, 0, .rwl, false, .rng 1 255⟩,
  ⟨"ORD_CONTACT.AUX_REQ", 0x10, 0x60, 1, 0x4, 1, 1, .ro, false, .any⟩,
  ⟨"ORD_CONTACT.MAIN_REQ", 0x10, 0x60, 1, 0x4, 0, 0, .ro, false, .any⟩,
  ⟨"ORD_REBASE.SEQ", 0x10, 0x64, 1, 0x4, 31, 0, .rwl, true, .any⟩,
  ⟨"ORD_CNT.COMMITTED", 0x10, 0x68, 1, 0x4, 31, 16, .ro, false, .any⟩,
  ⟨"ORD_CNT.DUPLICATES", 0x10, 0x68, 1, 0x4, 15, 0, .ro, false, .any⟩,
  ⟨"ORD_CNT2.LATE", 0x10, 0x6C, 1, 0x4, 31, 16, .ro, false, .any⟩,
  ⟨"ORD_CNT2.NONZERO", 0x10, 0x6C, 1, 0x4, 15, 0, .ro, false, .any⟩]

/-- The fields of the TALLY page. -/
def rowsTALLY : List Row := [
  ⟨"TALLY_CTRL.STOP", 0x11, 0x8, 1, 0x4, 5, 5, .w1s, false, .any⟩,
  ⟨"TALLY_CTRL.RUN", 0x11, 0x8, 1, 0x4, 4, 4, .w1s, false, .any⟩,
  ⟨"TALLY_CTRL.LOAD", 0x11, 0x8, 1, 0x4, 3, 3, .w1s, false, .any⟩,
  ⟨"TALLY_CTRL.SRESET", 0x11, 0x8, 1, 0x4, 1, 1, .w1s, false, .any⟩,
  ⟨"TALLY_CTRL.ENABLE", 0x11, 0x8, 1, 0x4, 0, 0, .rw, false, .any⟩,
  ⟨"TALLY_STAT.SUBST_ANY", 0x11, 0xC, 1, 0x4, 9, 9, .ro, false, .any⟩,
  ⟨"TALLY_STAT.STALE_ANY", 0x11, 0xC, 1, 0x4, 8, 8, .ro, false, .any⟩,
  ⟨"TALLY_STAT.WCET_OVER", 0x11, 0xC, 1, 0x4, 7, 7, .ro, false, .any⟩,
  ⟨"TALLY_STAT.OVR", 0x11, 0xC, 1, 0x4, 6, 6, .ro, false, .any⟩,
  ⟨"TALLY_STAT.LOADING", 0x11, 0xC, 1, 0x4, 5, 5, .ro, false, .any⟩,
  ⟨"TALLY_STAT.LOADED", 0x11, 0xC, 1, 0x4, 4, 4, .ro, false, .any⟩,
  ⟨"TALLY_STAT.FIRST", 0x11, 0xC, 1, 0x4, 3, 3, .ro, false, .any⟩,
  ⟨"TALLY_STAT.STATE", 0x11, 0xC, 1, 0x4, 1, 0, .ro, false, .any⟩,
  ⟨"TALLY_IMG_BASE.BASE", 0x11, 0x40, 1, 0x4, 31, 6, .rwl, false, .any⟩,
  ⟨"TALLY_RUN_EP.EPOCH", 0x11, 0x44, 1, 0x4, 31, 0, .rwl, false, .any⟩,
  ⟨"TALLY_LDERR.REASON", 0x11, 0x48, 1, 0x4, 31, 24, .ro, false, .any⟩,
  ⟨"TALLY_LDERR.INDEX", 0x11, 0x48, 1, 0x4, 12, 0, .ro, false, .any⟩,
  ⟨"TALLY_TIMING.WCET_US", 0x11, 0x4C, 1, 0x4, 31, 16, .ro, false, .any⟩,
  ⟨"TALLY_TIMING.CYCLE", 0x11, 0x4C, 1, 0x4, 7, 0, .ro, false, .any⟩,
  ⟨"TALLY_EXEC.MAX_US", 0x11, 0x50, 1, 0x4, 31, 16, .ro, false, .any⟩,
  ⟨"TALLY_EXEC.LAST_US", 0x11, 0x50, 1, 0x4, 15, 0, .ro, false, .any⟩,
  ⟨"TALLY_CNT.OVERRUNS", 0x11, 0x54, 1, 0x4, 31, 16, .ro, false, .any⟩,
  ⟨"TALLY_CNT.DROPOUTS", 0x11, 0x54, 1, 0x4, 15, 0, .ro, false, .any⟩,
  ⟨"TALLY_CYC.CYC", 0x11, 0x58, 1, 0x4, 31, 0, .ro, false, .any⟩,
  ⟨"TALLY_UIN.UIN", 0x11, 0x5C, 1, 0x4, 31, 0, .rw, false, .any⟩,
  ⟨"TALLY_Q.Q", 0x11, 0x60, 1, 0x4, 9, 0, .ro, false, .any⟩,
  ⟨"TALLY_STA.STALE", 0x11, 0x64, 1, 0x4, 31, 16, .ro, false, .any⟩,
  ⟨"TALLY_STA.OK", 0x11, 0x64, 1, 0x4, 15, 0, .ro, false, .any⟩,
  ⟨"TALLY_STA_SUB.SUBST", 0x11, 0x68, 1, 0x4, 15, 0, .ro, false, .any⟩,
  ⟨"TALLY_IMG_CRC.CRC", 0x11, 0x6C, 1, 0x4, 31, 0, .ro, false, .any⟩,
  ⟨"TALLY_PCRC.PCRC", 0x11, 0x70, 1, 0x4, 31, 0, .ro, false, .any⟩,
  ⟨"TALLY_BUILD.BUILD", 0x11, 0x74, 1, 0x4, 31, 0, .ro, false, .any⟩,
  ⟨"TALLY_M_SEL.WORD", 0x11, 0x78, 1, 0x4, 5, 0, .rw, false, .any⟩,
  ⟨"TALLY_M.M", 0x11, 0x7C, 1, 0x4, 31, 0, .ro, false, .any⟩]

/-- The fields of the LANE page. -/
def rowsLANE : List Row := [
  ⟨"LANE_CTRL.INJECT", 0x12, 0x8, 1, 0x4, 5, 5, .w1s, false, .any⟩,
  ⟨"LANE_CTRL.SWAP", 0x12, 0x8, 1, 0x4, 4, 4, .w1s, false, .any⟩,
  ⟨"LANE_CTRL.SYNC", 0x12, 0x8, 1, 0x4, 3, 3, .w1s, false, .any⟩,
  ⟨"LANE_CTRL.LRESET", 0x12, 0x8, 1, 0x4, 2, 2, .w1s, false, .any⟩,
  ⟨"LANE_CTRL.SRESET", 0x12, 0x8, 1, 0x4, 1, 1, .w1s, false, .any⟩,
  ⟨"LANE_CTRL.ENABLE", 0x12, 0x8, 1, 0x4, 0, 0, .rw, false, .any⟩,
  ⟨"LANE_STAT.DIVERGED", 0x12, 0xC, 1, 0x4, 3, 3, .ro, false, .any⟩,
  ⟨"LANE_STAT.SYNCING", 0x12, 0xC, 1, 0x4, 2, 2, .ro, false, .any⟩,
  ⟨"LANE_STAT.MERGE", 0x12, 0xC, 1, 0x4, 1, 1, .ro, false, .any⟩,
  ⟨"LANE_STAT.DUAL", 0x12, 0xC, 1, 0x4, 0, 0, .ro, false, .any⟩,
  ⟨"LANE_AUTH.MERGE", 0x12, 0x40, 1, 0x4, 31, 31, .ro, false, .any⟩,
  ⟨"LANE_AUTH.CAUSE", 0x12, 0x40, 1, 0x4, 18, 16, .ro, false, .any⟩,
  ⟨"LANE_AUTH.OWNER", 0x12, 0x40, 1, 0x4, 1, 0, .ro, false, .any⟩,
  ⟨"LANE_STATE.B", 0x12, 0x44, 1, 0x4, 6, 4, .ro, false, .any⟩,
  ⟨"LANE_STATE.A", 0x12, 0x44, 1, 0x4, 2, 0, .ro, false, .any⟩,
  ⟨"LANE_HEALTH.B", 0x12, 0x48, 1, 0x4, 23, 16, .ro, false, .any⟩,
  ⟨"LANE_HEALTH.A", 0x12, 0x48, 1, 0x4, 7, 0, .ro, false, .any⟩,
  ⟨"LANE_CFG.MERGE_US", 0x12, 0x4C, 1, 0x4, 31, 16, .rwl, false, .rng 100 2000⟩,
  ⟨"LANE_CFG.DIV_N", 0x12, 0x4C, 1, 0x4, 15, 8, .rwl, false, .rng 1 255⟩,
  ⟨"LANE_CFG.APP_WD_ACT", 0x12, 0x4C, 1, 0x4, 3, 3, .rwl, false, .any⟩,
  ⟨"LANE_CFG.AUTO_SYNC", 0x12, 0x4C, 1, 0x4, 2, 2, .rwl, false, .any⟩,
  ⟨"LANE_CFG.AUTO_RST", 0x12, 0x4C, 1, 0x4, 1, 1, .rwl, false, .any⟩,
  ⟨"LANE_CFG.PREF", 0x12, 0x4C, 1, 0x4, 0, 0, .rwl, false, .any⟩,
  ⟨"LANE_WDOG.REMAIN_B", 0x12, 0x50, 1, 0x4, 31, 16, .ro, false, .any⟩,
  ⟨"LANE_WDOG.REMAIN_A", 0x12, 0x50, 1, 0x4, 15, 0, .ro, false, .any⟩,
  ⟨"LANE_APP_WD.KICK", 0x12, 0x54, 1, 0x4, 31, 31, .w1s, false, .any⟩,
  ⟨"LANE_APP_WD.TO_MS", 0x12, 0x54, 1, 0x4, 15, 0, .rwl, false, .zr 10 10000⟩,
  ⟨"LANE_RDY.RDY_B", 0x12, 0x58, 1, 0x4, 1, 1, .w1s, false, .any⟩,
  ⟨"LANE_RDY.RDY_A", 0x12, 0x58, 1, 0x4, 0, 0, .w1s, false, .any⟩,
  ⟨"LANE_DIV.COUNT", 0x12, 0x5C, 1, 0x4, 31, 16, .ro, false, .any⟩,
  ⟨"LANE_DIV.CLE", 0x12, 0x5C, 1, 0x4, 2, 2, .ro, false, .any⟩,
  ⟨"LANE_DIV.TALLY", 0x12, 0x5C, 1, 0x4, 1, 1, .ro, false, .any⟩,
  ⟨"LANE_DIV.EST", 0x12, 0x5C, 1, 0x4, 0, 0, .ro, false, .any⟩,
  ⟨"LANE_CNT.HANDOVERS", 0x12, 0x68, 1, 0x4, 31, 16, .ro, false, .any⟩,
  ⟨"LANE_CNT.REJOINS", 0x12, 0x68, 1, 0x4, 15, 0, .ro, false, .any⟩,
  ⟨"LANE_SYNC_EP.EPOCH", 0x12, 0x6C, 1, 0x4, 31, 0, .ro, false, .any⟩,
  ⟨"LANE_HO_T.T_LO", 0x12, 0x60, 1, 0x4, 31, 0, .ro, false, .any⟩,
  ⟨"LANE_HO_T_HI.T_HI", 0x12, 0x64, 1, 0x4, 31, 0, .ro, false, .any⟩,
  ⟨"LANE_TBL_CRC_A.CRC", 0x12, 0x70, 1, 0x4, 31, 0, .ro, false, .any⟩,
  ⟨"LANE_TBL_CRC_B.CRC", 0x12, 0x74, 1, 0x4, 31, 0, .ro, false, .any⟩]

/-- The fields of the CBUS page. -/
def rowsCBUS : List Row := [
  ⟨"CBUS_CTRL.AUTO_REC", 0x13, 0x8, 1, 0x4, 5, 5, .rwl, false, .any⟩,
  ⟨"CBUS_CTRL.BO_REC", 0x13, 0x8, 1, 0x4, 4, 4, .w1s, false, .any⟩,
  ⟨"CBUS_CTRL.SRESET", 0x13, 0x8, 1, 0x4, 1, 1, .w1s, false, .any⟩,
  ⟨"CBUS_CTRL.ENABLE", 0x13, 0x8, 1, 0x4, 0, 0, .rw, true, .any⟩,
  ⟨"CBUS_STAT.TX_ROLE", 0x13, 0xC, 1, 0x4, 8, 8, .ro, false, .any⟩,
  ⟨"CBUS_STAT.FSTATE", 0x13, 0xC, 1, 0x4, 7, 6, .ro, false, .any⟩,
  ⟨"CBUS_STAT.BO_RECOVERING", 0x13, 0xC, 1, 0x4, 5, 5, .ro, false, .any⟩,
  ⟨"CBUS_STAT.IDLE", 0x13, 0xC, 1, 0x4, 4, 4, .ro, false, .any⟩,
  ⟨"CBUS_STAT.RXF_NE", 0x13, 0xC, 1, 0x4, 3, 3, .ro, false, .any⟩,
  ⟨"CBUS_STAT.WARN", 0x13, 0xC, 1, 0x4, 2, 2, .ro, false, .any⟩,
  ⟨"CBUS_STAT.ON", 0x13, 0xC, 1, 0x4, 0, 0, .ro, false, .any⟩,
  ⟨"CBUS_NODE.NODE", 0x13, 0x40, 1, 0x4, 5, 0, .rwl, true, .rng 1 63⟩,
  ⟨"CBUS_FDCFG.PEX", 0x13, 0x4C, 1, 0x4, 1, 1, .rwl, true, .any⟩,
  ⟨"CBUS_FDCFG.BRS_EN", 0x13, 0x4C, 1, 0x4, 0, 0, .rwl, true, .any⟩,
  ⟨"CBUS_TDC.TDCV", 0x13, 0x54, 1, 0x4, 7, 0, .ro, false, .any⟩,
  ⟨"CBUS_NBT.BRP_M1", 0x13, 0x44, 1, 0x4, 31, 28, .rwl, true, .any⟩,
  ⟨"CBUS_NBT.PROP", 0x13, 0x44, 1, 0x4, 27, 21, .rwl, true, .rng 1 127⟩,
  ⟨"CBUS_NBT.PH1", 0x13, 0x44, 1, 0x4, 20, 14, .rwl, true, .rng 1 127⟩,
  ⟨"CBUS_NBT.PH2", 0x13, 0x44, 1, 0x4, 13, 7, .rwl, true, .rng 2 127⟩,
  ⟨"CBUS_NBT.SJW", 0x13, 0x44, 1, 0x4, 6, 0, .rwl, true, .rng 1 127⟩,
  ⟨"CBUS_DBT.BRP_M1", 0x13, 0x48, 1, 0x4, 31, 28, .rwl, true, .any⟩,
  ⟨"CBUS_DBT.PROP", 0x13, 0x48, 1, 0x4, 27, 23, .rwl, true, .any⟩,
  ⟨"CBUS_DBT.PH1", 0x13, 0x48, 1, 0x4, 22, 18, .rwl, true, .rng 1 31⟩,
  ⟨"CBUS_DBT.PH2", 0x13, 0x48, 1, 0x4, 17, 13, .rwl, true, .rng 2 31⟩,
  ⟨"CBUS_DBT.SJW", 0x13, 0x48, 1, 0x4, 12, 8, .rwl, true, .rng 1 31⟩,
  ⟨"CBUS_DBT.TDC_EN", 0x13, 0x48, 1, 0x4, 7, 7, .rwl, true, .any⟩,
  ⟨"CBUS_DBT.TDCO", 0x13, 0x48, 1, 0x4, 6, 0, .rwl, true, .any⟩,
  ⟨"CBUS_ERR.TEC", 0x13, 0x50, 1, 0x4, 23, 16, .ro, false, .any⟩,
  ⟨"CBUS_ERR.REC_P", 0x13, 0x50, 1, 0x4, 15, 15, .ro, false, .any⟩,
  ⟨"CBUS_ERR.REC", 0x13, 0x50, 1, 0x4, 14, 8, .ro, false, .any⟩,
  ⟨"CBUS_ERR.DLEC", 0x13, 0x50, 1, 0x4, 7, 4, .ro, false, .any⟩,
  ⟨"CBUS_ERR.LEC", 0x13, 0x50, 1, 0x4, 3, 0, .ro, false, .any⟩,
  ⟨"CBUS_TXCFG.SHADOW_US", 0x13, 0x58, 1, 0x4, 31, 16, .rwl, false, .rng 100 10000⟩,
  ⟨"CBUS_TXCFG.MODE", 0x13, 0x58, 1, 0x4, 0, 0, .rw, false, .any⟩,
  ⟨"CBUS_TXREQ.CAN", 0x13, 0x5C, 1, 0x4, 18, 16, .w1s, false, .any⟩,
  ⟨"CBUS_TXREQ.REQ", 0x13, 0x5C, 1, 0x4, 2, 0, .w1s, false, .any⟩,
  ⟨"CBUS_TXSTAT.ST", 0x13, 0x60, 1, 0x4, 11, 0, .ro, false, .any⟩,
  ⟨"CBUS_RXCFG.STA_COPY", 0x13, 0x64, 1, 0x4, 1, 1, .rwl, false, .any⟩,
  ⟨"CBUS_RXCFG.ACC_ALL", 0x13, 0x64, 1, 0x4, 0, 0, .rw, false, .any⟩,
  ⟨"CBUS_RXSTAT.FIFO_LVL", 0x13, 0x68, 1, 0x4, 20, 16, .ro, false, .any⟩,
  ⟨"CBUS_RXSTAT.B1_LOCK", 0x13, 0x68, 1, 0x4, 9, 9, .ro, false, .any⟩,
  ⟨"CBUS_RXSTAT.B0_LOCK", 0x13, 0x68, 1, 0x4, 8, 8, .ro, false, .any⟩,
  ⟨"CBUS_RXSTAT.B1_PEND", 0x13, 0x68, 1, 0x4, 1, 1, .ro, false, .any⟩,
  ⟨"CBUS_RXSTAT.B0_PEND", 0x13, 0x68, 1, 0x4, 0, 0, .ro, false, .any⟩,
  ⟨"CBUS_BAR.ARRIVE", 0x13, 0x70, 1, 0x4, 31, 31, .w1s, false, .any⟩,
  ⟨"CBUS_BAR.DONE", 0x13, 0x70, 1, 0x4, 30, 30, .ro, false, .any⟩,
  ⟨"CBUS_BAR.BUSY", 0x13, 0x70, 1, 0x4, 29, 29, .ro, false, .any⟩,
  ⟨"CBUS_BAR.TO_MS", 0x13, 0x70, 1, 0x4, 28, 16, .rw, false, .rng 1 8191⟩,
  ⟨"CBUS_BAR.NUM", 0x13, 0x70, 1, 0x4, 11, 0, .rw, false, .any⟩,
  ⟨"CBUS_BAR_MASK.MASK_LO", 0x13, 0x74, 1, 0x4, 31, 0, .rw, false, .any⟩,
  ⟨"CBUS_BAR_MASK_HI.MASK_HI", 0x13, 0x78, 1, 0x4, 31, 0, .rw, false, .any⟩,
  ⟨"CBUS_BAR_SEEN.SEEN_LO", 0x13, 0x7C, 1, 0x4, 31, 0, .ro, false, .any⟩,
  ⟨"CBUS_BAR_SEEN_HI.SEEN_HI", 0x13, 0x80, 1, 0x4, 31, 0, .ro, false, .any⟩,
  ⟨"CBUS_BAR_T.T_US", 0x13, 0x84, 1, 0x4, 31, 0, .ro, false, .any⟩,
  ⟨"CBUS_CNT.TX", 0x13, 0x88, 1, 0x4, 31, 16, .ro, false, .any⟩,
  ⟨"CBUS_CNT.RX", 0x13, 0x88, 1, 0x4, 15, 0, .ro, false, .any⟩,
  ⟨"CBUS_RXLOST.FIFO", 0x13, 0x8C, 1, 0x4, 31, 16, .ro, false, .any⟩,
  ⟨"CBUS_RXLOST.OVW", 0x13, 0x8C, 1, 0x4, 15, 0, .ro, false, .any⟩,
  ⟨"CBUS_STR.RES11", 0x13, 0x90, 1, 0x4, 31, 16, .ro, false, .any⟩,
  ⟨"CBUS_STR.RESTYPE", 0x13, 0x90, 1, 0x4, 15, 8, .ro, false, .any⟩,
  ⟨"CBUS_STR.CLASH", 0x13, 0x90, 1, 0x4, 7, 0, .ro, false, .any⟩,
  ⟨"CBUS_STAQ.OVERTAKEN", 0x13, 0x94, 1, 0x4, 31, 16, .ro, false, .any⟩,
  ⟨"CBUS_STAQ.LEVEL", 0x13, 0x94, 1, 0x4, 4, 0, .ro, false, .any⟩,
  ⟨"CBUS_WAKE.WAKE_EN", 0x13, 0x98, 1, 0x4, 0, 0, .rwl, false, .any⟩,
  ⟨"CBUS_FLT_ID.IDE", 0x13, 0x400, 32, 0x10, 31, 31, .rw, false, .any⟩,
  ⟨"CBUS_FLT_ID.ID", 0x13, 0x400, 32, 0x10, 28, 0, .rw, false, .any⟩,
  ⟨"CBUS_FLT_MASK.MASK", 0x13, 0x404, 32, 0x10, 28, 0, .rw, false, .any⟩,
  ⟨"CBUS_FLT_CFG.EN", 0x13, 0x408, 32, 0x10, 31, 31, .rw, false, .any⟩,
  ⟨"CBUS_FLT_CFG.DEST", 0x13, 0x408, 32, 0x10, 1, 0, .rw, false, .any⟩,
  ⟨"CBUS_TXn_ID.IDE", 0x13, 0x100, 3, 0x80, 31, 31, .rw, false, .any⟩,
  ⟨"CBUS_TXn_ID.ID", 0x13, 0x100, 3, 0x80, 28, 0, .rw, false, .any⟩,
  ⟨"CBUS_TXn_CTRL.TAG", 0x13, 0x104, 3, 0x80, 31, 16, .rw, false, .any⟩,
  ⟨"CBUS_TXn_CTRL.TS_REQ", 0x13, 0x104, 3, 0x80, 15, 15, .rw, false, .any⟩,
  ⟨"CBUS_TXn_CTRL.FDF", 0x13, 0x104, 3, 0x80, 7, 7, .rw, false, .any⟩,
  ⟨"CBUS_TXn_CTRL.BRS", 0x13, 0x104, 3, 0x80, 6, 6, .rw, false, .any⟩,
  ⟨"CBUS_TXn_CTRL.DLC", 0x13, 0x104, 3, 0x80, 3, 0, .rw, false, .any⟩,
  ⟨"CBUS_TX0_DATA.DATA", 0x13, 0x10C, 16, 0x4, 31, 0, .rw, false, .any⟩,
  ⟨"CBUS_TX1_DATA.DATA", 0x13, 0x18C, 16, 0x4, 31, 0, .rw, false, .any⟩,
  ⟨"CBUS_TX2_DATA.DATA", 0x13, 0x20C, 16, 0x4, 31, 0, .rw, false, .any⟩]

/-- The fields of the PLNK page. -/
def rowsPLNK : List Row := [
  ⟨"PLNK_CTRL.LINK_RST", 0x14, 0x8, 1, 0x4, 2, 2, .w1s, false, .any⟩,
  ⟨"PLNK_CTRL.SRESET", 0x14, 0x8, 1, 0x4, 1, 1, .w1s, false, .any⟩,
  ⟨"PLNK_CTRL.ENABLE", 0x14, 0x8, 1, 0x4, 0, 0, .rw, true, .any⟩,
  ⟨"PLNK_STAT.DAD_FAIL", 0x14, 0xC, 1, 0x4, 5, 5, .ro, false, .any⟩,
  ⟨"PLNK_STAT.RESENDING", 0x14, 0xC, 1, 0x4, 4, 4, .ro, false, .any⟩,
  ⟨"PLNK_STAT.ROLE", 0x14, 0xC, 1, 0x4, 3, 3, .ro, false, .any⟩,
  ⟨"PLNK_STAT.ADDR_OK", 0x14, 0xC, 1, 0x4, 2, 2, .ro, false, .any⟩,
  ⟨"PLNK_STAT.LINK_UP", 0x14, 0xC, 1, 0x4, 1, 1, .ro, false, .any⟩,
  ⟨"PLNK_STAT.RUNNING", 0x14, 0xC, 1, 0x4, 0, 0, .ro, false, .any⟩,
  ⟨"PLNK_CFG.MASTER", 0x14, 0x40, 1, 0x4, 31, 31, .rwl, true, .any⟩,
  ⟨"PLNK_CFG.IP4", 0x14, 0x40, 1, 0x4, 30, 30, .rwl, true, .any⟩,
  ⟨"PLNK_CFG.VLAN_EN", 0x14, 0x40, 1, 0x4, 29, 29, .rwl, true, .any⟩,
  ⟨"PLNK_CFG.PCP", 0x14, 0x40, 1, 0x4, 28, 26, .rwl, false, .any⟩,
  ⟨"PLNK_CFG.VID", 0x14, 0x40, 1, 0x4, 23, 12, .rwl, false, .rng 1 4094⟩,
  ⟨"PLNK_MTU.MTU", 0x14, 0x44, 1, 0x4, 15, 0, .rwl, true, .rng 1280 16000⟩,
  ⟨"PLNK_MAC.MAC_LO", 0x14, 0x48, 1, 0x4, 31, 0, .ro, false, .any⟩,
  ⟨"PLNK_MAC_HI.MAC_HI", 0x14, 0x4C, 1, 0x4, 15, 0, .ro, false, .any⟩,
  ⟨"PLNK_IP6.ADDR_k", 0x14, 0x50, 4, 0x4, 31, 0, .rwl, true, .any⟩,
  ⟨"PLNK_GW6.ADDR_k", 0x14, 0x60, 4, 0x4, 31, 0, .rwl, true, .any⟩,
  ⟨"PLNK_HOST6.ADDR_k", 0x14, 0x70, 4, 0x4, 31, 0, .rwl, true, .any⟩,
  ⟨"PLNK_ACC6.ADDR_k", 0x14, 0x80, 4, 0x4, 31, 0, .rwl, true, .any⟩,
  ⟨"PLNK_IP4.ADDR_k", 0x14, 0x90, 1, 0x4, 31, 0, .rwl, true, .any⟩,
  ⟨"PLNK_GW4.ADDR_k", 0x14, 0x94, 1, 0x4, 31, 0, .rwl, true, .any⟩,
  ⟨"PLNK_HOST4.ADDR_k", 0x14, 0x98, 1, 0x4, 31, 0, .rwl, true, .any⟩,
  ⟨"PLNK_ACC4.ADDR_k", 0x14, 0x9C, 1, 0x4, 31, 0, .rwl, true, .any⟩,
  ⟨"PLNK_PFX.P6", 0x14, 0xA0, 1, 0x4, 31, 24, .rwl, true, .rng 0 128⟩,
  ⟨"PLNK_PFX.A6", 0x14, 0xA0, 1, 0x4, 23, 16, .rwl, false, .rng 0 128⟩,
  ⟨"PLNK_PFX.P4", 0x14, 0xA0, 1, 0x4, 15, 8, .rwl, false, .rng 0 32⟩,
  ⟨"PLNK_PFX.A4", 0x14, 0xA0, 1, 0x4, 7, 0, .rwl, false, .rng 0 32⟩,
  ⟨"PLNK_HB.PERIOD_MS", 0x14, 0xA4, 1, 0x4, 15, 0, .rwl, false, .rng 10 1000⟩,
  ⟨"PLNK_RET_BASE.BASE", 0x14, 0xA8, 1, 0x4, 31, 12, .rwl, true, .any⟩,
  ⟨"PLNK_RET_SIZE.SIZE", 0x14, 0xAC, 1, 0x4, 31, 0, .rwl, true, .any⟩,
  ⟨"PLNK_RET.AGE_S", 0x14, 0xB0, 1, 0x4, 31, 16, .ro, false, .any⟩,
  ⟨"PLNK_RET.EARLY", 0x14, 0xB0, 1, 0x4, 15, 0, .ro, false, .any⟩,
  ⟨"PLNK_RESEND.MBPS", 0x14, 0xB4, 1, 0x4, 31, 16, .rwl, false, .rng 1 900⟩,
  ⟨"PLNK_RESEND.PEND", 0x14, 0xB4, 1, 0x4, 4, 0, .ro, false, .any⟩,
  ⟨"PLNK_EVT.BATCH_US", 0x14, 0xC4, 1, 0x4, 15, 0, .rwl, false, .rng 0 10000⟩,
  ⟨"PLNK_TRC.AUTO", 0x14, 0xC8, 1, 0x4, 7, 0, .rw, false, .any⟩,
  ⟨"PLNK_BOOT.BOOT", 0x14, 0xCC, 1, 0x4, 31, 0, .ro, false, .any⟩,
  ⟨"PLNK_TX.TX", 0x14, 0xB8, 1, 0x4, 31, 0, .ro, false, .any⟩,
  ⟨"PLNK_RX.RX", 0x14, 0xBC, 1, 0x4, 31, 0, .ro, false, .any⟩,
  ⟨"PLNK_RXDROP.FORMAT", 0x14, 0xC0, 1, 0x4, 31, 24, .ro, false, .any⟩,
  ⟨"PLNK_RXDROP.CRC", 0x14, 0xC0, 1, 0x4, 23, 16, .ro, false, .any⟩,
  ⟨"PLNK_RXDROP.ADDR", 0x14, 0xC0, 1, 0x4, 15, 8, .ro, false, .any⟩,
  ⟨"PLNK_RXDROP.DUP", 0x14, 0xC0, 1, 0x4, 7, 0, .ro, false, .any⟩]

/-- The fields of the QUE page. -/
def rowsQUE : List Row := [
  ⟨"QUE_CTRL.FLUSH", 0x15, 0x8, 1, 0x4, 23, 16, .w1s, false, .any⟩,
  ⟨"QUE_CTRL.SRESET", 0x15, 0x8, 1, 0x4, 1, 1, .w1s, false, .any⟩,
  ⟨"QUE_CTRL.ENABLE", 0x15, 0x8, 1, 0x4, 0, 0, .rw, false, .any⟩,
  ⟨"QUE_STAT.FLUSH_BUSY", 0x15, 0xC, 1, 0x4, 31, 24, .ro, false, .any⟩,
  ⟨"QUE_STAT.SPILL", 0x15, 0xC, 1, 0x4, 23, 16, .ro, false, .any⟩,
  ⟨"QUE_STAT.NE", 0x15, 0xC, 1, 0x4, 7, 0, .ro, false, .any⟩,
  ⟨"QUE_SPILL_BASE.BASE", 0x15, 0x40, 1, 0x4, 31, 12, .rwl, true, .any⟩,
  ⟨"QUE_SPILL_SIZE.SIZE", 0x15, 0x44, 1, 0x4, 31, 0, .rwl, true, .any⟩,
  ⟨"QUE_Qn_CFG.CUT", 0x15, 0x80, 8, 0x10, 31, 16, .rwl, false, .rng 64 65535⟩,
  ⟨"QUE_Qn_CFG.MAX_MIB", 0x15, 0x80, 8, 0x10, 6, 0, .rwl, true, .rng 0 64⟩,
  ⟨"QUE_Qn_BYTES.BYTES", 0x15, 0x84, 8, 0x10, 26, 0, .ro, false, .any⟩,
  ⟨"QUE_Qn_REC.RECORDS", 0x15, 0x88, 8, 0x10, 15, 0, .ro, false, .any⟩,
  ⟨"QUE_Qn_CNT.DROP", 0x15, 0x8C, 8, 0x10, 31, 16, .ro, false, .any⟩,
  ⟨"QUE_Qn_CNT.DISCARD", 0x15, 0x8C, 8, 0x10, 15, 4, .ro, false, .any⟩,
  ⟨"QUE_Qn_CNT.UNDERRUN", 0x15, 0x8C, 8, 0x10, 3, 0, .ro, false, .any⟩]

/-- The fields of the ICU page. -/
def rowsICU : List Row := [
  ⟨"ICU_STAT.RESTORED", 0x16, 0xC, 1, 0x4, 8, 8, .ro, false, .any⟩,
  ⟨"ICU_STAT.LINE", 0x16, 0xC, 1, 0x4, 7, 4, .ro, false, .any⟩,
  ⟨"ICU_STAT.SLEEP", 0x16, 0xC, 1, 0x4, 3, 0, .ro, false, .any⟩,
  ⟨"ICU_GDIS.DIS", 0x16, 0x40, 1, 0x4, 3, 0, .rw, false, .any⟩,
  ⟨"ICU_REROUTE_TO.TO_US", 0x16, 0x44, 1, 0x4, 15, 0, .rw, false, .rng 1 65535⟩,
  ⟨"ICU_SEL.SLOT", 0x16, 0x48, 1, 0x4, 7, 0, .rw, false, .any⟩,
  ⟨"ICU_S_MATCH.CODE", 0x16, 0x4C, 1, 0x4, 31, 16, .rw, false, .any⟩,
  ⟨"ICU_S_MATCH.MASK", 0x16, 0x4C, 1, 0x4, 15, 0, .rw, false, .any⟩,
  ⟨"ICU_S_CFG.EN", 0x16, 0x50, 1, 0x4, 31, 31, .rw, false, .any⟩,
  ⟨"ICU_S_CFG.LEGACY", 0x16, 0x50, 1, 0x4, 30, 30, .rw, false, .any⟩,
  ⟨"ICU_S_CFG.WAKE", 0x16, 0x50, 1, 0x4, 29, 29, .rw, false, .any⟩,
  ⟨"ICU_S_CFG.XCOPY", 0x16, 0x50, 1, 0x4, 28, 28, .rw, false, .any⟩,
  ⟨"ICU_S_CFG.PRIO", 0x16, 0x50, 1, 0x4, 27, 24, .rw, false, .any⟩,
  ⟨"ICU_S_CFG.TARGET", 0x16, 0x50, 1, 0x4, 23, 22, .rw, false, .any⟩,
  ⟨"ICU_S_CFG.FB", 0x16, 0x50, 1, 0x4, 21, 20, .rw, false, .any⟩,
  ⟨"ICU_S_MOD.CNT", 0x16, 0x54, 1, 0x4, 31, 24, .rw, false, .rng 1 255⟩,
  ⟨"ICU_S_MOD.TIME_US", 0x16, 0x54, 1, 0x4, 15, 0, .rw, false, .any⟩,
  ⟨"ICU_S_STAT.COUNT", 0x16, 0x58, 1, 0x4, 31, 24, .ro, false, .any⟩,
  ⟨"ICU_S_STAT.LAST_CODE", 0x16, 0x58, 1, 0x4, 23, 8, .ro, false, .any⟩,
  ⟨"ICU_S_STAT.PEND", 0x16, 0x58, 1, 0x4, 7, 7, .ro, false, .any⟩,
  ⟨"ICU_S_STAT.INSVC", 0x16, 0x58, 1, 0x4, 6, 6, .ro, false, .any⟩,
  ⟨"ICU_S_STAT.REROUTED", 0x16, 0x58, 1, 0x4, 5, 5, .ro, false, .any⟩,
  ⟨"ICU_S_STAT.WAITING", 0x16, 0x58, 1, 0x4, 4, 4, .ro, false, .any⟩,
  ⟨"ICU_UNMATCHED.LOST_LULL", 0x16, 0x5C, 1, 0x4, 31, 24, .ro, false, .any⟩,
  ⟨"ICU_UNMATCHED.LOST", 0x16, 0x5C, 1, 0x4, 23, 16, .ro, false, .any⟩,
  ⟨"ICU_UNMATCHED.UNMATCHED", 0x16, 0x5C, 1, 0x4, 15, 0, .ro, false, .any⟩,
  ⟨"ICU_CNT.DELIV", 0x16, 0x60, 1, 0x4, 31, 16, .ro, false, .any⟩,
  ⟨"ICU_CNT.REROUTES", 0x16, 0x60, 1, 0x4, 15, 0, .ro, false, .any⟩,
  ⟨"ICU_HOLD_g.HOLD_US", 0x16, 0x80, 16, 0x4, 15, 0, .rw, false, .any⟩,
  ⟨"ICU_PENDn.PEND", 0x16, 0xC0, 8, 0x4, 31, 0, .ro, false, .any⟩,
  ⟨"ICU_MASKn.MASK", 0x16, 0xE0, 8, 0x4, 31, 0, .rw, false, .any⟩,
  ⟨"ICU_Tt_CLAIM.COUNT", 0x16, 0x100, 4, 0x10, 31, 24, .ro, false, .any⟩,
  ⟨"ICU_Tt_CLAIM.CODE", 0x16, 0x100, 4, 0x10, 23, 8, .ro, false, .any⟩,
  ⟨"ICU_Tt_CLAIM.SLOT", 0x16, 0x100, 4, 0x10, 7, 0, .ro, false, .any⟩,
  ⟨"ICU_Tt_EOI.SLOT", 0x16, 0x104, 4, 0x10, 7, 0, .wo, false, .any⟩,
  ⟨"ICU_Tt_THR.THR", 0x16, 0x108, 4, 0x10, 3, 0, .rw, false, .any⟩,
  ⟨"ICU_Tt_INFO.REROUTED", 0x16, 0x10C, 4, 0x10, 31, 31, .ro, false, .any⟩,
  ⟨"ICU_Tt_INFO.LATE", 0x16, 0x10C, 4, 0x10, 30, 30, .ro, false, .any⟩,
  ⟨"ICU_Tt_INFO.SLOT", 0x16, 0x10C, 4, 0x10, 7, 0, .ro, false, .any⟩,
  ⟨"ICU_CTRL.ENABLE", 0x16, 0x8, 1, 0x4, 0, 0, .rw, false, .any⟩,
  ⟨"ICU_CTRL.SRESET", 0x16, 0x8, 1, 0x4, 1, 1, .w1s, false, .any⟩]

/-- The fields of the EVR page. -/
def rowsEVR : List Row := [
  ⟨"EVR_STAT.CLEARING", 0x17, 0xC, 1, 0x4, 4, 4, .ro, false, .any⟩,
  ⟨"EVR_STAT.HOLDING", 0x17, 0xC, 1, 0x4, 3, 3, .ro, false, .any⟩,
  ⟨"EVR_STAT.FULL", 0x17, 0xC, 1, 0x4, 2, 2, .ro, false, .any⟩,
  ⟨"EVR_STAT.SINGLE", 0x17, 0xC, 1, 0x4, 1, 1, .ro, false, .any⟩,
  ⟨"EVR_STAT.RUNNING", 0x17, 0xC, 1, 0x4, 0, 0, .ro, false, .any⟩,
  ⟨"EVR_WR_INDEX.INDEX", 0x17, 0x40, 1, 0x4, 17, 0, .ro, false, .any⟩,
  ⟨"EVR_RD_IDX.SLOT", 0x17, 0x44, 1, 0x4, 16, 0, .rw, false, .any⟩,
  ⟨"EVR_RL.RATE", 0x17, 0x48, 1, 0x4, 15, 8, .rwl, false, .rng 1 255⟩,
  ⟨"EVR_RL.BURST", 0x17, 0x48, 1, 0x4, 7, 0, .rwl, false, .rng 1 255⟩,
  ⟨"EVR_RDk.WORD", 0x17, 0x50, 8, 0x4, 31, 0, .ro, false, .any⟩,
  ⟨"EVR_RLDROP.DROP", 0x17, 0x70, 1, 0x4, 31, 0, .ro, false, .any⟩,
  ⟨"EVR_HELD.LOST", 0x17, 0x74, 1, 0x4, 31, 16, .ro, false, .any⟩,
  ⟨"EVR_HELD.LEVEL", 0x17, 0x74, 1, 0x4, 6, 0, .ro, false, .any⟩,
  ⟨"EVR_CLEAR.CLEAR", 0x17, 0x78, 1, 0x4, 0, 0, .rwp, false, .any⟩,
  ⟨"EVR_SUPPk.CODE", 0x17, 0x80, 8, 0x4, 31, 16, .rwl, false, .any⟩,
  ⟨"EVR_SUPPk.MASK", 0x17, 0x80, 8, 0x4, 15, 0, .rwl, false, .any⟩,
  ⟨"EVR_CTRL.ENABLE", 0x17, 0x8, 1, 0x4, 0, 0, .rw, false, .any⟩,
  ⟨"EVR_CTRL.SRESET", 0x17, 0x8, 1, 0x4, 1, 1, .w1s, false, .any⟩]

/-- The fields of the NVM page. -/
def rowsNVM : List Row := [
  ⟨"NVM_CTRL.SRESET", 0x18, 0x8, 1, 0x4, 1, 1, .w1s, false, .any⟩,
  ⟨"NVM_CTRL.ENABLE", 0x18, 0x8, 1, 0x4, 0, 0, .rw, false, .any⟩,
  ⟨"NVM_STAT.CFG_SLOT", 0x18, 0xC, 1, 0x4, 7, 7, .ro, false, .any⟩,
  ⟨"NVM_STAT.SEAL_BROKEN", 0x18, 0xC, 1, 0x4, 6, 6, .ro, false, .any⟩,
  ⟨"NVM_STAT.SEAL_FITTED", 0x18, 0xC, 1, 0x4, 5, 5, .ro, false, .any⟩,
  ⟨"NVM_STAT.WR_BLOCKED", 0x18, 0xC, 1, 0x4, 4, 4, .ro, false, .any⟩,
  ⟨"NVM_STAT.WR_BUSY", 0x18, 0xC, 1, 0x4, 3, 3, .ro, false, .any⟩,
  ⟨"NVM_STAT.MIRROR_OK", 0x18, 0xC, 1, 0x4, 2, 2, .ro, false, .any⟩,
  ⟨"NVM_STAT.B_OK", 0x18, 0xC, 1, 0x4, 1, 1, .ro, false, .any⟩,
  ⟨"NVM_STAT.A_OK", 0x18, 0xC, 1, 0x4, 0, 0, .ro, false, .any⟩,
  ⟨"NVM_WRITES.WRITES", 0x18, 0x40, 1, 0x4, 31, 0, .ro, false, .any⟩,
  ⟨"NVM_RECON.REPAIRED", 0x18, 0x44, 1, 0x4, 31, 16, .ro, false, .any⟩,
  ⟨"NVM_RECON.CONFLICTS", 0x18, 0x44, 1, 0x4, 15, 0, .ro, false, .any⟩,
  ⟨"NVM_CFG_COMMIT.BUSY", 0x18, 0x48, 1, 0x4, 1, 1, .ro, false, .any⟩,
  ⟨"NVM_CFG_COMMIT.COMMIT", 0x18, 0x48, 1, 0x4, 0, 0, .rwp, false, .any⟩,
  ⟨"NVM_CFG_SEQ.SEQ", 0x18, 0x4C, 1, 0x4, 31, 0, .ro, false, .any⟩,
  ⟨"NVM_SEAL.REMOVALS", 0x18, 0x50, 1, 0x4, 31, 16, .ro, false, .any⟩,
  ⟨"NVM_SEAL.FITTED", 0x18, 0x50, 1, 0x4, 0, 0, .ro, false, .any⟩,
  ⟨"NVM_SEAL_T.FIRST_S", 0x18, 0x54, 1, 0x4, 31, 0, .ro, false, .any⟩,
  ⟨"NVM_FAULT.MRAM", 0x18, 0x58, 1, 0x4, 31, 31, .ro, false, .any⟩,
  ⟨"NVM_FAULT.OFFSET", 0x18, 0x58, 1, 0x4, 23, 0, .ro, false, .any⟩]

/-- The fields of the UPD page. -/
def rowsUPD : List Row := [
  ⟨"UPD_STAT.FALLBACK", 0x19, 0xC, 1, 0x4, 5, 5, .ro, false, .any⟩,
  ⟨"UPD_STAT.RECOVERY", 0x19, 0xC, 1, 0x4, 4, 4, .ro, false, .any⟩,
  ⟨"UPD_STAT.OWNER", 0x19, 0xC, 1, 0x4, 3, 3, .ro, false, .any⟩,
  ⟨"UPD_STAT.CFG_STAGED", 0x19, 0xC, 1, 0x4, 2, 2, .ro, false, .any⟩,
  ⟨"UPD_STAT.IMG_STAGED", 0x19, 0xC, 1, 0x4, 1, 1, .ro, false, .any⟩,
  ⟨"UPD_STAT.STAGING", 0x19, 0xC, 1, 0x4, 0, 0, .ro, false, .any⟩,
  ⟨"UPD_SLOT.BOOTED", 0x19, 0x40, 1, 0x4, 8, 8, .ro, false, .any⟩,
  ⟨"UPD_SLOT.ACTIVE", 0x19, 0x40, 1, 0x4, 4, 4, .ro, false, .any⟩,
  ⟨"UPD_SLOT.ST1", 0x19, 0x40, 1, 0x4, 3, 2, .ro, false, .any⟩,
  ⟨"UPD_SLOT.ST0", 0x19, 0x40, 1, 0x4, 1, 0, .ro, false, .any⟩,
  ⟨"UPD_VER0.BUILD", 0x19, 0x44, 1, 0x4, 31, 0, .ro, false, .any⟩,
  ⟨"UPD_VER1.BUILD", 0x19, 0x48, 1, 0x4, 31, 0, .ro, false, .any⟩,
  ⟨"UPD_RB.COUNTER", 0x19, 0x4C, 1, 0x4, 31, 16, .ro, false, .any⟩,
  ⟨"UPD_RB.ROLLBACK", 0x19, 0x4C, 1, 0x4, 15, 0, .ro, false, .any⟩,
  ⟨"UPD_STAGE.START", 0x19, 0x50, 1, 0x4, 31, 31, .w1s, false, .any⟩,
  ⟨"UPD_STAGE.ABORT", 0x19, 0x50, 1, 0x4, 30, 30, .w1s, false, .any⟩,
  ⟨"UPD_STAGE.KIND", 0x19, 0x50, 1, 0x4, 29, 29, .rw, false, .any⟩,
  ⟨"UPD_STAGE.LEN_KIB", 0x19, 0x50, 1, 0x4, 15, 0, .rw, false, .rng 1 30720⟩,
  ⟨"UPD_STAGE_CRC.CRC", 0x19, 0x54, 1, 0x4, 31, 0, .rw, false, .any⟩,
  ⟨"UPD_STAGE_PROG.BYTES", 0x19, 0x58, 1, 0x4, 31, 0, .ro, false, .any⟩,
  ⟨"UPD_ACT.ACT", 0x19, 0x5C, 1, 0x4, 1, 0, .rwp, false, .any⟩,
  ⟨"UPD_OWNER.CLR", 0x19, 0x60, 1, 0x4, 1, 1, .rwp, false, .any⟩,
  ⟨"UPD_OWNER.SET", 0x19, 0x60, 1, 0x4, 0, 0, .rwp, false, .any⟩,
  ⟨"UPD_RB_COMMIT.COMMIT", 0x19, 0x64, 1, 0x4, 0, 0, .rwp, false, .any⟩,
  ⟨"UPD_BOOT.REASON", 0x19, 0x68, 1, 0x4, 31, 24, .ro, false, .any⟩,
  ⟨"UPD_BOOT.FAIL_SLOT", 0x19, 0x68, 1, 0x4, 16, 16, .ro, false, .any⟩,
  ⟨"UPD_HASHk.HASH", 0x19, 0x80, 16, 0x4, 31, 0, .ro, false, .any⟩,
  ⟨"UPD_CTRL.ENABLE", 0x19, 0x8, 1, 0x4, 0, 0, .rw, false, .any⟩,
  ⟨"UPD_CTRL.SRESET", 0x19, 0x8, 1, 0x4, 1, 1, .w1s, false, .any⟩]

/-- The rows of a page by its index. -/
def rowsOf : Nat → List Row
  | 0x0 => rowsSYS
  | 0x1 => rowsPWR
  | 0x2 => rowsCLK
  | 0x3 => rowsTIME
  | 0x4 => rowsTHERM
  | 0x5 => rowsCDT
  | 0x6 => rowsSNAP
  | 0x7 => rowsMEAS
  | 0x8 => rowsCHAIN
  | 0x9 => rowsEIS
  | 0xA => rowsEST
  | 0xB => rowsBAL
  | 0xC => rowsPROT
  | 0xD => rowsSAFE
  | 0xE => rowsCLE
  | 0xF => rowsCLINK
  | 0x10 => rowsORD
  | 0x11 => rowsTALLY
  | 0x12 => rowsLANE
  | 0x13 => rowsCBUS
  | 0x14 => rowsPLNK
  | 0x15 => rowsQUE
  | 0x16 => rowsICU
  | 0x17 => rowsEVR
  | 0x18 => rowsNVM
  | 0x19 => rowsUPD
  | _ => []

/-! ### Reset values -/

/-- The words that are not zero at module reset, as page index, offset and word. A field whose table says "from
configuration" stands here with the value the model gives it before any configuration is committed: zero where zero is
legal, else the lowest legal value (log entry 3). -/
def resetWords : List (Nat × Nat × Nat) := [
  (0x0, 0x8, 0x1),
  (0x1, 0x8, 0x1),
  (0x1, 0x54, 0xFFFF),
  (0x2, 0x8, 0x1),
  (0x2, 0x40, 0x1000000),
  (0x2, 0x4C, 0x55),
  (0x3, 0x8, 0x1),
  (0x3, 0x54, 0x1003),
  (0x4, 0x8, 0x1),
  (0x5, 0x8, 0x1),
  (0x6, 0x8, 0x1),
  (0x6, 0xC, 0x4),
  (0x6, 0x48, 0x2),
  (0x7, 0x8, 0x1),
  (0x7, 0x54, 0xC350),
  (0x7, 0x58, 0x17700000),
  (0x7, 0x5C, 0x1403201E),
  (0x7, 0x60, 0x32),
  (0x8, 0x8, 0x1),
  (0x8, 0x40, 0x30C01),
  (0x8, 0x44, 0x258),
  (0x8, 0x80, 0x3C),
  (0x8, 0x84, 0xE10),
  (0x8, 0x88, 0x86603E8),
  (0x8, 0x8C, 0x1CC0064),
  (0x8, 0xA0, 0x1),
  (0x9, 0x8, 0x1),
  (0x9, 0x44, 0x3C),
  (0x9, 0x48, 0x64),
  (0x9, 0x4C, 0xFFFFFFFF),
  (0x9, 0x50, 0xFFFFFFFF),
  (0x9, 0x54, 0xC8),
  (0x9, 0x58, 0x14050A),
  (0x9, 0x5C, 0x1F40050),
  (0x9, 0x74, 0x141402),
  (0x9, 0x78, 0x781428),
  (0x9, 0x7C, 0x10000),
  (0xA, 0x8, 0x1),
  (0xA, 0x44, 0xA),
  (0xA, 0x48, 0x48280F22),
  (0xA, 0x4C, 0x32000F14),
  (0xA, 0x50, 0x643208),
  (0xA, 0x54, 0x1E141E1E),
  (0xA, 0x58, 0x3C0A03E8),
  (0xA, 0x60, 0x64),
  (0xA, 0x90, 0x1),
  (0xB, 0x8, 0x1),
  (0xB, 0x40, 0x3C000032),
  (0xB, 0x44, 0x44C),
  (0xB, 0x50, 0x1)]
  ++ [
  (0xC, 0x8, 0x1),
  (0xC, 0x44, 0x140014),
  (0xC, 0x5C, 0xFFFFFFFF),
  (0xC, 0x60, 0x3C8A00C8),
  (0xC, 0x84, 0x10180),
  (0xC, 0x94, 0x10180),
  (0xC, 0xA4, 0x10180),
  (0xC, 0xB4, 0x10180),
  (0xC, 0xC4, 0x10180),
  (0xC, 0xD4, 0x10180),
  (0xC, 0xE4, 0x10180),
  (0xC, 0xF4, 0x10100),
  (0xC, 0x104, 0x10100),
  (0xC, 0x114, 0x10100),
  (0xC, 0x124, 0x10100),
  (0xD, 0x8, 0x1),
  (0xD, 0x54, 0xC80007),
  (0xD, 0x58, 0xD),
  (0xD, 0x5C, 0xA083205),
  (0xD, 0x60, 0x1412C014),
  (0xE, 0x8, 0x1),
  (0xE, 0x50, 0x61A8),
  (0xE, 0x100, 0x80081000),
  (0xE, 0x128, 0x42480000),
  (0xE, 0x12C, 0x44FA0000),
  (0xE, 0x130, 0x3F800000),
  (0xE, 0x140, 0x42C80000),
  (0xE, 0x144, 0x3F800000),
  (0xE, 0x148, 0x3951B717),
  (0xE, 0x14C, 0x42480000),
  (0xE, 0x150, 0x4001000),
  (0xE, 0x158, 0x1),
  (0xE, 0x180, 0xC081000),
  (0xE, 0x1A8, 0x42480000),
  (0xE, 0x1AC, 0x44FA0000),
  (0xE, 0x1C0, 0x42C80000),
  (0xE, 0x1C4, 0x3F800000),
  (0xE, 0x1C8, 0x3951B717),
  (0xE, 0x1CC, 0x42480000),
  (0xE, 0x1D0, 0x4001000),
  (0xE, 0x1D8, 0x1),
  (0xE, 0x200, 0x50081000),
  (0xE, 0x228, 0x42480000),
  (0xE, 0x22C, 0x44FA0000),
  (0xE, 0x240, 0x42C80000),
  (0xE, 0x244, 0x3F800000),
  (0xE, 0x248, 0x3951B717),
  (0xE, 0x24C, 0x42480000),
  (0xE, 0x250, 0x4001000),
  (0xE, 0x258, 0x1)]
  ++ [
  (0xE, 0x280, 0x50081000),
  (0xE, 0x2A8, 0x42480000),
  (0xE, 0x2AC, 0x44FA0000),
  (0xE, 0x2C0, 0x42C80000),
  (0xE, 0x2C4, 0x3F800000),
  (0xE, 0x2C8, 0x3951B717),
  (0xE, 0x2CC, 0x42480000),
  (0xE, 0x2D0, 0x4001000),
  (0xE, 0x2D8, 0x1),
  (0xE, 0x300, 0x10081000),
  (0xE, 0x328, 0x42480000),
  (0xE, 0x32C, 0x44FA0000),
  (0xE, 0x340, 0x42C80000),
  (0xE, 0x344, 0x3F800000),
  (0xE, 0x348, 0x3951B717),
  (0xE, 0x34C, 0x42480000),
  (0xE, 0x350, 0x4001000),
  (0xE, 0x358, 0x1),
  (0xE, 0x380, 0x10081000),
  (0xE, 0x3A8, 0x42480000),
  (0xE, 0x3AC, 0x44FA0000),
  (0xE, 0x3C0, 0x42C80000),
  (0xE, 0x3C4, 0x3F800000),
  (0xE, 0x3C8, 0x3951B717),
  (0xE, 0x3CC, 0x42480000),
  (0xE, 0x3D0, 0x4001000),
  (0xE, 0x3D8, 0x1),
  (0xE, 0x400, 0x10081000),
  (0xE, 0x428, 0x42480000),
  (0xE, 0x42C, 0x44FA0000),
  (0xE, 0x440, 0x42C80000),
  (0xE, 0x444, 0x3F800000),
  (0xE, 0x448, 0x3951B717),
  (0xE, 0x44C, 0x42480000),
  (0xE, 0x450, 0x4001000),
  (0xE, 0x458, 0x1),
  (0xE, 0x480, 0x10081000),
  (0xE, 0x4A8, 0x42480000),
  (0xE, 0x4AC, 0x44FA0000),
  (0xE, 0x4C0, 0x42C80000),
  (0xE, 0x4C4, 0x3F800000),
  (0xE, 0x4C8, 0x3951B717),
  (0xE, 0x4CC, 0x42480000),
  (0xE, 0x4D0, 0x4001000),
  (0xE, 0x4D8, 0x1),
  (0xF, 0x8, 0x1),
  (0xF, 0x40, 0x40003E8),
  (0xF, 0x44, 0xA),
  (0x10, 0x8, 0x1),
  (0x10, 0x54, 0xFFFFFFFF)]
  ++ [
  (0x10, 0x58, 0xFFFFFFFF),
  (0x10, 0x5C, 0x3C000A),
  (0x11, 0x8, 0x1),
  (0x12, 0x8, 0x1),
  (0x12, 0x4C, 0x3E80306),
  (0x12, 0x50, 0xC800C8),
  (0x13, 0x8, 0x21),
  (0x13, 0x40, 0x1),
  (0x13, 0x44, 0x204101),
  (0x13, 0x48, 0x44100),
  (0x13, 0x4C, 0x3),
  (0x13, 0x58, 0x3E80000),
  (0x13, 0x70, 0x3E80000),
  (0x13, 0x98, 0x1),
  (0x14, 0x8, 0x1),
  (0x14, 0x40, 0x1000),
  (0x14, 0x44, 0x5DC),
  (0x14, 0xA4, 0x64),
  (0x14, 0xB4, 0x640000),
  (0x14, 0xC4, 0x3E8),
  (0x15, 0x8, 0x1),
  (0x15, 0x80, 0x8000000),
  (0x15, 0x90, 0x8000000),
  (0x15, 0xA0, 0x8000000),
  (0x15, 0xB0, 0x8000000),
  (0x15, 0xC0, 0x8000000),
  (0x15, 0xD0, 0x8000000),
  (0x15, 0xE0, 0x8000000),
  (0x15, 0xF0, 0x8000000),
  (0x16, 0x8, 0x1),
  (0x16, 0x44, 0x3E8),
  (0x17, 0x8, 0x1),
  (0x17, 0x48, 0xA14),
  (0x17, 0x80, 0x601FFFF),
  (0x17, 0x84, 0x501FFFF),
  (0x17, 0x88, 0xB01FFFF),
  (0x18, 0x8, 0x1),
  (0x19, 0x8, 0x1)]

/-- The configuration registers: those whose reset column says "from configuration" (R105), as page index and offset. -/
def cfgRegs : List (Nat × Nat) := [
  (0x0, 0x50),
  (0x8, 0x40),
  (0x8, 0xA4),
  (0x8, 0xA8),
  (0x6, 0x40),
  (0x6, 0x44),
  (0xA, 0x40),
  (0xC, 0x40),
  (0xC, 0x44),
  (0xC, 0x80),
  (0xC, 0x90),
  (0xC, 0xA0),
  (0xC, 0xB0),
  (0xC, 0xC0),
  (0xC, 0xD0),
  (0xC, 0xE0),
  (0xC, 0xF0),
  (0xC, 0x100),
  (0xC, 0x110),
  (0xC, 0x120),
  (0xC, 0x84),
  (0xC, 0x94),
  (0xC, 0xA4),
  (0xC, 0xB4),
  (0xC, 0xC4),
  (0xC, 0xD4),
  (0xC, 0xE4),
  (0xC, 0xF4),
  (0xC, 0x104),
  (0xC, 0x114),
  (0xC, 0x124),
  (0xC, 0x88),
  (0xC, 0x98),
  (0xC, 0xA8),
  (0xC, 0xB8),
  (0xC, 0xC8),
  (0xC, 0xD8),
  (0xC, 0xE8),
  (0xC, 0xF8),
  (0xC, 0x108),
  (0xC, 0x118),
  (0xC, 0x128),
  (0xF, 0x44),
  (0x13, 0x40),
  (0x13, 0x44),
  (0x13, 0x48),
  (0x14, 0x40),
  (0x14, 0x50),
  (0x14, 0x54),
  (0x14, 0x58)]
  ++ [
  (0x14, 0x5C),
  (0x14, 0x60),
  (0x14, 0x64),
  (0x14, 0x68),
  (0x14, 0x6C),
  (0x14, 0x70),
  (0x14, 0x74),
  (0x14, 0x78),
  (0x14, 0x7C),
  (0x14, 0x80),
  (0x14, 0x84),
  (0x14, 0x88),
  (0x14, 0x8C),
  (0x14, 0x90),
  (0x14, 0x94),
  (0x14, 0x98),
  (0x14, 0x9C),
  (0x14, 0xA0),
  (0x15, 0x80),
  (0x15, 0x90),
  (0x15, 0xA0),
  (0x15, 0xB0),
  (0x15, 0xC0),
  (0x15, 0xD0),
  (0x15, 0xE0),
  (0x15, 0xF0)]

/-- Search of the reset words. -/
def findWord (page off : Nat) : List (Nat × Nat × Nat) → Nat
  | [] => 0
  | (p, o, v) :: l => if p = page ∧ o = off then v else findWord page off l

/-- Does a register have one instance for both lanes (R73)? The event registers' enables and masked events, and xx_ERR,
are per lane on every page (R77, R79); SYS_STAT, SYS_UNMAPPED and the timestamp queues are the per-lane registers of the
mixed pages. -/
def isShared (page off : Nat) : Bool :=
  if off = 0x014 ∨ off = 0x018 ∨ off = 0x01C ∨ off = 0x020 then false
  else if page = Pg.SYS then !(off == 0x00C || off == 0x060)
  else if page = Pg.TIME then !(decide (0x060 ≤ off) && decide (off ≤ 0x070))
  else page == Pg.PWR || page == Pg.THERM || page == Pg.SNAP || page == Pg.MEAS || page == Pg.CHAIN || page == Pg.PROT ||
    page == Pg.SAFE || page == Pg.CLINK || page == Pg.LANE

/-- Does a page have one instance for both lanes, or a mixed one (R73)? -/
def sharedPage (page : Nat) : Bool := isShared page 0x024

end Sys2Proof.Machine
end

