-- ==== Sys2Proof/Machine/State.lean ====
section
/-! DEFINITION. The module's state as plain data. Every register of the 26 pages stands in one sparse register file
(`State.regs`, keyed by page, offset and lane copy; see Machine/Registers.lean for the maps); what a block holds beside its
registers stands in a structure of the block, one copy per lane where the block is per lane. -/

namespace Sys2Proof.Machine

open Sys2Proof

/-- No command of this table stops the module with a fault: a refused access, an internal fault or a shutdown is a next
state that the spec describes. Nobody raises it; it stands here for the host's interface (safe). -/
inductive Fault where
  | unreachable
deriving DecidableEq, Repr

/-- Why a command has no meaning here. -/
inductive Refusal where
  /-- Raised by `exec`'s arms only, for a command whose meaning is not written yet (safe). -/
  | notModelled (mnemonic : String)
deriving DecidableEq, Repr

/-- One copy for lane A and one for lane B. -/
structure Pair (α : Type) where
  a : α
  b : α
deriving DecidableEq, Repr

/-- The copy of a lane. -/
def Pair.get {α : Type} (p : Pair α) : Lane → α
  | .a => p.a
  | .b => p.b

/-- The pair with one lane's copy replaced. -/
def Pair.set {α : Type} (p : Pair α) : Lane → α → Pair α
  | .a, v => { p with a := v }
  | .b, v => { p with b := v }

/-! ### Events -/

/-- An event record (R442), or a raising on its way to one. `lane` is 0 lane A, 1 lane B, 2 shared or both. -/
structure EvRec where
  code : Nat
  lane : Nat
  unit : Nat
  opsec : Nat
  test : Bool
  rl : Bool
  held : Bool
  pwrcyc : Nat
  epoch : Nat
  rep : Nat
  data : List Nat
deriving DecidableEq, Repr

/-- The token bucket of one event code (R443). Times are `State.up` nanoseconds. -/
structure Bucket where
  code : Nat
  tokens : Nat
  gained : Nat
  first : Nat
  rl : Bool
  warned : Option Nat
deriving DecidableEq, Repr

/-- The shared recorder intake beside the recorder's NV slots (R441 to R449): the write index and whether it is known yet;
the last record written, with its slot, whether its repeats still wait for the write-back and the `up` time of the last
write-back; the buckets and the bucket
shared by codes beyond 512; the held raisings, those lost, and whether the overflow is still to be raised; the per-lane
raisings of the last millisecond, with their instant; the dropped raisings; the index that a running clear found. -/
structure Recorder where
  index : Nat
  known : Bool
  full : Bool
  last : Option (Nat × EvRec)
  dirty : Bool
  backAt : Nat
  buckets : List Bucket
  rest : Bucket
  held : List EvRec
  lost : Nat
  overflow : Bool
  recent : List (Nat × EvRec)
  dropped : Nat
  clearing : Option Nat
deriving DecidableEq, Repr

/-- The shared exporter of EVENT records (R413, R434): the entries collected, the epoch and the `up` time of the first, the
last entry formed with whether it still waits in the batch, its own buckets, and the entries of the last millisecond. -/
structure Exporter where
  batch : List EvRec
  epoch : Nat
  since : Nat
  last : Option EvRec
  waits : Bool
  buckets : List Bucket
  rest : Bucket
  recent : List (Nat × EvRec)
deriving DecidableEq, Repr

/-! ### The interrupt controller of a lane -/

/-- One ICU slot: its configuration (ICU_S_MATCH, CFG, MOD) and its run-time state (R429 to R438). `timed`: TIME_US has
passed since the first raising. `moved`: the slot now stands at FB. `server`: the target
that has it in service. `rerouted`: ICU_S_STAT.REROUTED. `firstAt`: the `up` time of the first raising since the last
delivery. `waitAt`: since when it waits for a sleeping target. -/
structure IcuSlot where
  code : Nat
  mask : Nat
  en : Bool
  legacy : Bool
  wake : Bool
  xcopy : Bool
  prio : Nat
  target : Nat
  fb : Nat
  cnt : Nat
  timeUs : Nat
  count : Nat
  last : Nat
  pend : Bool
  insvc : Bool
  server : Nat
  timed : Bool
  moved : Bool
  rerouted : Bool
  firstAt : Nat
  waitAt : Option Nat
deriving DecidableEq, Repr

/-- A lane's ICU beside its page's plain registers: the slots that differ from an all-zero slot; the legacy groups that hold
off, with the `up` time since which they do; for each slot masked or retargeted in the last eight fabric cycles, the target
that may still claim it and the `up` time at which its window closes (R436); the sleeping targets; the counters of
ICU_UNMATCHED and ICU_CNT; the export buffer used while DIS[3] is set; the 16-entry LULL latch (R439); the CLE loops whose
trace event has been raised since their last recorded sample (R294). -/
structure Icu where
  slots : List (Nat × IcuSlot)
  holding : List (Nat × Nat)
  window : List (Nat × Nat × Nat)
  sleep : List Nat
  restored : Bool
  unmatched : Nat
  lost : Nat
  lostLull : Nat
  deliv : Nat
  reroutes : Nat
  expBuf : List EvRec
  lull : List EvRec
  trace : List Nat
deriving DecidableEq, Repr

/-! ### Records, queues and the plant link of a lane -/

/-- An HPP record: its header fields and its payload bytes (R406). -/
structure HppRec where
  typ : Nat
  stream : Nat
  epoch : Nat
  seq : Nat
  payload : List Nat
deriving DecidableEq, Repr

/-- A retained record and the `up` time at which it entered its queue (R418). -/
structure Retained where
  record : HppRec
  since : Nat
deriving DecidableEq, Repr

/-- A resend request being served: the stream, the next sequence to look at and how many are left (R419). -/
structure Resend where
  stream : Nat
  next : Nat
  left : Nat
deriving DecidableEq, Repr

/-- What a port transmitter is sending: nothing, a heartbeat, the head record of a queue, or a resent record (R423). -/
inductive Sending where
  | idle
  | heartbeat
  | queue (n : Nat)
  | resent
deriving DecidableEq, Repr

/-- One stream queue: its records, oldest first, and the counters of QUE_Qn_CNT (R420 to R422). -/
structure Queue where
  recs : List HppRec
  drop : Nat
  discard : Nat
  underrun : Nat
deriving DecidableEq, Repr

/-- A lane's plant port and stream queues beside their registers (R402 to R424): the next sequence of the streams 0x01 to
0x09; the eight queues; the queues to be flushed; the retention store, oldest first; the resend requests; what leaves now;
a heartbeat that is due; whether the present link outage has raised 0x1504; the record on the wire; the records sent and
accepted, the drop counts of PLNK_RXDROP in the order of R416, and the records retention discarded early; whether a
HEARTBEAT has left since reset; the epoch of the SNAPSHOT record that left last; the latest answer to an echo request or an
address resolution. -/
structure Plink where
  seqs : List Nat
  queues : List Queue
  flush : List Nat
  store : List Retained
  resend : List Resend
  sending : Sending
  hbDue : Option HppRec
  outage : Bool
  wire : Option HppRec
  tx : Nat
  rx : Nat
  rxFormat : Nat
  rxCrc : Nat
  rxAddr : Nat
  rxDup : Nat
  early : Nat
  greeted : Bool
  snapSent : Option Nat
  netAnswer : List Nat
deriving DecidableEq, Repr

/-- The receive window of a host stream (R417): the highest accepted sequence and the accepted sequences of the window,
with the sequence of the REG_RESP that each produced. -/
structure RxWin where
  high : Option Nat
  seen : List (Nat × Nat)
deriving DecidableEq, Repr

/-! ### Orders -/

/-- The commit unit of a journal entry (R312): sequence, time counter at commit and the ORDER payload's bytes. -/
structure JCommit where
  seq : Nat
  tc : Nat
  order : List Nat
deriving DecidableEq, Repr

/-- The completion unit of a journal entry (R312). -/
structure JDone where
  seq : Nat
  result : Nat
  dflags : Nat
  detail : Nat
  tx : Nat
  ex : Nat
  td : Nat
  late : Nat
deriving DecidableEq, Repr

/-! ### The Tally program -/

/-- A station of a Tally program's station table (R351). -/
structure TallySta where
  on : Bool
  node : Nat
  toMs : Nat
  staleN : Nat
  safeIn : Nat
deriving DecidableEq, Repr

/-- A Tally program as its image gives it (R351): NAME, BUILD, the CRC field, CYCLE in 0.5 ms, the N_INSTR code words, the
timer and counter presets, the channel map and the 16 stations. -/
structure TallyProg where
  name : List Nat
  build : Nat
  crc : Nat
  cycle : Nat
  code : List Nat
  tpre : List Nat
  cpre : List Nat
  cmap : List Nat
  stations : List TallySta
deriving DecidableEq, Repr

/-! ### The NV store -/

/-- What an NV unit holds (R102); `wipe` writes zeros over a region, 4 KiB at a time from its top, in a class of `prio`
(R328, R448). -/
inductive NvBody where
  | event (r : EvRec)
  | commit (c : JCommit)
  | done (d : JDone)
  | control (base rebases : Nat)
  | config (words : List (Nat × Word)) (prog : Option TallyProg) (owner valid : Bool)
  | seal (first removals : Nat)
  | lockout (latched : Bool) (cause count opsec pwrcyc epoch : Nat)
  | trip (seq opsec pwrcyc epoch sensor before : Nat) (temps : List Nat) (fail : Nat)
  | rollback (value : Nat)
  | est (kind : Nat) (hdr : List Nat) (rows : List (Nat × List Nat))
  | profile (cells : List Host.Cell)
  | wipe (cls : Nat)
deriving DecidableEq, Repr

/-- A record or slot of the NV store: its MRAM offset, its own sequence number and its contents (R103, R104); while it is
being written, the NV units of at most 4 KiB that follow the one in progress (R42). -/
structure NvUnit where
  off : Nat
  seq : Nat
  body : NvBody
  left : Nat
deriving DecidableEq, Repr

/-- The two MRAMs and the NV path (R102 to R106): each MRAM's units in offset order and whether it is in use; the units
waiting and the one in progress; the count of NVM_WRITES; the slot of a running configuration commit; the active
configuration slot, its sequence number and whether it is valid; J1; the seal-break seconds, the removals, the removals held
by a brown-out; the life counters of SYS_OPSEC, SYS_PWRCYC and PLNK_BOOT with the nanoseconds of the running operating
second. -/
structure Nv where
  a : List (Nat × NvUnit)
  b : List (Nat × NvUnit)
  aOk : Bool
  bOk : Bool
  queue : List NvUnit
  busy : Option NvUnit
  writes : Nat
  commit : Option Nat
  cfgSlot : Nat
  cfgSeq : Nat
  cfgValid : Bool
  j1 : Bool
  sealed : Option Nat
  removals : Nat
  removed : List Nat
  opsec : Nat
  opsecNs : Nat
  pwrcyc : Nat
  boot : Nat
deriving DecidableEq, Repr

/-! ### Time -/

/-- Plant time and the epoch schedule (R53 to R66, R475, R476, R481): the 64-bit count with the fraction of its rate
accumulator in units of 2⁻⁴⁰ ns; the grid origin in use and the one that the next first epoch brings; whether the schedule is
the plant grid, with its T0 and P in ns; the next epoch and its instant; ring start; whether the next epoch is the first of
its grid; the runs of R61, with the sequence and the `up` instant of the last valid pair; whether a time reset has taken
effect; the PTP domain; per port the Sync awaiting its Follow_Up, the Pdelay_Req sent, the path delay, the configured
asymmetry and the masters heard, best first; the timestamp queues of R62. -/
structure Clock where
  count : Nat
  frac : Int
  origin : Nat
  newOrigin : Option Nat
  plant : Bool
  t0 : Nat
  p : Nat
  next : Option (Nat × Nat)
  ringAt : Option Nat
  fresh : Bool
  lockRun : Nat
  badRun : Nat
  lastPair : Option (Nat × Nat)
  retimed : Bool
  domain : Nat
  sync : Pair (Option (Nat × Nat))
  pdReq : Pair (Option Nat)
  pdelay : Pair Int
  asym : Pair Int
  masters : Pair (List (List Nat × Nat))
  tsq : Pair (List (Nat × Nat))
  tsqc : Pair (List (Nat × Nat))
deriving DecidableEq, Repr

/-! ### String measurement and the snapshot -/

/-- The measurement front end beside the MEAS page (R143 to R160): the quality of the latest shunt, Hall and voltage results;
the coulomb count in units of 2⁻³² µC and the visible count at the last sample instant; the shunt and coolant NTC readings in
0.01 °C with their quality; the runs of R150; the results left whose window contains clipping; what the averaged interval of
the next snapshot contains (Q_RESET, Q_PAUSED, Q_CLIPPED, Q_FAULT); whether the stack check failed in its last epoch; the
fast block being formed: whether the stream runs, its number, the instant of its first sample, the epoch of that instant, its
samples (I and V words, bit 32 of the second marking a clipped window) and GAP. -/
structure Front where
  iq : Nat
  vq : Nat
  hq : Nat
  q : Int
  qLast : Option Int
  ntc : List Int
  ntcq : List Nat
  disagree : Nat
  agree : Nat
  clipWin : Nat
  mReset : Bool
  mPaused : Bool
  mClipped : Bool
  mFault : Bool
  vchkBad : Bool
  fastOn : Bool
  fastNo : Nat
  fastT : Nat
  fastEp : Nat
  fast : List (Nat × Nat)
  fastGap : Bool
deriving DecidableEq, Repr

/-- What a snapshot holds of one monitor: its fine and coarse values with their QUAL, its stack voltage, NTC codes with
their QUAL, die code, STATUS word, the QUAL of the device channel and the coarse verdicts (R153). -/
structure MonSnap where
  fine : List Int
  qf : List Nat
  coarse : List Nat
  qc : List Nat
  stack : Nat
  ntc : List Nat
  qt : List Nat
  die : Nat
  mstat : Nat
  qm : Nat
  verdict : List Nat
deriving DecidableEq, Repr

/-- A snapshot, being formed or ready (R153): its epoch, sample instant and period; the header flags; the string values
with their QUAL; the monitors; the counts of the header; whether its decimator values have been latched and its sweep
has ended, with `load`, the replies on the busier port (R121); `slot`, the address and index of its slot, none while
SNAP_SLOTS is 0. -/
structure Snap where
  slot : Option (Nat × Nat)
  epoch : Nat
  t : Nat
  pUs : Nat
  tqual : Nat
  flags : Nat
  monCount : Nat
  node : Nat
  iInst : Int
  iAvg : Int
  q : Int
  v : Nat
  hall : Int
  temps : List Int
  qs : List Nat
  qPrev : Option Int
  mons : List MonSnap
  nsMon : Nat
  nrMon : Nat
  owPos : Nat
  sweepUs : Nat
  latched : Bool
  swept : Bool
  load : Nat
deriving DecidableEq, Repr

/-! ### The cell chain -/

/-- A window in a monitor's lock-in hardware (R176 to R180): WIN_ID, T_b, N_EP, SETTLE and FMASK; ACCEPTs received; the index
of the running epoch; the position gates of the running epoch, and those of the epoch whose partial is held, with its index; the
settle countdowns; per position the accepted epochs, the gate ranges (first, length), the overflow and a RANGE gate. -/
structure MonWin where
  win : Nat
  tb : Nat
  nep : Nat
  settle : Nat
  fmask : Nat
  accRx : Nat
  idx : Nat
  gate : List Bool
  held : Option Nat
  heldGate : List Bool
  settling : List Nat
  accepted : List Nat
  ranges : List (List (Nat × Nat))
  ovf : List Bool
  ranged : List Bool
deriving DecidableEq, Repr

/-- A monitor's lock-in hardware (R170, R176 to R180): EIS_STATE; what SETUP and FREQ have brought (WIN_ID, T_b, N_EP, P,
SETTLE, FMASK and the codes) and which of them have arrived; the running window; a window past its end that waits for its last
ACCEPT; the window in the result buffer. -/
structure MonEis where
  state : Nat
  setup : List Nat
  gotSetup : Bool
  got0 : Bool
  got8 : Bool
  codes : List Nat
  cur : Option MonWin
  closing : Option MonWin
  res : Option MonWin
deriving DecidableEq, Repr

/-- Lock-in hardware with nothing configured. -/
def MonEis.idle : MonEis :=
  { state := 0, setup := [], gotSetup := false, got0 := false, got8 := false, codes := List.replicate 16 0, cur := none
    closing := none, res := none }

/-- A monitor of the ring, at its place counted from RING-E (R114 to R120, R130, R136 to R140): its registers that differ
from their power-up values; the epoch of the last SAMPLE, the delay of a scheduled sample, the values held with their
epoch and whether they are converted; the STATUS word; Lull, commanded or its own, with its limits; the open-wire rounds
still to run, the lead mask whose sinks are on, and the verdicts of the test (0 intact, 1 open, 2 indeterminate); whether
its last Lull check sent a wake burst; the port out of which it repeated the last frame, with HOP and HOP_N as repeated; the
last reply it sent, with its port; the port that the running open-wire test came from; the bleed timers in s, the on-time in
ms of the running second of each, the duty in sixteenths, the `up` instant at which the running duty cycle started, whether
its on-part is over, the bleed switches and the plan (R236); the lock-in hardware. -/
structure Monitor where
  regs : List (Nat × Nat)
  epoch : Option Nat
  delay : Option Nat
  held : MonVals
  heldEp : Nat
  converted : Bool
  status : Nat
  lull : Bool
  self : Bool
  vlo : Nat
  vhi : Nat
  tlo : Nat
  thi : Nat
  rounds : List Nat
  sink : Nat
  owRes : List (Nat × Nat)
  burst : Bool
  passed : Option (Ring × Nat × Nat)
  reply : Option (Ring × RingReply)
  owPort : Ring
  timers : List Nat
  onMs : List Nat
  duty : Nat
  cycleAt : Nat
  resting : Bool
  bleeding : List Bool
  plan : Nat
  eis : MonEis
deriving DecidableEq, Repr

/-- A lead as the chain master knows it (R131): the indeterminate and the intact verdicts in a row, and whether it is
declared open. -/
structure Lead where
  indet : Nat
  intact : Nat
  isOpen : Bool
deriving DecidableEq, Repr

/-- What the chain master keeps of a monitor ID: its condition in the last epoch, the run towards MISSING, its last STATUS
word, its trims in 10 ns, its 13 leads, the leads of the open-wire test now out, its serials as enumerated and as
configured, its bleed duty limit as last read, and how the invariants of R129 came out in the last epoch: the positions k
whose pair invariant with k + 1 fails, and whether the stack invariant fails. -/
structure MonInfo where
  ns : Bool
  nr : Bool
  run : Nat
  missing : Bool
  status : Nat
  trimE : Int
  trimW : Int
  leads : List Lead
  testing : Nat
  serEnum : Nat
  serCfg : Nat
  duty : Nat
  pairs : Nat
  stackBad : Bool
deriving DecidableEq, Repr

/-- A command that the chain master sends in a gap (R114, R122). For `ow`, `kind` is 0 suspected, 1 requested, 2 periodic;
`bleedRead` takes the timers over or reconciles them; `vlim` writes LULL_VLIM, `lullRead` and `idRead` read LULL_PERIOD and
MON_ID back. -/
inductive RingCmd where
  | ow (mon leads kind : Nat)
  | bleedStop (mon mask : Nat)
  | bleedPlan (lane : Lane) (mon plan : Nat) (timers : List Nat)
  | eisCfg (mon kind : Nat) (payload : List Nat)
  | eisRead (mon win sel : Nat)
  | mreg (mon reg : Nat) (wr : Bool) (data : Nat)
  | bleedRead (mon : Nat) (take : Bool)
  | trim (mon : Nat)
  | vlim (mon data : Nat)
  | lullEnter (period vlo vhi tlo thi : Nat)
  | lullRead (mon : Nat)
  | idRead (mon : Nat)
deriving DecidableEq, Repr

/-- A queued ring command, how often it has been repeated, and whether it waits for a later gap (R111). -/
structure Queued where
  cmd : RingCmd
  tries : Nat
  later : Bool
deriving DecidableEq, Repr

/-- The chain master beside the CHAIN page (R112 to R141): whether a wiring error stops SAMPLE; what it keeps of each ID;
whether SAMPLE left both ports and whether it came back this epoch; the hops from which the farthest monitor answered each
port; the reads of the sweep (port, FIRST, LAST, whether the read belongs to a retry or to the other port's monitors), the
replies by port, those asked for again, the silent monitors with the port and the reply counts; the verdict set of the last
sweep with its epoch; whether the command gap is open, the ns left of it (none where no SAMPLE is to come), the waiting
commands and the one awaiting its reply; the frames sent since the latest SAMPLE, with their port, from PRE to HOP_N;
whether LULL has been accepted, whether and why a wake is under way, the clean snapshots after a self-wake, `up` of the
entry to LULL, and the coarse limits (VLO, VHI) that the present epoch's verdicts use. -/
structure Chain where
  wiring : Bool
  info : List (Nat × MonInfo)
  both : Bool
  looped : Bool
  edge : Nat × Nat
  sweep : List (Ring × Nat × Nat × Bool)
  replies : List (Ring × SweepReply)
  again : List (Ring × Nat)
  silent : List (Ring × Nat)
  mE : Nat
  mW : Nat
  verdicts : Option (Nat × List Nat)
  gap : Bool
  gapNs : Option Nat
  queue : List Queued
  await : Option Queued
  wire : List (Ring × List Nat)
  lullReq : Bool
  waking : Option Nat
  clean : Option Nat
  lullAt : Nat
  vlim : Nat × Nat
deriving DecidableEq, Repr

/-! ### Impedance in operation -/

/-- An accepted epoch of a window: its index, its I_AVG in 100 µA, and the associated temperatures of the positions in it. -/
structure EisEp where
  idx : Nat
  iAvg : Int
  temps : List (Option Int)
deriving DecidableEq, Repr

/-- The partial sums of an epoch that forms (R171): its index, the current samples so far, and the sum of each entry. -/
structure EisPart where
  idx : Nat
  n : Nat
  sums : List (Rat × Rat)
deriving DecidableEq, Repr

/-- A window of an EIS engine (R165 to R175): its number; the plan in use, in the words of EIS_PLAN, WIN, AMP, WEIGHT_LO,
WEIGHT_HI and FADE; the base period in s and N_EP; the time origin of its excitation, and the largest absolute value of the sum
of its tones; the direction (0 REST, 1 CHARGE, 2 DISCHARGE); EPOCH_START with its sample instant, and whether its epochs lie on
the local grid; the index of the running epoch and whether a gate condition has held inside it; the accepted epochs, latest
first; the partial sums that form. -/
structure EisWin where
  number : Nat
  plan : List Word
  tb : Nat
  nep : Nat
  origin : Nat
  peak : Rat
  dir : Nat
  startEp : Nat
  startT : Nat
  isLocal : Bool
  idx : Nat
  gated : Bool
  accepted : List EisEp
  parts : List EisPart
deriving DecidableEq, Repr

/-- A lane's EIS engine beside the EIS page: the phase (0 idle, 1 started, 2 accumulating); the window; the window that follows
it without a break, once its SETUP is sent; the earliest instant of its start; whether a START is held for the window's end, and
whether a window starts anew when a suspension ends; a window in readout with its closing epoch, the chain conditions of the
positions in that epoch, and the payloads read, by monitor and SEL; the instant since which the excitation fades out, with its
amplitude then and the fade time in ns. -/
structure Eis where
  phase : Nat
  cur : EisWin
  next : Option EisWin
  notBefore : Nat
  restart : Bool
  resume : Bool
  out : Option EisWin
  endEp : Nat
  endQual : List Nat
  reads : List (Nat × Nat × List Nat)
  fade : Option (Nat × Rat × Nat)
deriving DecidableEq, Repr

/-! ### The channel table, the estimator and balancing -/

/-- The alarm of a channel (R92): the epochs in a row above LIM_HI, below LIM_LO and inside both, and the alarms. -/
structure ChanRun where
  above : Nat
  below : Nat
  inside : Nat
  aHi : Bool
  aLo : Bool
deriving DecidableEq, Repr

/-- A lane's channel table path beside the CDT page (R94 to R98): the Stall cache, the entries most recently used first,
each with its bytes 0x00 to 0x33; the alarms by entry index; a deferred invalidation (FIRST, count, target epoch); the
class 0x05 entries whose exclusion has been raised (R230); of each entry with a scalar value, its GROUP, its engineering
value of the latest EST processing and its QUAL (R281). -/
structure Cdt where
  cache : List (Nat × List Nat)
  runs : List (Nat × ChanRun)
  deferred : Option (Nat × Nat × Nat)
  told : List Nat
  vals : List (Nat × Nat × Rat × Nat)
deriving DecidableEq, Repr

/-- An anchor (R203): SoC_ocv, the position's charge count in C, the plant time, the epoch, SYS_PWRCYC, and the sum and
number of the T_m of the epochs since. -/
structure Anchor where
  soc : Rat
  q : Rat
  t : Nat
  epoch : Nat
  pwrcyc : Nat
  tmSum : Rat
  tmN : Nat
deriving DecidableEq, Repr

/-- The latest impedance result of a position as virtual temperature uses it (R187, R188): ΔT_w in 0.01 K, MISMATCH, and
the instant of the window's end. -/
structure VtRes where
  dt : Int
  mis : Bool
  endT : Nat
deriving DecidableEq, Repr

/-- A position of the estimator (R193 to R217). SoC, its variance and V_A, V_B, ρ; the rest of the covariance; capacity in
Ah; T_m in °C with whether it is valid and a fallback; the flags; the `up` instant of the latest voltage update, or of the
start, and whether there was one; of the latest epoch, whether |I_INST| was below 0.1 C_p, whether it was plausible, and the
SoC correction that DISAGREE would still let through; the profile it used; the DISAGREE counts; SoC_v of the latest plausible
epoch; the rest time in ns; the fine values of the last 10 min in V by `up` instants, and the slope over the first 2 min
since module reset; the anchor; the rejections and learnings; the VT offset in 0.01 K and the latest result; the epoch of the
latest relearn; the rest minutes of the stored record while an OCV start is possible; whether the off-time correction is
still due, with the stored T_m. -/
structure EstPos where
  soc : Rat
  var : Rat
  va : Rat
  vb : Rat
  rho : Rat
  cov : List Rat
  cap : Rat
  tm : Rat
  tmOk : Bool
  tmBack : Bool
  unc : Bool
  noHist : Bool
  capPrior : Bool
  susp : Bool
  dis : Bool
  blind : Bool
  hallSub : Bool
  sat : Bool
  rest : Bool
  restAll : Bool
  lastV : Nat
  upd : Bool
  small : Bool
  plaus : Bool
  room : Rat
  prof : Nat
  disIn : Nat
  disOut : Nat
  socV : Option Rat
  restNs : Nat
  fines : List (Nat × Rat)
  slope0 : Option Rat
  anchor : Option Anchor
  rej : Nat
  learned : Nat
  vtOff : Int
  vt : Option VtRes
  relearnEp : Option Nat
  stored : Option Nat
  offDue : Option Rat
deriving DecidableEq, Repr

/-- A lane's estimator beside the EST page: its positions; the instant, the count in µC and I_AVG of the last epoch it
processed, that epoch, and its `up` instant; the relearns waiting (first, count, effect epoch); the
charge received and delivered in C; the impedance table, by the key of R184; STATUS of the impedance bins (EPOCH16, QUAL);
the associated temperatures of the last epoch in 0.01 °C; the latest output block; what the stored records hold unwritten;
the time and STEPPED flag of the stored state record. -/
structure Est where
  pos : List (Nat × EstPos)
  prev : Option (Nat × Int × Int)
  last : Option Nat
  upAt : Nat
  relearn : List (Nat × Nat × Nat)
  recv : Rat
  deliv : Rat
  table : List (Nat × Nat × Nat)
  bins : List (Nat × Nat × Nat)
  assoc : List (Option Int)
  out : List Nat
  dirtyL : Bool
  dirtyT : Bool
  storedAt : Option (Nat × Bool)
deriving DecidableEq, Repr

/-- Balancing of a position (R230 to R238): the latest target in mAh; the modelled on-time left in µs; the cumulative B_p
in µC; the bleed charge of the last epoch in µC; a correction of on-time still to be applied, in µs; B_EST; excluded; the last
valid voltage in V and the bleed resistance in Ω. -/
structure BalPos where
  target : Nat
  remain : Nat
  b : Rat
  bLast : Rat
  corr : Int
  bEst : Bool
  excl : Bool
  volt : Rat
  res : Rat
deriving DecidableEq, Repr

/-- A monitor as the bleed model sees it (R236, R238): the time into its duty cycle in µs, its duty in sixteenths, and its
last DIE code. -/
structure BalMon where
  phase : Nat
  duty : Nat
  die : Nat
deriving DecidableEq, Repr

/-- A lane's balancing beside the BAL page: the latest PLAN_ID and the timers of that plan by position, and whether it is still
to be sent; whether PLAN_NOW asks for a plan and whether a due plan waits for a window; the monitors still to be served by the
plan under delivery; positions, monitors. -/
structure Bal where
  plan : Nat
  timers : List (Nat × Nat)
  fresh : Bool
  planNow : Bool
  waiting : Bool
  due : List Nat
  pos : List (Nat × BalPos)
  mons : List (Nat × BalMon)
deriving DecidableEq, Repr

/-! ### Protection and safety -/

/-- The counts of one channel of one limit (R243, R247): the WARN, TRIP and clearing counts, WARN-active, its latched
trip, and whether its latest evaluation lay inside the WARN threshold less HYS. -/
structure ProtCh where
  warnN : Nat
  tripN : Nat
  clrN : Nat
  warn : Bool
  tripped : Bool
  inside : Bool
deriving DecidableEq, Repr

/-- The protection unit and the Squall path beside the PROT page (R241 to R258): the counts by 512 × limit + channel; the
blind monitors; the thresholds in force in 10 A and the DACs in nV, positive and negative; whether a threshold change still
settles; the polarity of a running Squall test; the polarities whose event 0x0C01 is still to be raised; whether the hold-up
bank is exhausted; `up` since which PLAUS_FAIL holds; `up` of each monitor's latest valid NTC value and of the first snapshot
since the reset or wake; the command that the TRIP pairs' read-back follows, 3 before the first; the limits whose WORST holds
a value. -/
structure Prot where
  ch : List (Nat × ProtCh)
  blind : List Nat
  thr : Nat × Nat
  dac : Nat × Nat
  settling : Bool
  testing : Option Nat
  unraised : List Nat
  exhausted : Bool
  plausAt : Option Nat
  ntcAt : List (Nat × Nat)
  firstAt : Option Nat
  cmd : Nat
  worst : List Nat
deriving DecidableEq, Repr

/-- The safety channel beside the SAFE page (R261 to R277). The MAIN and AUX permissives of the arbiter, and whether MAIN or
AUX must first be withdrawn; a full test run passed since power-up, the running one belongs to a valid press. Per safety
input the state that its samples have settled (0 and 3 none yet, the latest sample off or on; 1 on, 2 off), the grid periods
of the running change, the consecutive bad pulses of its own source and of the other; the same run for RESET_IN, whether its
present press cannot count; the discrepancy in sample periods of SI1/SI2 and SI3/SI4; the pulses followed in a row; the bad
pulses of TP1 and TP2. The switches whose read-back was bad in the last cycle, and the good cycles in a row; the root windows
and the ticks in order in a row; the ticks that await their verdicts; per position the epochs in a row that were not IN and
the latest verdict; the epochs in a row with every position IN; the monitors evaluated; a demand of SF3 for the next cycle
(position, verdict); outputs held off by the power-fail sequence; ACT undervoltage; TRIP commanded for the rest of a thermal
shutdown; `up` of the latest step of the sequence, of the switching of SO1 to SO3 whose feedback is not confirmed yet, since
which |I| is at most I_END in PRECHARGE, and of the latest tick. -/
structure Safe where
  main : Bool
  aux : Bool
  blocked : Bool
  auxBlocked : Bool
  tested : Bool
  press : Bool
  settled : List Nat
  runs : List (Option Nat)
  own : List Nat
  cross : List Nat
  resetRun : Option Nat
  resetSettled : Nat
  resetOwn : Nat
  resetTold : Bool
  disc : Nat × Nat
  followed : Nat
  srcBad : Nat × Nat
  rbBad : Nat
  rbRun : Nat
  rootRun : Nat
  tickRun : Nat
  awaiting : List (Nat × Nat)
  badRun : List Nat
  verdicts : List Nat
  allIn : Nat
  monCount : Nat
  sf3 : Option (Nat × Nat)
  powerOff : Bool
  actLow : Bool
  shutTrip : Bool
  seqAt : Nat
  fbAt : List (Nat × Nat)
  lowAt : Option Nat
  tickAt : Nat
deriving DecidableEq, Repr

/-! ### The control engine and the converter link -/

/-- A trace buffer at work (R294): whether it records, the next index, the samples recorded (up to 8,192), the loop samples
until the next recorded one, the level node at the last recorded sample, the samples still to record after the trigger,
whether FORCE waits, and the latest ready epoch at the trigger. -/
structure Trace where
  on : Bool
  idx : Nat
  n : Nat
  dec : Nat
  prev : Option Nat
  left : Option Nat
  force : Bool
  epoch : Nat
deriving DecidableEq, Repr

/-- A loop beside its registers (R283 to R294), binary32 values as words: the integrator; ŷ; the 16 outputs before this
one, latest first; the residuals in a row beyond FC_LIM (`bad`) and within it (`good`); the direction of the last clamp; the
output that comes back from full cooling; the active gain table and the shadow, empty where they stand as at reset, and the
table that the next sample activates; the forced-zero causes as a mask (R288); whether the loop cools fully; the trace. -/
structure Loop where
  integ : Nat
  yHat : Nat
  hist : List Nat
  bad : Nat
  good : Nat
  clampDir : Int
  back : Option Nat
  gt : List (Nat × Nat)
  shadow : List (Nat × Nat)
  commit : Option (List (Nat × Nat))
  causes : Nat
  full : Bool
  trace : Trace
deriving DecidableEq, Repr

/-- A lane's CLE beside its page: its loops; CLE_MODE.POWER as loop 0 uses it; b_chg and b_dis of R287; the words of the
trace window, by word index. -/
structure Cle where
  loops : List (Nat × Loop)
  power : Bool
  bChg : Nat
  bDis : Nat
  traces : List (Nat × Nat)
deriving DecidableEq, Repr

/-- The converter link beside its page (R296 to R300) and what the arbiter keeps (R363): the feedback of the last sample in
mA; SEQ, FLAGS and T_K of the last reference frame; whether its answer is awaited; the samples without feedback and the
valid frames in a row; the frames in a row without a converter fault; loop 0's last RATE_DN and rate, and the thermal
enables last forwarded; `up` when the last frame left, and since which RUN is sent while RUNNING is 0. -/
structure Link where
  fb : Option Int
  seq : Nat
  flags : Nat
  tk : Nat
  awaiting : Bool
  loss : Nat
  regain : Nat
  clean : Nat
  rateDn : Nat
  rate : Nat
  enables : Nat
  sentAt : Nat
  runAt : Option Nat
deriving DecidableEq, Repr

/-! ### Orders -/

/-- An order in flight (R309): its commit unit; whether it is journaled in one MRAM only, was held in another state than
OPERATE, was resumed after a reset. -/
structure OrderEnt where
  unit : JCommit
  single : Bool
  held : Bool
  resumed : Bool
deriving DecidableEq, Repr

/-- The order journal's run-time state (R309 to R328), shared by the lanes: O; the commit units on their way; the orders in
flight; the completions being written, oldest first; a CONTACTOR that waits (its completion so far, MAIN, AUX and the `up`
time at which WAIT_S ends); a RELEARN that waits for its write-back; t_d of the latest completed order; `up` of the gap's
opening and whether 0x1003 has been raised for it; completions since the last control slot; rebases; whether the journal
has been rebuilt. -/
structure Orders where
  oldest : Nat
  coming : List JCommit
  flight : List OrderEnt
  finishing : List JDone
  contactor : Option (JDone × Nat × Nat × Nat)
  relearn : Option JDone
  lastTd : Nat
  gapAt : Option Nat
  gapTold : Bool
  sinceControl : Nat
  rebases : Nat
  running : Bool
deriving DecidableEq, Repr

/-! ### Tally -/

/-- A timer (R338): its start, Q and the memory of its input; no memory while it is to be primed. -/
structure TallyTimer where
  start : Option Nat
  q : Bool
  mem : Option Bool
deriving DecidableEq, Repr

/-- A counter (R339): its count, the memory of its input and its output K. -/
structure TallyCounter where
  count : Nat
  mem : Option Bool
  out : Bool
deriving DecidableEq, Repr

/-- What a lane keeps of a station (R343, R344): ALIVE of the latest accepted frame; `up` and bits of the latest fresh one,
and whether one has come since RUN took effect; the executed cycles of the running absence; 0 present, 1 STALE, 2 SUBST; the
ALIVE of its next output frame. -/
structure TallyIo where
  alive : Option Nat
  seen : Option Nat
  bits : Nat
  since : Bool
  absent : Nat
  phase : Nat
  out : Nat
deriving DecidableEq, Repr

/-- A lane's Tally beside its page (R331 to R351): the loaded program and the requester of the running load; timers, edge
memories, counters, markers and remote outputs; the stations; the start instant of a cycle to be skipped; the epoch at
which LULL, SHUTDOWN or BOOT was last left; whether the next executed cycle is the first of RUN; the channel flags and epoch
inputs in use (bit i of the channel map, then bits 256 up) and those that wait for their instant; the start of the latest
executed cycle. -/
structure Tally where
  prog : Option TallyProg
  loader : Option Req
  timers : List (Nat × TallyTimer)
  edges : List (Nat × Bool)
  counters : List (Nat × TallyCounter)
  markers : Nat
  rq : Nat
  io : List TallyIo
  skip : Option Nat
  left : Option Nat
  first : Bool
  epIn : Nat
  epNext : List (Nat × Nat)
  lastAt : Option Nat
deriving DecidableEq, Repr

/-! ### Lanes -/

/-- A running merge (R359): its cause, the lane that hands over, whether that lane has failed, the time counter at the
decision. -/
structure Merge where
  cause : Nat
  giver : Lane
  failed : Bool
  t : Nat
deriving DecidableEq, Repr

/-- A running sync (R369): the joining lane, E_s (none until the first epoch that qualifies), its start, and whether the
state has been copied. -/
structure Sync where
  lane : Lane
  ep : Option Nat
  t : Nat
  copied : Bool
deriving DecidableEq, Repr

/-- What the lanes' supervision keeps beside the LANE page (R354 to R371): `up` of each lane's latest kicks of the lane
watchdog and of the application watchdog, and of its failure; the `up` times of its automatic resets; the merge and the sync
that run; whether the boot at power-up is still under way, and the lanes that have booted in it; the kinds of the running
epoch's divergence and the divergent epochs in a row; whether SYS_STATE has reached OPERATE since reset; HOLD written in
BOOT; the source of each lane's latest reset (0 module reset, 1 LRESET, 2 AUTO_RST); the bad domains of each lane's last
monitor window; bad root windows in a row; whether the stop line is asserted and a restarted root still awaits its lock. -/
structure Lanes where
  kick : Pair Nat
  appKick : Pair Nat
  failedAt : Pair (Option Nat)
  resets : Pair (List Nat)
  merge : Option Merge
  sync : Option Sync
  together : Bool
  booted : Pair Bool
  divKinds : Nat
  divRun : Nat
  operated : Bool
  holdBoot : Bool
  src : Pair Nat
  fmon : Pair Nat
  rootBad : Nat
  stopLine : Bool
  awaitLock : Bool
deriving DecidableEq, Repr

/-! ### The container bus -/

/-- A received frame with the index of its filter and the time counter at its SOF (R387). -/
structure CanRx where
  frame : CanFrame
  filter : Nat
  ts : Nat
deriving DecidableEq, Repr

/-- A lane's controller beside its page (R377 to R398): TEC and REC; the station queue; `up` of each buffer's request and
whether a SENDING buffer is cancelled; whether the station queue's head (3) or the BARRIER frame (4) is being sent; the
BARRIER frame that waits, with whether it is held; the log of R395 with `up` and SOF of each frame; the FIFO; the locks of
the dedicated buffers (`up`) and their pending frames; `up` of ARRIVE. -/
structure Cbus where
  tec : Nat
  rxErr : Nat
  staq : List (Nat × CanFrame)
  since : List Nat
  cancel : List Bool
  sending : Option Nat
  bar : Option (CanFrame × Bool)
  log : List (CanFrame × Nat × Nat)
  fifo : List CanRx
  locked : List (Option Nat)
  waiting : List (Option CanRx)
  arrived : Option Nat
deriving DecidableEq, Repr

/-! ### Power, temperature and update -/

/-- The power section and the thermal monitor beside their pages (R44, R450 to R456, R479): the exhaustion flag in domain
12; whether the module has power; per level the samples in a row at or above its entry value and below its leaving value;
the `up` time at which the presence window closes; `up` of the latest PWR_BO (`failAt`) and of the latest thermal shutdown
(`shutAt`); whether the service device has enumerated; the events that wait for the
event recorder to run after a boot, with their data; the latest answer on the service port's bulk IN 1 (R461). -/
structure Power where
  exhausted : Bool
  on : Bool
  hot : List Nat
  cold : List Nat
  presence : Option Nat
  failAt : Nat
  shutAt : Nat
  service : Bool
  due : List (Nat × List Nat)
  bulkIn : List Nat
deriving DecidableEq, Repr

/-- An image slot of a boot flash (R462): 0 empty, 1 staging, 2 complete, 3 booted; the staged bytes, none for an image
whose bytes the manual does not give; BUILD, ROLLBACK and HASH. -/
structure Slot where
  st : Nat
  bytes : Option (List Nat)
  build : Nat
  rollback : Nat
  hash : List Nat
deriving DecidableEq, Repr

/-- One lane's boot flash (R12, R462): its image slots; the slot that its boot record names and the record's SEQ; the staged
configuration package; the slots in which a fault of this flash makes a check fail, with the reason (R463). -/
structure FlashStore where
  slots : Pair Slot
  active : Nat
  bootSeq : Nat
  package : Option (List Nat)
  faults : List (Nat × Nat)
deriving DecidableEq, Repr

/-- The boot flashes and staging (R462 to R466): each lane's flash; the booted slot; the staging that runs (kind, the lane
map it was started in, bytes); an accepted activation that awaits the reset; the rollback counter; the lanes in recovery. -/
structure Flash where
  lane : Pair FlashStore
  booted : Nat
  staging : Option (Nat × Lane × List Nat)
  acting : Option Nat
  rollback : Nat
  recovery : Pair Bool
deriving DecidableEq, Repr

/-- The module: its registers, what its blocks hold beside them, and the commands that wait. `regs` is the register file;
`shadow` and `staged` are the words of R81; `lockT` the `up` times at which open locks close; `marks` the instants of
once-a-minute events; `up` the nanoseconds since reset; `free` the counter of the free values; `answer` what the latest
access command answered (refusal code, value); `resetting` an accepted MRESET; `sampleEpoch` the epoch of the latest sample
instant; `still` the instant since which IN_MOTION reads 0; `late` the snapshots that still form after the next sample
instant; `skipRun` a lane that skips the ready snapshot and `dramShut` one whose DRAM takes no writes. -/
structure State where
  regs : List (Nat × Word)
  shadow : List (Nat × Word)
  staged : List (Nat × Word)
  lockT : List (Nat × Nat)
  marks : List (Nat × Nat)
  up : Nat
  free : Nat
  recorder : Recorder
  exporter : Exporter
  icu : Pair Icu
  plink : Pair Plink
  regWin : RxWin
  resendWin : RxWin
  nv : Nv
  answer : Nat × Nat
  resetting : Bool
  sampleEpoch : Nat
  clock : Clock
  front : Front
  forming : Option Snap
  late : List Snap
  snap : Option Snap
  skipRun : Pair Bool
  dramShut : Pair Bool
  dram : Pair (List Host.Cell)
  sram : Pair (List Host.Cell)
  still : Option Nat
  chain : Chain
  mons : List (Nat × Monitor)
  eis : Pair Eis
  cdt : Pair Cdt
  est : Pair Est
  bal : Pair Bal
  prot : Prot
  safe : Safe
  cle : Pair Cle
  link : Link
  orders : Orders
  tally : Pair Tally
  lane : Lanes
  cbus : Pair Cbus
  pwr : Power
  flash : Flash
  pending : List Instr
deriving DecidableEq, Repr

/-! ### Reset

The blocks as a module reset leaves them. Registers stand at the reset values of the register tables, which the sparse
register file reads where it lists nothing. -/

/-- A pair of equal copies. -/
def Pair.of {α : Type} (x : α) : Pair α := ⟨x, x⟩

/-- Slots 0x00 to 0x19 of the ICU at reset (R430). -/
def Icu.reset : Icu :=
  { slots := (List.range 0x1A).map fun k =>
      (k, ⟨k * 0x100, 0xFF00, true, false, false, true, 8, 0, 3, 1, 0, 0, 0, false, false, 0, false, false, false, 0, none⟩)
    holding := [], window := [], sleep := [], restored := false, unmatched := 0, lost := 0, lostLull := 0, deliv := 0
    reroutes := 0, expBuf := [], lull := [], trace := [] }

/-- A plant port with empty queues, nothing retained and every stream at sequence 0 (R407, R418, R420). -/
def Plink.reset : Plink :=
  { seqs := List.replicate 9 0, queues := List.replicate 8 ⟨[], 0, 0, 0⟩, flush := [], store := [], resend := []
    sending := .idle, hbDue := none, outage := false, wire := none, tx := 0, rx := 0, rxFormat := 0, rxCrc := 0
    rxAddr := 0, rxDup := 0, early := 0, greeted := false, snapSent := none, netAnswer := [] }

/-- The bucket that codes beyond 512 share: no code has its mark. -/
def Bucket.shared : Bucket := ⟨0x10000, 20, 0, 0, false, none⟩

/-- The recorder before its index is recovered (R446). -/
def Recorder.reset : Recorder :=
  { index := 0, known := false, full := false, last := none, dirty := false, backAt := 0, buckets := [], rest := Bucket.shared, held := []
    lost := 0, overflow := false, recent := [], dropped := 0, clearing := none }

def Exporter.reset : Exporter :=
  { batch := [], epoch := 0, since := 0, last := none, waits := false, buckets := [], rest := Bucket.shared, recent := [] }

/-- The NV store as it leaves the factory (DESIGN CHOICE): an empty, valid configuration, no record, J1 fitted. -/
def Nv.factory : Nv :=
  let m : List (Nat × NvUnit) := [(0x640000, ⟨0x640000, 1, .config [] none false true, 0⟩)]
  { a := m, b := m, aOk := false, bOk := false, queue := [], busy := none, writes := 0, commit := none, cfgSlot := 0, cfgSeq := 1, cfgValid := true, j1 := true, sealed := none
    removals := 0, removed := [], opsec := 0, opsecNs := 0, pwrcyc := 0, boot := 0 }

/-- The time counter and the schedule: UNSET, no grid yet (R56, R64). -/
def Clock.reset : Clock :=
  { count := 0, frac := 0, origin := 0, newOrigin := none, plant := false, t0 := 0, p := 10000000, next := none
    ringAt := none, fresh := false, lockRun := 0, badRun := 0, lastPair := none, retimed := false
    domain := 0, sync := Pair.of none, pdReq := Pair.of none
    pdelay := Pair.of 0, asym := Pair.of 0, masters := Pair.of [], tsq := Pair.of [], tsqc := Pair.of [] }

/-- The front end before its first result: every value INVALID and NOT_SAMPLED. -/
def Front.reset : Front :=
  { iq := 0x80, vq := 0x80, hq := 0x80, q := 0, qLast := none, ntc := [2500, 2500, 2500], ntcq := [0x80, 0x80, 0x80]
    disagree := 0, agree := 0, clipWin := 0, mReset := true, mPaused := false, mClipped := false, mFault := false
    vchkBad := false, fastOn := false, fastNo := 0, fastT := 0, fastEp := 0, fast := [], fastGap := true }

def Chain.reset : Chain :=
  { wiring := false, info := [], both := false, looped := false, edge := (0, 0), sweep := [], replies := [], again := []
    silent := [], mE := 0, mW := 0, verdicts := none, gap := true, gapNs := none
    queue := [], await := none, wire := [], lullReq := false, waking := none, clean := none, lullAt := 0, vlim := (0, 0) }

def Eis.reset : Eis :=
  { phase := 0, cur := ⟨0, [], 0, 0, 0, 0, 0, 0, 0, false, 0, false, [], []⟩, next := none, notBefore := 0, restart := false
    resume := false, out := none, endEp := 0, endQual := [], reads := [], fade := none }

def Cdt.reset : Cdt := { cache := [], runs := [], deferred := none, told := [], vals := [] }

def Est.reset : Est :=
  { pos := [], prev := none, last := none, upAt := 0, relearn := [], recv := 0, deliv := 0, table := [], bins := []
    assoc := [], out := [], dirtyL := false, dirtyT := false, storedAt := none }

def Bal.reset : Bal := { plan := 0, timers := [], fresh := false, planNow := false, waiting := false, due := [], pos := [], mons := [] }

def Prot.reset : Prot :=
  { ch := [], blind := [], thr := (0, 0), dac := (0, 0), settling := false, testing := none, unraised := []
    exhausted := false, plausAt := none, ntcAt := [], firstAt := none, cmd := 3, worst := [] }

/-- The safety channel after its start: nothing settled, every permissive withdrawn, no full test run yet (R46, R277). -/
def Safe.reset : Safe :=
  { main := false, aux := false, blocked := false, auxBlocked := false, tested := false, press := false
    settled := List.replicate 8 0, runs := List.replicate 8 none, own := List.replicate 8 0, cross := List.replicate 8 0
    resetRun := none, resetSettled := 0, resetOwn := 0, resetTold := false, disc := (0, 0), followed := 0, srcBad := (0, 0)
    rbBad := 0, rbRun := 0, rootRun := 0, tickRun := 0, awaiting := [], badRun := List.replicate 480 0
    verdicts := List.replicate 480 3, allIn := 0, monCount := 0, sf3 := none, powerOff := false, actLow := true
    shutTrip := false, seqAt := 0, fbAt := [], lowAt := none, tickAt := 0 }

def Cle.reset : Cle := { loops := [], power := false, bChg := 0, bDis := 0, traces := [] }

def Link.reset : Link :=
  { fb := none, seq := 0, flags := 0, tk := 0, awaiting := false, loss := 0, regain := 0, clean := 0, rateDn := 0, rate := 0
    enables := 0, sentAt := 0, runAt := none }

/-- The order state before the journal has been rebuilt (R325). -/
def Orders.reset : Orders :=
  { oldest := 0, coming := [], flight := [], finishing := [], contactor := none, relearn := none, lastTd := 0
    gapAt := none, gapTold := false, sinceControl := 0, rebases := 0, running := false }

def Tally.reset : Tally :=
  { prog := none, loader := none, timers := [], edges := [], counters := [], markers := 0, rq := 0
    io := List.replicate 16 ⟨none, none, 0, false, 0, 2, 0⟩, skip := none, left := none, first := false, epIn := 0
    epNext := [], lastAt := none }

def Lanes.reset : Lanes :=
  { kick := Pair.of 0, appKick := Pair.of 0, failedAt := Pair.of none, resets := Pair.of [], merge := none, sync := none
    together := false, booted := Pair.of false, divKinds := 0, divRun := 0, operated := false, holdBoot := false
    src := Pair.of 0, fmon := Pair.of 0, rootBad := 0, stopLine := false, awaitLock := false }

def Cbus.reset : Cbus :=
  { tec := 0, rxErr := 0, staq := [], since := [0, 0, 0], cancel := [false, false, false], sending := none, bar := none
    log := [], fifo := [], locked := [none, none], waiting := [none, none], arrived := none }

def Power.reset : Power :=
  { exhausted := false, on := false, hot := [0, 0, 0], cold := [0, 0, 0], presence := none, failAt := 0, shutAt := 0, service := false
    due := [], bulkIn := [] }

/-- The boot flashes as they leave the factory (DESIGN CHOICE): an image in slot 0 of each, whose bytes are not given. -/
def Flash.factory : Flash :=
  { lane := Pair.of
      { slots := ⟨⟨3, none, 0, 0, []⟩, ⟨0, none, 0, 0, []⟩⟩, active := 0, bootSeq := 0, package := none, faults := [] }
    booted := 0, staging := none, acting := none, rollback := 0, recovery := Pair.of false }

/-- The module right after reset: every register at its reset value, both lanes in RESET, every block at rest, nothing
listed in a memory, no command waiting. -/
def State.reset : State :=
  { regs := [], shadow := [], staged := [], lockT := [], marks := [], up := 0, free := 0, recorder := Recorder.reset
    exporter := Exporter.reset, icu := Pair.of Icu.reset, plink := Pair.of Plink.reset, regWin := ⟨none, []⟩
    resendWin := ⟨none, []⟩, nv := Nv.factory, answer := (0, 0), resetting := false, sampleEpoch := 0, clock := Clock.reset
    front := Front.reset, forming := none, late := [], snap := none, skipRun := Pair.of false, dramShut := Pair.of false
    dram := Pair.of [], sram := Pair.of [], still := none, chain := Chain.reset, mons := [], eis := Pair.of Eis.reset, cdt := Pair.of Cdt.reset
    est := Pair.of Est.reset, bal := Pair.of Bal.reset, prot := Prot.reset, safe := Safe.reset, cle := Pair.of Cle.reset
    link := Link.reset, orders := Orders.reset, tally := Pair.of Tally.reset, lane := Lanes.reset
    cbus := Pair.of Cbus.reset, pwr := Power.reset, flash := Flash.factory, pending := [] }

end Sys2Proof.Machine
end

