-- ==== Sys2Proof/Machine/Ops.lean ====
section
/-! DEFINITION. The named operations over the register file, the memories and the NV path, the judgement of an access
(R471, R472). -/

namespace Sys2Proof.Machine

open Sys2Proof

/-- What a step answers. -/
abbrev Out := Host.Outcome State Fault Refusal

/-! ### The register file -/

/-- The key of a register in the register file: its page and offset, and the lane copy of a per-lane register (R73). -/
def regKey (page off : Nat) (l : Lane) : Nat :=
  page * 0x1000 + off + (if isShared page off then 0 else l.idx * 0x100000)

/-- The word of a key at module reset. -/
def resetWord (k : Nat) : Word := BitVec.ofNat 32 (findWord (k / 0x1000 % 0x100) (k % 0x1000) resetWords)

/-- Read of a register word. -/
def State.rd (s : State) (l : Lane) (page off : Nat) : Word := sget resetWord s.regs (regKey page off l)

/-- Write of a register word. -/
def State.wr (s : State) (l : Lane) (page off : Nat) (w : Word) : State :=
  { s with regs := sput resetWord s.regs (regKey page off l) w }

/-- Read of a field of lane `l`'s map. -/
def State.get (s : State) (l : Lane) (f : Fld) : Nat := getBits (s.rd l f.page f.off) f.hi f.lo

/-- Write of a field of lane `l`'s map. -/
def State.put (s : State) (l : Lane) (f : Fld) (v : Nat) : State :=
  s.wr l f.page f.off (setBits (s.rd l f.page f.off) f.hi f.lo v)

/-- Read of a field of a shared register. -/
def State.g (s : State) (f : Fld) : Nat := s.get .a f

/-- Write of a field of a shared register. -/
def State.p (s : State) (f : Fld) (v : Nat) : State := s.put .a f v

/-- Is a field of lane `l`'s map non-zero? -/
def State.getB (s : State) (l : Lane) (f : Fld) : Bool := s.get l f != 0

/-- Is a field of a shared register non-zero? -/
def State.gb (s : State) (f : Fld) : Bool := s.g f != 0

/-- Write of the same value to a field in both lanes' maps. -/
def State.put2 (s : State) (f : Fld) (v : Nat) : State := (s.put .a f v).put .b f v

/-- Increment of a field, wrapping at its width. -/
def State.bump (s : State) (l : Lane) (f : Fld) : State := s.put l f (s.get l f + 1)

/-- Increment of a field, saturating at its largest value. -/
def State.bumpSat (s : State) (l : Lane) (f : Fld) : State :=
  s.put l f (satInc (2 ^ (f.hi + 1 - f.lo) - 1) (s.get l f))

/-- A 64-bit value held in two words, the low word first. -/
def State.get64 (s : State) (l : Lane) (f : Fld) : Nat :=
  (s.rd l f.page f.off).toNat + 2 ^ 32 * (s.rd l f.page (f.off + 4)).toNat

/-- Write of a 64-bit value held in two words. -/
def State.put64 (s : State) (l : Lane) (f : Fld) (v : Nat) : State :=
  (s.wr l f.page f.off (BitVec.ofNat 32 v)).wr l f.page (f.off + 4) (BitVec.ofNat 32 (v / 2 ^ 32))

/-- A free value, drawn afresh (`Config.free`); `part` tells the values of one draw apart. -/
def State.draw (s : State) (part : Nat := 0) : Nat := Config.free s.free part

/-- The state after a free value has been drawn. -/
def State.drawn (s : State) : State := { s with free := s.free + 1 }

/-! ### Lanes and states -/

/-- The field of a lane in LANE_STATE. -/
def laneFld : Lane → Fld
  | .a => F.LANE_STATE_A
  | .b => F.LANE_STATE_B

/-- LANE_STATE of a lane (R354). -/
def State.laneState (s : State) (l : Lane) : Nat := s.g (laneFld l)

/-- A lane counts as running in STANDBY and AUTHORITY (R89, R354). -/
def State.running (s : State) (l : Lane) : Bool := s.laneState l == 4 || s.laneState l == 5

/-- A lane computes and sends records: it runs, or it joins and the sync has copied the state (R369). -/
def State.active (s : State) (l : Lane) : Bool :=
  s.running l || (s.laneState l == 3 && (match s.lane.sync with
    | some y => y.lane == l && y.copied
    | none => false))

/-- Does a lane own authority (LANE_AUTH.OWNER)? -/
def State.isAuth (s : State) (l : Lane) : Bool := s.g F.LANE_AUTH_OWNER == l.idx + 1

/-- The lane in authority. -/
def State.auth (s : State) : Option Lane :=
  if s.g F.LANE_AUTH_OWNER = 1 then some .a else if s.g F.LANE_AUTH_OWNER = 2 then some .b else none

/-- Both lanes. -/
def lanes : List Lane := [.a, .b]

/-- Module states (R100). -/
def St.BOOT : Nat := 0
def St.CONFIG : Nat := 1
def St.OPERATE : Nat := 2
def St.LULL : Nat := 3
def St.SHUTDOWN : Nat := 4

/-- SYS_STATE.STATE. -/
def State.mode (s : State) : Nat := s.g F.SYS_STATE_STATE

/-- PWR_BO asserted (R42). -/
def State.bo (s : State) : Bool := s.gb F.PWR_BO_BO

/-- The latest ready epoch, 64 bits (SNAP_EPOCH). -/
def State.snapEpoch (s : State) : Nat := s.get64 .a F.SNAP_EPOCH_EPOCH_LO

/-! ### The judgement of an access -/

/-- Why an access is refused, in the order of R471. -/
inductive Why where
  | hw | auth | rights | presence | lock | state | busy | value | entry
deriving DecidableEq, Repr

/-- The refusal code of a reason (R79, R471). -/
def Why.code : Why → Nat
  | .hw => 0x09
  | .auth => 0x0A
  | .rights => 0x02
  | .presence => 0x03
  | .lock => 0x02
  | .state => 0x01
  | .busy => 0x05
  | .value => 0x04
  | .entry => 0x0B

/-- The reasons in the order of R471. -/
def whys : List Why := [.hw, .auth, .rights, .presence, .lock, .state, .busy, .value, .entry]

/-- A rule of an access and whether the access breaks it. -/
abbrev Chk := Why × Bool

/-- The code of the first rule broken, in the order of R471. -/
def refusal (cs : List Chk) : Option Nat :=
  whys.findSome? fun w => if cs.any (fun c => c.1 == w && c.2) then some w.code else none

/-- Does a remote or service access name a lane that is not running (R89)? -/
def State.deadLane (s : State) (r : Req) : Bool :=
  (r.path == .hpp || r.path == .service) && !s.running r.lane

/-- Does the boot ROM of a lane in recovery serve a request to a page: a service request to UPD (R463)? -/
def State.bootServes (s : State) (r : Req) (page : Nat) : Bool :=
  r.path == .service && s.flash.recovery.get r.lane && page == Pg.UPD

/-- The registers that stage and activate an image, which a boot ROM in recovery accepts (R463). -/
def bootWrites (off : Nat) : Bool := off == 0x050 || off == 0x054 || off == 0x05C

/-- Would presence refuse an RWP write of this requester (R80, R85)? -/
def State.noPresence (s : State) (r : Req) : Bool :=
  !(s.gb F.SYS_PRESENCE_OPEN && (r.path == .service || r.path == .mgmt))

/-- A page's lock word. -/
def State.lockWord (s : State) (l : Lane) (page : Nat) : Word := s.rd l page 0x024

/-- Does a requester hold the page's lock open (R83)? -/
def State.holds (s : State) (r : Req) (page : Nat) : Bool :=
  getBits (s.lockWord r.lane page) 31 31 == 1 && getBits (s.lockWord r.lane page) 27 24 == r.code

/-- One minute of lock time, in nanoseconds (R83). -/
def lockNs : Nat := 60000000000

/-- The lock's timer restarts at an accepted RWL write of the owner (R83). -/
def State.keepLock (s : State) (r : Req) (page : Nat) : State :=
  if s.holds r page then
    { s with lockT := sput (fun _ => 0) s.lockT (regKey page 0x024 r.lane) (s.up + lockNs) }
  else s

/-- The word that a refused access leaves in xx_ERR: CODE, REQ and OFFSET, and OVR where CODE was non-zero (R79). -/
def State.errWord (s : State) (r : Req) (page off code : Nat) : Word :=
  let e := s.rd r.lane page 0x020
  let ovr := b2n (getBits e 7 0 != 0 || getBits e 8 8 == 1)
  BitVec.ofNat 32 (off % 0x1000 * 2 ^ 20 + r.code * 2 ^ 16 + ovr * 2 ^ 8 + code)

/-- A refused access is recorded in the lane's xx_ERR (R79). -/
def State.refuse (s : State) (r : Req) (page off code : Nat) : State :=
  s.wr r.lane page 0x020 (s.errWord r page off code)

/-- An access: refused once with the code of the first rule it breaks, else carried out (R10, R471). The answer is the
refusal code, 0 for none, and the state. -/
def State.access (s : State) (r : Req) (page off : Nat) (cs : List Chk) (eff : State → State) : Nat × State :=
  match refusal ((.hw, s.deadLane r) :: cs) with
  | some c => (c, s.refuse r page off c)
  | none => (0, eff s)

/-! ### Memories -/

/-- A byte of a lane's memory; a byte that nothing has written reads 0. -/
def memByte (m : List Host.Cell) (a : Nat) : Nat := (sget (fun _ => (0 : Byte)) m a).toNat

/-- `n` bytes of a lane's memory from `a`. -/
def memBytes (m : List Host.Cell) (a : Nat) : Nat → List Nat
  | 0 => []
  | n + 1 => memByte m a :: memBytes m (a + 1) n

/-- Bytes stored from `a` upwards. -/
def memStore (m : List Host.Cell) (a : Nat) : List Nat → List Host.Cell
  | [] => m
  | b :: bs => memStore (sput (fun _ => (0 : Byte)) m a (BitVec.ofNat 8 b)) (a + 1) bs

/-- A little-endian 32-bit word of a lane's memory. -/
def memWord (m : List Host.Cell) (a : Nat) : Nat := ofLe (memBytes m a 4)

/-- Does `[a, a + n)` lie within the LPDDR4X of the lane (R72)? -/
def inDram (a n : Nat) : Bool := decide (0x80000000 ≤ a) && decide (a + n ≤ 0xC0000000)

/-- Bytes stored to a lane's DRAM. -/
def State.dramStore (s : State) (l : Lane) (a : Nat) (bs : List Nat) : State :=
  { s with dram := s.dram.set l (memStore (s.dram.get l) a bs) }

/-! ### The NV path -/

/-- Both MRAMs lost: no NV write is issued (R103). -/
def Nv.gone (n : Nv) : Bool := !n.aOk && !n.bOk

/-- The order in which waiting units start: lock-out writes and the order journal ahead of the rest, the recorder last
(R444). -/
def NvBody.prio : NvBody → Nat
  | .lockout .. => 0
  | .commit _ => 1
  | .done _ => 1
  | .control .. => 1
  | .event _ => 3
  | .wipe c => c
  | _ => 2

/-- A unit joins the waiting units behind those of its own and of higher priority. -/
def nvInsert (u : NvUnit) : List NvUnit → List NvUnit
  | [] => [u]
  | v :: l => if v.body.prio ≤ u.body.prio then v :: nvInsert u l else u :: v :: l

/-- What is left of a write joins the waiting units ahead of those of its own priority, behind those of higher. -/
def nvResume (u : NvUnit) : List NvUnit → List NvUnit
  | [] => [u]
  | v :: l => if v.body.prio < u.body.prio then v :: nvResume u l else u :: v :: l

/-- The record of event 0x0005, or the last record of a full recorder in its place (R445). -/
def NvBody.ofReset : NvBody → Bool
  | .event e => e.code == 0x0005 || (e.code == 0x1701 && leAt e.data 0 2 == 0x0005)
  | _ => false

/-- The waiting unit that starts next: the first, after an accepted MRESET only the record of that event (R473). -/
def State.nvNext (s : State) : Option NvUnit := s.nv.queue.find? fun u => !s.resetting || u.body.ofReset

/-- The next waiting unit starts, unless PWR_BO is asserted (R42). -/
def State.nvKick (s : State) : State :=
  if s.nv.busy.isSome || s.bo then s
  else match s.nvNext with
    | none => s
    | some u => { s with nv := { s.nv with busy := some u, queue := s.nv.queue.erase u } }

/-- An NV write of `left` + 1 units is issued (R42); with both MRAMs lost it fails (R103). -/
def State.nvWrite (s : State) (off seq : Nat) (body : NvBody) (left : Nat := 0) : State :=
  if s.nv.gone then s
  else ({ s with nv := { s.nv with queue := nvInsert ⟨off, seq, body, left⟩ s.nv.queue } } : State).nvKick

/-- A unit of an MRAM at an offset. -/
def unitAt (m : List (Nat × NvUnit)) (off : Nat) : Option NvUnit := (m.find? (fun x => x.1 == off)).map (·.2)

/-- A unit placed in an MRAM. -/
def placeUnit (u : NvUnit) (m : List (Nat × NvUnit)) : List (Nat × NvUnit) := sins u.off u (sdel u.off m)

/-- The unit at an offset as the module reads it: from lane A's MRAM while it is in use, else from lane B's. -/
def Nv.unit (n : Nv) (off : Nat) : Option NvUnit := if n.aOk then unitAt n.a off else unitAt n.b off

/-- The sequence number of the next unit at an offset: one above the highest written or waiting there. -/
def Nv.next (n : Nv) (off : Nat) : Nat :=
  let waiting := (n.busy.toList ++ n.queue).filterMap fun u => if u.off = off then some u.seq else none
  let stored := ((n.unit off).map NvUnit.seq).getD 0
  waiting.foldl max stored + 1

/-! ### The configuration slots (R105) -/

/-- The MRAM offset of a configuration slot. -/
def cfgOff (slot : Nat) : Nat := 0x640000 + slot * 0x80000

/-- The key under which a slot holds a half of a monitor's configured serial. -/
def serialKey (mon half : Nat) : Nat := 0x10000000 + 2 * mon + half

/-- The configuration registers of the active slot. -/
def State.cfgStored (s : State) : List (Nat × Word) :=
  match s.nv.unit (cfgOff s.nv.cfgSlot) with
  | some ⟨_, _, .config ws _ _ _, _⟩ => if s.nv.cfgValid then ws else []
  | _ => []

/-- The serial that the committed configuration lists for a monitor ID (R134). -/
def State.serStored (s : State) (k : Nat) : Nat :=
  (sget (fun _ => (0 : Word)) s.cfgStored (serialKey k 0)).toNat +
    2 ^ 32 * (sget (fun _ => (0 : Word)) s.cfgStored (serialKey k 1)).toNat

end Sys2Proof.Machine
end

