-- ==== Sys2Proof/Machine/Operands.lean ====
section
/-! DEFINITION. The operand forms: the regions of the lane address map, the words of multi-word values, and the general
judgement of a field write by its access type and its legal values. -/

namespace Sys2Proof.Machine

open Sys2Proof

/-- What a lane-map address names (R72). -/
inductive Place where
  | page (page off : Nat)
  | mram (off : Nat)
  | sram (off : Nat)
  | dram
  | trace (off : Nat)
  | readonly
  | nowhere
deriving DecidableEq, Repr

/-- The place of a lane-map address (R72). -/
def place (addr : Nat) : Place :=
  if addr < 0x10000 then .readonly
  else if 0x10000000 ≤ addr ∧ addr < 0x14000000 then .readonly
  else if 0x20000000 ≤ addr ∧ addr < 0x21000000 then .mram (addr - 0x20000000)
  else if 0x30000000 ≤ addr ∧ addr < 0x30080000 then .sram (addr - 0x30000000)
  else if 0x40000000 ≤ addr ∧ addr < 0x4001A000 then
    if addr % 4 = 0 then .page ((addr - 0x40000000) / 0x1000) (addr % 0x1000) else .nowhere
  else if 0x48000000 ≤ addr ∧ addr < 0x48200000 then .trace (addr - 0x48000000)
  else if 0x80000000 ≤ addr ∧ addr < 0xC0000000 then .dram
  else .nowhere

/-- The field of a row: the `k`-th register of an array. -/
def Row.fld (r : Row) (k : Nat) : Fld := ⟨r.page, r.off + k * r.stride, r.hi, r.lo⟩

/-- Does a row describe the register at an offset? -/
def Row.covers (r : Row) (off : Nat) : Bool :=
  decide (r.off ≤ off) && decide (off < r.off + r.cnt * r.stride) && (off - r.off) % r.stride == 0

/-- The rows of the register at an offset of a page. -/
def rowsAt (page off : Nat) : List Row := (rowsOf page).filter fun r => r.covers off

/-- May a write change the row's field at all? -/
def Row.writable (r : Row) : Bool := r.acc != .ro && r.acc != .w1c && r.acc != .w1s

/-- Is the row's field restricted, so that a change of it is judged (R472)? -/
def Row.changes (r : Row) (old v : Word) : Bool :=
  (r.acc == .rwl || r.acc == .rwp || r.acc == .rw) && getBits old r.hi r.lo != getBits v r.hi r.lo

/-- The rules that a field write can break by its row alone: presence for RWP, the page lock for RWL, CONFIG, its legal
values (R9, R80, R83, R85, R472). `skipLock` stands for the orders, which ignore the page locks (R321). -/
def Row.checks (r : Row) (s : State) (req : Req) (skipLock : Bool) (old v : Word) : List Chk :=
  [(.presence, r.acc == .rwp && r.changes old v && s.noPresence req),
   (.lock, r.acc == .rwl && r.changes old v && !skipLock && !s.holds req r.page),
   (.state, r.cfgOnly && r.changes old v && s.mode != St.CONFIG),
   (.value, r.writable && !r.lim.ok (getBits v r.hi r.lo))]

/-- Would a write change a restricted field of the register (R472)? -/
def State.changesReg (s : State) (req : Req) (page off : Nat) (v : Word) : Bool :=
  (rowsAt page off).any fun r => r.changes (s.rd req.lane page off) v

/-- The rules of every field of the register that the write can break (R472). -/
def regChecks (s : State) (req : Req) (skipLock : Bool) (page off : Nat) (v : Word) : List Chk :=
  let old := s.rd req.lane page off
  (rowsAt page off).flatMap fun r => r.checks s req skipLock old v

/-- The register's word after an accepted write: every field that may be written takes its bits (R8, R80). -/
def mergeRow (v w : Word) (r : Row) : Word :=
  if r.writable && r.acc != .wo then setBits w r.hi r.lo (getBits v r.hi r.lo) else w

/-- An accepted write of a register's plain fields, with the lock's timer restarted where an RWL field is among them. -/
def State.store (s : State) (req : Req) (page off : Nat) (v : Word) : State :=
  let rows := rowsAt page off
  let old := s.rd req.lane page off
  let s := s.wr req.lane page off (rows.foldl (mergeRow v) old)
  if rows.any (fun r => r.acc == .rwl) then s.keepLock req page else s

/-- The key of a word in a requester's shadow or staging (R81): its requester code, page and offset. -/
def shadowKey (r : Req) (page off : Nat) : Nat := r.code * 0x100000 + page * 0x1000 + off

/-- The word staged for a requester (R81). -/
def State.stagedWord (s : State) (r : Req) (page off : Nat) : Nat :=
  (sget (fun _ => (0 : Word)) s.staged (shadowKey r page off)).toNat

/-- An upper word is staged. -/
def State.stage (s : State) (r : Req) (page off : Nat) (v : Word) : State :=
  { s with staged := sput (fun _ => (0 : Word)) s.staged (shadowKey r page off) v }

/-- The staged upper words return to 0 (R81). -/
def State.unstage (s : State) (r : Req) (page : Nat) (offs : List Nat) : State :=
  offs.foldl (fun s o => s.stage r page o 0) s

/-- The upper words latched into a requester's shadow (R81). -/
def State.latchUpper (s : State) (r : Req) (page : Nat) (ws : List (Nat × Word)) : State :=
  ws.foldl (fun s x => { s with shadow := sput (fun _ => (0 : Word)) s.shadow (shadowKey r page x.1) x.2 }) s

/-- The word that a requester's shadow holds. -/
def State.shadowWord (s : State) (r : Req) (page off : Nat) : Word :=
  sget (fun _ => (0 : Word)) s.shadow (shadowKey r page off)

end Sys2Proof.Machine
end

