-- ==== Sys2Proof/Machine/Flags.lean ====
section
/-! DEFINITION. The derived flags: the QUAL bits of a channel (R154), IN_MOTION (R474), the time quality (R61) and the
passage of time (R56, R59, R476). -/

namespace Sys2Proof.Machine

open Sys2Proof

/-- QUAL bits (R154). -/
def Q.INVALID : Nat := 0x80
def Q.ENTRY_INVALID : Nat := 0x40
def Q.RANGE : Nat := 0x20
def Q.MON_FAULT : Nat := 0x10
def Q.MISMATCH : Nat := 0x08
def Q.OPEN_WIRE : Nat := 0x04
def Q.NO_REPLY : Nat := 0x02
def Q.NOT_SAMPLED : Nat := 0x01

/-- A QUAL byte with the bits of `m` added. -/
def qOr (q m : Nat) : Nat := Nat.lor q m

/-- A QUAL byte with INVALID set whenever a condition that implies it is present (R154). -/
def qClose (q : Nat) : Nat :=
  if Nat.land q (Q.NOT_SAMPLED + Q.NO_REPLY + Q.OPEN_WIRE + Q.MON_FAULT + Q.RANGE + Q.ENTRY_INVALID) != 0
  then Nat.lor q Q.INVALID else q

/-- Does a QUAL byte carry a condition? -/
def qHas (q m : Nat) : Bool := Nat.land q m != 0

/-- A condition turned into its QUAL bits. -/
def qIf (c : Bool) (m : Nat) : Nat := if c then m else 0

/-- A contactor is closed: SO1 to SO3 commanded or read on, or a mirror contact with feedback reads off (R474). -/
def State.contactorClosed (s : State) : Bool :=
  (List.range 3).any fun k =>
    bitAt (s.g F.SAFE_STATE_OUT_CMD) k || bitAt (s.g F.SAFE_STATE_OUT_RB) k ||
      (bitAt (s.g F.SAFE_IN_CFG_FB_EN) k && !bitAt (s.g F.SAFE_IN_FILT) (k + 4))

/-- The string current that the module goes by, in 100 µA: the shunt result, the Hall result while the shunt result
carries INVALID or RANGE, none while both carry INVALID (R474). -/
def State.stringCurrent (s : State) : Option Int :=
  if !qHas s.front.iq (Q.INVALID + Q.RANGE) then some (toSigned 32 (s.g F.MEAS_I_I))
  else if !qHas s.front.hq Q.INVALID then some (toSigned 32 (s.g F.MEAS_HALL_HALL))
  else if !qHas s.front.iq Q.INVALID then some (toSigned 32 (s.g F.MEAS_I_I))
  else none

/-- SYS_STATE.IN_MOTION (R474). -/
def State.inMotion (s : State) : Bool :=
  s.contactorClosed ||
    match s.stringCurrent with
    | some i => decide (20000 < i.natAbs)
    | none => true

/-- The module is throttled. -/
def State.throttled (s : State) : Bool := s.gb F.SYS_STATE_THROTTLED

/-- The rate-limited set-point of a lane's loop 0 in A, charge positive (CLE_L0_SP_RL, R286). -/
def State.setPoint (s : State) (l : Lane) : Rat := f32 (s.rd l Pg.CLE 0x118).toNat

/-- Time passes: `ns` nanoseconds of the counter's ticks, with the rate correction of R59 and the operating seconds. -/
def State.elapse (s : State) (ns : Nat) : State :=
  let x : Int := s.clock.frac + ns * toSigned 32 (s.g F.TIME_RATE_RATE)
  let o := s.nv.opsecNs + ns
  { s with
    up := s.up + ns
    clock := { s.clock with count := ((s.clock.count + ns + x / 2 ^ 40) % 2 ^ 64).toNat, frac := x % 2 ^ 40 }
    nv := { s.nv with opsec := s.nv.opsec + o / 1000000000, opsecNs := o % 1000000000 } }

/-- The counter's tick in ns: 4 (R476), 40 in LULL, where domain 12 carries the counter (R136). -/
def State.tickNs (s : State) : Nat := if s.mode = St.LULL then 40 else 4

/-- Crystal time in ns, in ticks, until the first tick at which the count is at or after `t` (R65, R476). -/
def State.nsUntil (s : State) (t : Nat) : Nat :=
  let per : Int := s.tickNs * (2 ^ 40 + toSigned 32 (s.g F.TIME_RATE_RATE))
  s.tickNs * ((((t : Int) - s.clock.count) * 2 ^ 40 - s.clock.frac + (per - 1)) / per).toNat

/-- A scheduled instant fires at the first tick at which the count is at or after it (R476). -/
def State.reach (s : State) (t : Nat) : State := if s.clock.count < t then s.elapse (s.nsUntil t) else s

/-- A timer that ends at an `up` instant has run out, at a tick. -/
def State.runTo (s : State) (t : Nat) : State := if s.up < t then s.elapse ((t - s.up + (s.tickNs - 1)) / s.tickNs * s.tickNs) else s

end Sys2Proof.Machine
end

