-- ==== Sys2Proof/Machine/Events.lean ====
section
/-! DEFINITION. Raising an event (R77, R428), the ICU's intake (R429, R434), the event recorder (R441 to R446), the
exporter (R413) and the forming of HPP records (R406 to R420). -/

namespace Sys2Proof.Machine

open Sys2Proof

/-- A raising: the lanes whose page observes it (both for a shared page), the code, the unit and the data bytes of R442. -/
structure Raising where
  lanes : List Lane
  code : Nat
  unit : Nat
  data : List Nat
  test : Bool
deriving DecidableEq, Repr

/-! ### Once a minute -/

/-- May a once-a-minute event be raised now? -/
def State.minuteOver (s : State) (k : Nat) : Bool :=
  let m := sget (fun _ => 0) s.marks k
  m == 0 || decide (m - 1 + 60000000000 ≤ s.up)

/-- The instant of a once-a-minute event is kept. -/
def State.mark (s : State) (k : Nat) : State := { s with marks := sput (fun _ => 0) s.marks k (s.up + 1) }

/-! ### The event registers of a page (R77) -/

/-- The bit of an event in its page's event registers: k for 0x01 to 0x1F, EXT for 0x20 to 0xFF. -/
def evtBit (code : Nat) : Nat := if code % 0x100 < 0x20 then code % 0x100 else 0

/-- A bit of a register word is set. -/
def State.setBit (s : State) (l : Lane) (page off k : Nat) : State :=
  s.wr l page off (BitVec.ofNat 32 (putBit (s.rd l page off).toNat k true))

/-- The raw latch and the lane's latch behind xx_EVT. -/
def State.latch (s : State) (l : Lane) (page bit : Nat) : State :=
  (s.setBit l page 0x010 bit).setBit l page 0x018 bit

/-- Is the raising enabled for a lane (xx_EVT_EN)? -/
def State.evtEn (s : State) (l : Lane) (code : Nat) : Bool :=
  bitAt (s.rd l (code / 0x100) 0x014).toNat (evtBit code)

/-! ### HPP records -/

/-- The bytes of an event record (R442). -/
def evBytes (e : EvRec) : List Nat :=
  let b := leBytes 2 e.code ++ leBytes 2 (e.lane * 2 ^ 14 + e.unit % 2 ^ 12) ++ leBytes 4 e.opsec ++
    leBytes 4 ((b2n e.test + 2 * b2n e.rl + 4 * b2n e.held) * 2 ^ 24 + e.pwrcyc % 2 ^ 24) ++ leBytes 4 e.epoch ++
    leBytes 2 e.rep ++ padTo 10 e.data
  b ++ leBytes 4 (crc32c b)

/-- The datagram bytes that a record holds in its queue: header and payload (R406). -/
def HppRec.size (r : HppRec) : Nat := 32 + r.payload.length

/-- The retention bytes of a record (R418). -/
def HppRec.kept (r : HppRec) : Nat := (r.size + 63) / 64 * 64

/-- The capacity of a queue (R420). -/
def State.queueCap (s : State) (l : Lane) (n : Nat) : Nat := 4096 + s.get l (F.QUE_Qn_CFG_MAX_MIB n) * 2 ^ 20

/-- The bytes held in a queue. -/
def Queue.bytes (q : Queue) : Nat := (q.recs.map HppRec.size).sum

/-- The retention store after its oldest records have made room for `room` bytes, and how many went (R418). -/
def evict (size room : Nat) : List Retained → List Retained × Nat
  | [] => ([], 0)
  | r :: l =>
    if ((r :: l).map (fun x => x.record.kept)).sum + room ≤ size then (r :: l, 0)
    else let (l', n) := evict size room l; (l', n + 1)

/-- A record enters the retention store of a lane. -/
def retain (size up : Nat) (r : HppRec) (pl : Plink) : Plink × Bool :=
  if r.typ = 0x0C ∨ size < r.kept then (pl, false)
  else
    let (st, n) := evict size r.kept pl.store
    ({ pl with store := st ++ [⟨r, up⟩], early := min 0xFFFF (pl.early + n) }, n != 0)

/-- A record enters a queue, or is dropped because it does not fit, or is discarded because the link is down (R420,
R424). The answer names the event to raise. -/
def enqueue (cap : Nat) (up : Bool) (n : Nat) (r : HppRec) (pl : Plink) : Plink × Option (Nat × List Nat) :=
  let q := pl.queues.getD n ⟨[], 0, 0, 0⟩
  if q.bytes + r.size ≤ cap then
    if up then ({ pl with queues := pl.queues.set n { q with recs := q.recs ++ [r] } }, none)
    else ({ pl with queues := pl.queues.set n { q with discard := satInc 0xFFF q.discard }, outage := true },
      if pl.outage then none else some (0x1504, []))
  else ({ pl with queues := pl.queues.set n { q with drop := satInc 0xFFFF q.drop } },
    if q.drop = 0 then some (0x1501, [n, r.stream]) else none)

/-- A lane forms a record of a stream under the stream's next sequence and enters it into retention and its queue (R407,
R418, R420); the answer lists the events this raises. -/
def State.form (s : State) (l : Lane) (n typ stream epoch : Nat) (payload : List Nat) : State × List Raising :=
  let pl := s.plink.get l
  let r : HppRec := ⟨typ, stream, epoch, pl.seqs.getD (stream - 1) 0, payload⟩
  let pl := { pl with seqs := pl.seqs.set (stream - 1) ((r.seq + 1) % 2 ^ 32) }
  let (pl, ev) := retain (s.get l F.PLNK_RET_SIZE_SIZE) s.up r pl
  let (pl, q) := enqueue (s.queueCap l n) (s.getB l F.PLNK_STAT_LINK_UP) n r pl
  let told := ev && s.minuteOver (0x1403 + 0x100000 * l.idx)
  let s := { s with plink := s.plink.set l pl }
  let s := if told then s.mark (0x1403 + 0x100000 * l.idx) else s
  (s, (if told then [⟨[l], 0x1403, 0, leBytes 2 pl.early, false⟩] else []) ++
    match q with
    | some (c, d) => [⟨[l], c, n, d, false⟩]
    | none => [])

/-- Every active lane forms a record of a stream (R410). -/
def State.formAll (s : State) (n typ stream epoch : Nat) (payload : List Nat) : State × List Raising :=
  (lanes.filter s.active).foldl
    (fun (x : State × List Raising) l =>
      let (s, f) := x.1.form l n typ stream epoch payload
      (s, x.2 ++ f)) (s, [])

/-! ### Rate and repeat -/

/-- The bucket of a code, new or known, or the one shared by codes beyond 512 (R443). -/
def bucketOf (bs : List Bucket) (rest : Bucket) (code burst up : Nat) : Bucket :=
  match bs.find? (fun b => b.code == code) with
  | some b => b
  | none => if bs.length < 512 then ⟨code, burst, 0, up, false, none⟩ else rest

/-- A bucket with the tokens it has gained since, never more than BURST. -/
def Bucket.fill (b : Bucket) (rate burst up : Nat) : Bucket :=
  let g := (up - b.first) * rate / 1000000000
  { b with tokens := min burst (b.tokens + (g - b.gained)), gained := g }

/-- A bucket put back. -/
def putBucket (b : Bucket) : List Bucket → List Bucket
  | [] => [b]
  | c :: l => if c.code = b.code then b :: l else c :: putBucket b l

/-- A bucket kept: its own, or the shared one. -/
def keepBucket (b : Bucket) (code : Nat) (bs : List Bucket) (rest : Bucket) : List Bucket × Bucket :=
  if b.code = code then (putBucket b bs, rest) else (bs, b)

/-- Codes that take no tokens and are never dropped (R443). -/
def unlimited (code : Nat) : Bool :=
  code == 0x0C01 || code == 0x0C06 || code == 0x1202 || (decide (0x1701 ≤ code) && decide (code ≤ 0x1704)) ||
    code / 0x100 == Pg.SAFE

/-- The lane whose EVR_RL and EVR_SUPPk the intake uses: lane A's, or those of the lane in authority while lane A is not
running (R449). -/
def State.evrLane (s : State) : Lane := if !s.running .a && s.isAuth .b then .b else .a

/-- Does an active EVR_SUPPk entry match a code (R443)? -/
def State.suppressed (s : State) (code : Nat) : Bool :=
  (List.range 8).any fun k =>
    let c := s.get s.evrLane (F.EVR_SUPPk_CODE k)
    let m := s.get s.evrLane (F.EVR_SUPPk_MASK k)
    c != 0 && Nat.land (Nat.xor code c) m == 0

/-- Do two raisings of different lanes count as one event (R441)? -/
def sameEvent (e f : EvRec) : Bool :=
  e.code == f.code && e.unit == f.unit && e.epoch == f.epoch && e.data == f.data && e.lane != f.lane

/-! ### The exporter (R413, R434) -/

/-- The EVENT record of the entries collected, given to both lanes. -/
def State.sendBatch (s : State) : State × List Raising :=
  match s.exporter.batch with
  | [] => (s, [])
  | es =>
    let ep := s.exporter.epoch
    ({ s with exporter := { s.exporter with batch := [], waits := false } } : State).formAll 3 0x04 0x05 ep
      ([es.length, 0, 0, 0] ++ es.flatMap evBytes)

/-- The last entry of a batch, changed. -/
def mapLast {α : Type} (f : α → α) : List α → List α
  | [] => []
  | [x] => [f x]
  | x :: y :: l => x :: mapLast f (y :: l)

/-- An export entry enters the exporter. -/
def State.exportEntry (s : State) (e : EvRec) : State × List Raising :=
  let x := s.exporter
  let recent := x.recent.filter fun r => decide (s.up ≤ r.1 + 1000000)
  if recent.any (fun r => sameEvent r.2 e) then (s, [])
  else if s.suppressed e.code then (s, [])
  else
    let x := { x with recent := recent ++ [(s.up, e)] }
    let again := match x.last with
      | some f => x.waits && f.code == e.code && f.lane == e.lane && f.unit == e.unit
      | none => false
    if again then
      ({ s with exporter := { x with batch := mapLast (fun f => { f with rep := satInc 0xFFFF f.rep }) x.batch } }, [])
    else
      let burst := s.get s.evrLane F.EVR_RL_BURST
      let b := (bucketOf x.buckets x.rest e.code burst s.up).fill (s.get s.evrLane F.EVR_RL_RATE) burst s.up
      if !unlimited e.code && b.tokens == 0 then
        let k := keepBucket { b with rl := true } e.code x.buckets x.rest
        ({ s with exporter := { x with buckets := k.1, rest := k.2 } }, [])
      else
        let k := if unlimited e.code then (x.buckets, x.rest)
          else keepBucket { b with tokens := b.tokens - 1, rl := false } e.code x.buckets x.rest
        let e := { e with rl := !unlimited e.code && b.rl }
        let ep := if x.batch.isEmpty then s.snapEpoch else x.epoch
        let since := if x.batch.isEmpty then s.up else x.since
        let s := { s with exporter := { x with
          batch := x.batch ++ [e], epoch := ep, since := since, last := some e, waits := true, buckets := k.1, rest := k.2 } }
        if s.exporter.batch.length = 32 ∨ s.get s.evrLane F.PLNK_EVT_BATCH_US = 0 then s.sendBatch else (s, [])

/-! ### The ICU's intake -/

/-- An ICU slot with 0 in every field (R430). -/
def IcuSlot.zero : IcuSlot :=
  ⟨0, 0, false, false, false, false, 0, 0, 0, 0, 0, 0, 0, false, false, 0, false, false, false, 0, none⟩

/-- A slot of an ICU. -/
def Icu.slot (i : Icu) (k : Nat) : IcuSlot := sget (fun _ => IcuSlot.zero) i.slots k

/-- A slot of an ICU written back. -/
def Icu.setSlot (i : Icu) (k : Nat) (x : IcuSlot) : Icu :=
  { i with slots := sput (fun _ => IcuSlot.zero) i.slots k x }

/-- Does a slot match a code (R429)? -/
def IcuSlot.hits (x : IcuSlot) (code : Nat) : Bool := x.en && Nat.land (Nat.xor code x.code) x.mask == 0

/-- The slot that takes a raising: most MASK bits, then the lowest number (R429). -/
def bestSlot (code : Nat) : List (Nat × IcuSlot) → Option (Nat × IcuSlot)
  | [] => none
  | x :: l =>
    match bestSlot code l with
    | none => if x.2.hits code then some x else none
    | some y => if x.2.hits code && decide (popCount 16 y.2.mask ≤ popCount 16 x.2.mask) then some x else some y

/-- The target at which a slot now stands (R437, R438). -/
def IcuSlot.now (x : IcuSlot) : Nat := if x.moved then x.fb else x.target

/-- Is a slot masked in ICU_MASKn? -/
def State.icuMasked (s : State) (l : Lane) (k : Nat) : Bool := bitAt (s.get l (F.ICU_MASKn_MASK (k / 32))) (k % 32)

/-- A pending slot's moderation lets it through (R432), or for a LEGACY slot its group does not hold off (R433). -/
def IcuSlot.through (x : IcuSlot) (holding : Bool) : Bool :=
  if x.legacy then !holding else decide (x.cnt ≤ x.count) || x.timed

/-- Does a legacy group hold off (R433)? -/
def Icu.holds (i : Icu) (g : Nat) : Bool := i.holding.any (·.1 == g)

/-- Is a slot deliverable to a core, its mask, its enable and the disable of its target aside? -/
def State.icuReady (s : State) (l : Lane) (t k : Nat) (x : IcuSlot) : Bool :=
  x.pend && !x.insvc && x.through ((s.icu.get l).holds (k / 16)) && x.now == t &&
    decide (s.get l (F.ICU_Tt_THR_THR t) ≤ x.prio)

/-- Is a slot deliverable to target `t` (R431)? -/
def State.icuDeliverable (s : State) (l : Lane) (t k : Nat) (x : IcuSlot) : Bool :=
  s.icuReady l t k x && x.en && !s.icuMasked l k && !bitAt (s.get l F.ICU_GDIS_DIS) t

/-- The slot, with the instant since which it waits for a sleeping target kept, begun or dropped. -/
def IcuSlot.wait (x : IcuSlot) (waits : Bool) (up : Nat) : IcuSlot :=
  { x with waitAt := if waits then some (x.waitAt.getD up) else none }

/-- A slot with WAKE that is deliverable to a sleeping target wakes it; a slot that has moved to FB wakes nobody. Every
other slot that is deliverable to a sleeping target waits (R438). -/
def State.icuRouse (s : State) (l : Lane) : State :=
  let i := s.icu.get l
  let woken := i.slots.filterMap fun x =>
    if x.2.wake && !x.2.moved && s.icuDeliverable l x.2.now x.1 x.2 then some x.2.now else none
  let sleep := i.sleep.filter fun t => !woken.contains t
  { s with icu := s.icu.set l { i with
    sleep := sleep
    slots := i.slots.map fun x => (x.1, x.2.wait (sleep.contains x.2.now && s.icuDeliverable l x.2.now x.1 x.2) s.up) } }

/-- The slot after it has taken a raising; a slot of target 3 hands it to the exporter at once and keeps nothing pending
(R434). -/
def IcuSlot.take (x : IcuSlot) (code up : Nat) : IcuSlot :=
  if x.target = 3 then { x with last := code }
  else { x with
    count := satInc 255 x.count, last := code, pend := true, timed := x.timed && x.pend
    firstAt := if x.pend then x.firstAt else up }

/-- An export entry, while DIS[3] holds entries back, waits in the 64-entry buffer (R434). -/
def State.exportFrom (s : State) (l : Lane) (e : EvRec) : State × List Raising :=
  if bitAt (s.get l F.ICU_GDIS_DIS) 3 then
    let i := s.icu.get l
    if i.expBuf.length < 64 then ({ s with icu := s.icu.set l { i with expBuf := i.expBuf ++ [e] } }, [])
    else
      let i := { i with lost := satInc 0xFF i.lost }
      ({ s with icu := s.icu.set l i }, if e.code = 0x1602 then [] else [⟨[l], 0x1602, 0, [i.lost, i.lostLull], false⟩])
  else s.exportEntry e

/-- A raising enters a lane's ICU: the best slot takes it, or it is counted as unmatched (R429, R434). -/
def State.icuTake (s : State) (l : Lane) (e : EvRec) : State × List Raising :=
  let i := s.icu.get l
  match bestSlot e.code i.slots with
  | none => ({ s with icu := s.icu.set l { i with unmatched := satInc 0xFFFF i.unmatched } }, [])
  | some (k, x) =>
    let s := { s with icu := s.icu.set l (i.setSlot k (x.take e.code s.up)) }
    let s := s.icuRouse l
    if x.target = 3 ∨ x.xcopy then s.exportFrom l e else (s, [])

/-- The loops whose trace waits for this event code are marked (R294). -/
def State.traceMark (s : State) (l : Lane) (code : Nat) : State :=
  let i := s.icu.get l
  let ks := (List.range 8).filter fun k => s.get l (F.CLE_Lk_TRC_CFG_SRC k) == 3 && s.get l (F.CLE_Lk_TRC_EVT_CODE k) == code
  { s with icu := s.icu.set l { i with trace := i.trace ++ ks.filter fun k => !i.trace.contains k } }

/-- A raising at a lane's ICU: taken if its event is enabled; in LULL it enters the always-on latch (R428, R439). -/
def State.icuIntake (s : State) (l : Lane) (e : EvRec) : State × List Raising :=
  if !s.evtEn l e.code || s.laneState l == 0 then (s, [])
  else
  let s := s.traceMark l e.code
  if s.mode = St.LULL then
    let i := s.icu.get l
    (if i.lull.length < 16 then { s with icu := s.icu.set l { i with lull := i.lull ++ [e] } }
      else { s with icu := s.icu.set l { i with lostLull := satInc 0xFF i.lostLull } }, [])
  else s.icuTake l e

/-! ### The recorder's intake -/

/-- The recorder slot reserved for LOG_FULL (R445). -/
def logFullSlot : Nat := 131071

/-- The raisings are held now: PWR_BO, a running clear, LULL, or a write index not known yet (R444, R446). -/
def State.recHolds (s : State) : Bool :=
  s.bo || s.recorder.clearing.isSome || s.mode == St.LULL || !s.recorder.known

/-- The pending REPEAT of the last record is written back to NV, as before each new record (R443). -/
def State.repeatBack (s : State) : State :=
  if s.recorder.dirty then
    let s' := { s with recorder := { s.recorder with dirty := false, backAt := s.up } }
    match s.recorder.last with
    | some (k, e) => s'.nvWrite (32 * k) k (.event e)
    | none => s'
  else s

/-- A record is written to the slot at the write index, or LOG_FULL in its place (R443, R445). -/
def State.recWrite (s : State) (e : EvRec) : State :=
  let s := s.repeatBack
  let n := s.recorder.index
  if n < logFullSlot then
    ({ s with recorder := { s.recorder with index := n + 1, last := some (n, e) } } : State).nvWrite (32 * n) n (.event e)
  else if n = logFullSlot then
    let f := { e with
      code := 0x1701, lane := 2, unit := 0, rl := false, rep := 0
      data := leBytes 2 e.code ++ leBytes 2 (e.lane * 2 ^ 14 + e.unit % 2 ^ 12) }
    ({ s with recorder := { s.recorder with index := n + 1, last := some (n, f), full := true } } : State).nvWrite
      (32 * n) n (.event f)
  else
    { s with recorder := { s.recorder with
      last := s.recorder.last.map fun x => (x.1, { x.2 with rep := satInc 0xFFFF x.2.rep }), dirty := true } }

/-- The event 0x1701 of the write that finds only the last slot left (R445). -/
def State.fullRaising (s : State) : List Raising :=
  if s.recorder.index = logFullSlot then [⟨lanes, 0x1701, 0, [], false⟩] else []

/-- A raising is treated: repeat, rate, write (R443, steps 2 to 4). The answer lists the events this raises. -/
def State.recTreat (s : State) (e : EvRec) : State × List Raising :=
  let again := match s.recorder.last with
    | some (_, f) => f.code == e.code && f.lane == e.lane && f.unit == e.unit
    | none => false
  if again then
    ({ s with recorder := { s.recorder with
      last := s.recorder.last.map fun x => (x.1, { x.2 with rep := satInc 0xFFFF x.2.rep }), dirty := true } }, [])
  else if unlimited e.code then (s.recWrite e, s.fullRaising)
  else
    let x := s.recorder
    let burst := s.get s.evrLane F.EVR_RL_BURST
    let b := (bucketOf x.buckets x.rest e.code burst s.up).fill (s.get s.evrLane F.EVR_RL_RATE) burst s.up
    let keep (b : Bucket) (s : State) : State :=
      let k := keepBucket b e.code s.recorder.buckets s.recorder.rest
      { s with recorder := { s.recorder with buckets := k.1, rest := k.2 } }
    if b.tokens = 0 then
      let tell := match b.warned with
        | some t => decide (t + 60000000000 ≤ s.up)
        | none => true
      let s := keep { b with rl := true, warned := if tell then some s.up else b.warned } s
      ({ s with recorder := { s.recorder with dropped := min 0xFFFFFFFF (s.recorder.dropped + 1) } },
        if tell then [⟨lanes, 0x1703, 0, leBytes 2 e.code, false⟩] else [])
    else
      ((keep { b with tokens := b.tokens - 1, rl := false } s).recWrite { e with rl := b.rl }, s.fullRaising)

/-- A raising enters the recorder's intake: one record per event, suppressed, held or treated (R441, R443, R444). The
records 0x1701 and 0x1702 are written by the intake itself (R445, R448). -/
def State.recIntake (s : State) (e : EvRec) : State × List Raising :=
  let recent := s.recorder.recent.filter fun r => decide (s.up ≤ r.1 + 1000000)
  if e.code = 0x1701 ∨ e.code = 0x1702 then (s, [])
  else if recent.any (fun r => sameEvent r.2 e && e.lane != 2) then
    let both (f : EvRec) : EvRec := if sameEvent f e then { f with lane := 2 } else f
    let hit := match s.recorder.last with
      | some (_, f) => sameEvent f e
      | none => false
    ({ s with recorder := { s.recorder with
      recent := recent.map (fun r => (r.1, both r.2)),
      held := s.recorder.held.map both,
      last := s.recorder.last.map (fun x => (x.1, both x.2)), dirty := s.recorder.dirty || hit } }, [])
  else
    let s := { s with recorder := { s.recorder with recent := if e.lane = 2 then recent else recent ++ [(s.up, e)] } }
    if s.suppressed e.code then (s, [])
    else if s.recHolds then
      (if s.recorder.held.length < 64 then
        { s with recorder := { s.recorder with held := s.recorder.held ++ [{ e with held := true }] } }
      else
        { s with recorder := { s.recorder with lost := satInc 0xFFFF s.recorder.lost, overflow := true } }, [])
    else s.recTreat e

/-! ### Raising -/

/-- The event record of a raising, as its page sees it at this instant (R442). -/
def State.stamp (s : State) (r : Raising) : EvRec :=
  let page := r.code / 0x100
  let l := r.lanes.headD .a
  ⟨r.code, if sharedPage page || 2 ≤ r.lanes.length then 2 else l.idx, r.unit, s.nv.opsec, r.test, false, false,
    s.nv.pwrcyc % 2 ^ 24, (s.rd l page 0x028).toNat, 0, r.data⟩

/-- One raising: the page's event registers, the ICU of each lane that sees it, the recorder. The answer lists the events
that follow from it. -/
def State.raiseOne (s : State) (r : Raising) : State × List Raising :=
  let e := s.stamp r
  let s := r.lanes.foldl (fun s l => s.latch l (r.code / 0x100 % 0x100) (evtBit r.code)) s
  let x := r.lanes.foldl (fun (x : State × List Raising) l =>
    let (s, f) := x.1.icuIntake l e
    (s, x.2 ++ f)) (s, [])
  let (s, g) := x.1.recIntake e
  (s, x.2 ++ g)

/-- Raisings in order, then the events that follow from them, up to a depth. The chains end of themselves: each event
that follows is raised once per minute, once per read or once per lost entry. -/
def raiseAll : Nat → State → List Raising → State
  | 0, s, _ => s
  | n + 1, s, rs =>
    let x := rs.foldl (fun (x : State × List Raising) r =>
      let (s, f) := x.1.raiseOne r
      (s, x.2 ++ f)) (s, [])
    if x.2.isEmpty then x.1 else raiseAll n x.1 x.2

/-- The depth of `raiseAll`. -/
def raiseDepth : Nat := 6

/-- An event of a shared page, or one that both lanes raise. -/
def State.ev (s : State) (code : Nat) (unit : Nat := 0) (data : List Nat := []) : State :=
  raiseAll raiseDepth s [⟨lanes, code, unit, data, false⟩]

/-- An event of a lane's page. -/
def State.evL (s : State) (l : Lane) (code : Nat) (unit : Nat := 0) (data : List Nat := []) : State :=
  raiseAll raiseDepth s [⟨[l], code, unit, data, false⟩]

/-- An event raised where a condition holds. -/
def State.evIf (s : State) (c : Bool) (code : Nat) (unit : Nat := 0) (data : List Nat := []) : State :=
  if c then s.ev code unit data else s

/-- A lane forms a record, with the events this raises. -/
def State.emit (s : State) (l : Lane) (n typ stream epoch : Nat) (payload : List Nat) : State :=
  let (s, f) := s.form l n typ stream epoch payload
  raiseAll raiseDepth s f

/-- Every active lane forms a record of a stream, with the events this raises (R410). -/
def State.emitAll (s : State) (n typ stream epoch : Nat) (payload : List Nat) : State :=
  let (s, f) := s.formAll n typ stream epoch payload
  raiseAll raiseDepth s f

/-- The batch of collected EVENT entries is sent (R413). -/
def State.sendEvents (s : State) : State :=
  let (s, f) := s.sendBatch
  raiseAll raiseDepth s f

end Sys2Proof.Machine
end

