-- ==== Sys2Proof/Machine/Show.lean ====
section
/-! DEFINITION. What a register shows: the stored word, or the word that a page forms from the state of its block (R75 to R83
and the register tables of the pages); the page epoch (R78); the end of a command. -/

namespace Sys2Proof.Machine

open Sys2Proof

/-! ### What the pages form their words from -/

/-- An ID of which nothing is known yet. -/
def MonInfo.none : MonInfo :=
  ⟨false, false, 0, false, 0, 0, 0, List.replicate 13 ⟨0, 0, false⟩, 0, 0, 0, 16, 0, false⟩

/-- What the chain master keeps of an ID. -/
def Chain.inf (c : Chain) (k : Nat) : MonInfo := sget (fun _ => MonInfo.none) c.info k

/-- CHAIN_CFG.MON_COUNT. -/
def State.monCount (s : State) : Nat := s.g F.CHAIN_CFG_MON_COUNT

/-- Balancing of a position of which nothing is known. -/
def BalPos.zero : BalPos := ⟨0, 0, 0, 0, 0, false, false, 0, 0⟩

/-- A monitor of which the bleed model knows nothing. -/
def BalMon.zero : BalMon := ⟨0, 16, 0⟩

/-- A position's bleed model, replaced. -/
def Bal.setPos (b : Bal) (p : Nat) (x : BalPos) : Bal := { b with pos := sput (fun _ => BalPos.zero) b.pos p x }
def Bal.at1 (b : Bal) (p : Nat) : BalPos := sget (fun _ => BalPos.zero) b.pos p

/-- A trace at rest, and a loop at reset. -/
def Trace.zero : Trace := ⟨false, 0, 0, 0, none, none, false, 0⟩
def Loop.zero : Loop := ⟨0, 0, List.replicate 16 0, 0, 0, 0, none, [], [], none, 0, false, Trace.zero⟩

/-- A lane's loop `k`. -/
def State.loop (s : State) (l : Lane) (k : Nat) : Loop := sget (fun _ => Loop.zero) (s.cle.get l).loops k

/-- The gain table at reset: error i − 32, gain 1.0 (R284). -/
def gtReset : List (Nat × Nat) := (List.range 64).map fun i => (f32Of ((i : Rat) - 32), 0x3F800000)
def gtOf (l : List (Nat × Nat)) : List (Nat × Nat) := if l.isEmpty then gtReset else l

/-- CLE_GT_ERR and CLE_GT_GAIN read the active table. -/
def State.gtRead (s : State) (l : Lane) (gain : Bool) : Nat :=
  let p := (gtOf (s.loop l (s.get l F.CLE_GT_SEL_LOOP)).gt).getD (s.get l F.CLE_GT_SEL_IDX) (0, 0)
  if gain then p.2 else p.1

/-- The table entry of a key, none while unlearned (R184). -/
def Est.entry (e : Est) (key : Nat) : Option (Nat × Nat) := (e.table.find? (fun x => x.1 == key)).map (·.2)

/-- EIS_TBL_RE of the entry that EIS_TBL_IDX selects, with the imaginary part that the read latches. -/
def State.tblWords (s : State) (l : Lane) : Nat × Nat :=
  let key := 128 * (s.get l F.EIS_TBL_IDX_POS - 1) + 16 * s.get l F.EIS_TBL_IDX_BIN + s.get l F.EIS_TBL_IDX_FREQ
  ((s.est.get l).entry key).getD (0x7FC00000, 0x7FC00000)

/-- Fields of an ORDER payload. -/
def JCommit.typ (c : JCommit) : Nat := c.order.headD 0
def JCommit.toe (c : JCommit) : Bool := bitAt (c.order.getD 1 0) 0
def JCommit.wait (c : JCommit) : Bool := bitAt (c.order.getD 1 0) 1
def JCommit.len (c : JCommit) : Nat := leAt c.order 2 2
def JCommit.expUs (c : JCommit) : Nat := leAt c.order 4 4
def JCommit.tEff (c : JCommit) : Nat := leAt c.order 8 8

/-- The sequence of the order that executes next. -/
def Orders.front (o : Orders) : Nat := (o.oldest + o.finishing.length) % 2 ^ 32

/-- A journal in one MRAM only. -/
def State.ordSingle (s : State) : Bool := s.nv.aOk != s.nv.bOk

/-- The first instant of the execution grid at or after `t` (R314). -/
def State.gridUp (s : State) (t : Nat) : Nat :=
  let g := s.clock.origin
  g + (t - g + 49999) / 50000 * 50000

/-- The order that executes next, where it is committed. -/
def State.ordFront (s : State) : Option OrderEnt := s.orders.flight.find? fun e => e.unit.seq == s.orders.front

/-- The hold of R319 on the order that executes next: its bit of ORD_STAT, other than a time of effect to come. -/
def State.ordHold (s : State) (e : OrderEnt) : Option Nat :=
  if s.orders.contactor.isSome then some 6
  else if s.mode ≠ St.OPERATE then some 5
  else if s.bo then some 4
  else if e.unit.toe && !s.gb F.TIME_STAT_STEPPED then some 2
  else none

/-- The execution instant of an order (R315): after a reset its commit lies before every instant of the counter. -/
def State.ordInstant (s : State) (e : OrderEnt) : Nat :=
  s.gridUp (max (max (if e.resumed then 0 else e.unit.tc) s.orders.lastTd) (if e.unit.toe then e.unit.tEff else 0))

/-- SYS_STATE with its mirrors (R100). -/
def State.sysState (s : State) : Nat :=
  s.mode + 2 ^ 9 * s.g F.SYS_PRESENCE_OPEN + 2 ^ 10 * s.g F.SYS_STATE_OWNER_LOCK + 2 ^ 11 * b2n s.nv.j1 +
    2 ^ 12 * s.g F.SAFE_LOCKOUT_LATCHED + 2 ^ 13 * s.g F.SYS_STATE_THROTTLED + 2 ^ 14 * b2n s.inMotion +
    2 ^ 15 * b2n s.bo + 2 ^ 16 * s.g F.TIME_STAT_QUAL

/-- May a lane's port send HPP records (R358, R403, R425)? -/
def State.portOn (s : State) (l : Lane) : Bool :=
  s.active l && s.getB l F.PLNK_STAT_LINK_UP && !s.getB l F.PLNK_STAT_DAD_FAIL && s.getB l F.PLNK_CTRL_ENABLE

/-- The words of the slot that ICU_SEL names, as its four registers show it. -/
def State.icuSlotRead (s : State) (l : Lane) (off : Nat) : Nat :=
  let k := s.get l F.ICU_SEL_SLOT
  let x := (s.icu.get l).slot k
  if off = 0x04C then x.code * 2 ^ 16 + x.mask
  else if off = 0x050 then
    b2n x.en * 2 ^ 31 + b2n x.legacy * 2 ^ 30 + b2n x.wake * 2 ^ 29 + b2n x.xcopy * 2 ^ 28 + x.prio * 2 ^ 24 +
      x.target * 2 ^ 22 + x.fb * 2 ^ 20
  else if off = 0x054 then x.cnt * 2 ^ 24 + x.timeUs
  else
    let waits := x.pend && !x.through ((s.icu.get l).holds (k / 16))
    x.count * 2 ^ 24 + x.last * 2 ^ 8 + b2n x.pend * 2 ^ 7 + b2n x.insvc * 2 ^ 6 + b2n x.rerouted * 2 ^ 5 + b2n waits * 2 ^ 4

/-- ICU_PENDn. -/
def State.icuPend (s : State) (l : Lane) (n : Nat) : Nat :=
  ((s.icu.get l).slots.map fun x => if x.2.pend && x.1 / 32 == n then 2 ^ (x.1 % 32) else 0).sum

/-- ICU_STAT, and the counters of ICU_UNMATCHED. -/
def State.icuStat (s : State) (l : Lane) : Nat :=
  let i := s.icu.get l
  let lines := ((List.range 4).map fun t => if i.slots.any fun x => s.icuDeliverable l t x.1 x.2 then 2 ^ t else 0).sum
  let asleep := ((List.range 3).map fun t => if i.sleep.contains t then 2 ^ t else 0).sum
  b2n i.restored * 2 ^ 8 + lines * 2 ^ 4 + asleep
def State.icuUnmatched (s : State) (l : Lane) : Nat :=
  let i := s.icu.get l
  i.lostLull * 2 ^ 24 + i.lost * 2 ^ 16 + i.unmatched

/-- A slot without an image. -/
def Slot.empty : Slot := ⟨0, none, 0, 0, []⟩

/-- An image slot of one flash; a slot that is written holds no fault any more. -/
def FlashStore.slot (f : FlashStore) (k : Nat) : Slot := if k = 0 then f.slots.a else f.slots.b
def FlashStore.setSlot (f : FlashStore) (k : Nat) (x : Slot) : FlashStore :=
  { f with
    slots := if k = 0 then { f.slots with a := x } else { f.slots with b := x }
    faults := f.faults.filter fun z => z.1 != k }

/-- Both flashes are written together (R462). -/
def Flash.both (f : Flash) (g : FlashStore → FlashStore) : Flash := { f with lane := ⟨g f.lane.a, g f.lane.b⟩ }
def Flash.setSlot (f : Flash) (k : Nat) (x : Slot) : Flash := f.both (·.setSlot k x)

/-- The slot of an index as a lane's flash holds it, the slot that the boot record with the higher SEQ names, and the other
one, which is staged. -/
def Flash.slot (f : Flash) (l : Lane) (k : Nat) : Slot := (f.lane.get l).slot k
def Flash.active (f : Flash) : Nat := if f.lane.a.bootSeq < f.lane.b.bootSeq then f.lane.b.active else f.lane.a.active
def Flash.idle (f : Flash) : Nat := 1 - f.active

/-- Both boot records name a slot, with the next SEQ. -/
def Flash.nameSlot (f : Flash) (k : Nat) : Flash :=
  f.both fun z => { z with active := k, bootSeq := max f.lane.a.bootSeq f.lane.b.bootSeq + 1 }

/-- Both flashes hold a complete image in the slot; both hold the configuration package. -/
def Flash.complete (f : Flash) (k : Nat) : Bool := (f.slot .a k).st == 2 && (f.slot .b k).st == 2
def Flash.package (f : Flash) : Option (List Nat) := if f.lane.a.package = f.lane.b.package then f.lane.a.package else none
def Flash.setPackage (f : Flash) (x : Option (List Nat)) : Flash := f.both fun z => { z with package := x }

/-- Does a lane's firmware run? -/
def State.kicks (s : State) (l : Lane) : Bool :=
  decide (2 ≤ s.laneState l) && decide (s.laneState l ≤ 5) && s.mode != St.LULL && s.mode != St.SHUTDOWN

/-! ### The excitation of a window (R167, R168) -/

/-- A word of a window's plan, by its register offset. -/
def EisWin.word (w : EisWin) (off : Nat) : Word := w.plan.getD ((off - 0x040) / 4) 0

/-- The fields of a window's plan. -/
def EisWin.passive (w : EisWin) : Bool := getBits (w.word 0x040) 31 31 == 1
def EisWin.cont (w : EisWin) : Bool := getBits (w.word 0x040) 30 30 == 1
def EisWin.profile (w : EisWin) : Nat := getBits (w.word 0x040) 25 24
def EisWin.fmask (w : EisWin) : Nat := getBits (w.word 0x040) 15 0

/-- The effective peak in 0.1 A: the smallest of EIS_AMP.PEAK, 25 A and 2 % of the converter's rated current (R167). -/
def State.effPeak (s : State) (peak : Nat) : Nat := min (min peak 250) (s.g F.CLINK_RATED_I_RATED / 5)

/-- The smallest n for which T0 + n × P is at or after an instant. -/
def gridIndex (t0 p t : Nat) : Nat := if p = 0 then 0 else (t - t0 + (p - 1)) / p

/-- The latest sample instant. -/
def State.sampledAt (s : State) : Option Nat :=
  match s.forming with
  | some f => some f.t
  | none => s.snap.map fun (n : Snap) => n.t

/-- The instant at which a prepared window starts: the first sample instant at or after its earliest instant. -/
def State.eisBegin (s : State) (e : Eis) : Option Nat :=
  s.clock.next.map fun x =>
    if e.notBefore ≤ x.2 ∨ s.clock.p = 0 then x.2 else x.2 + gridIndex x.2 s.clock.p e.notBefore * s.clock.p

/-- The amplitude that a fade-out still has at an instant: it falls linearly from what it was. -/
def Eis.fadeOut (e : Eis) (t : Nat) : Rat :=
  match e.fade with
  | some (t0, a, d) => if d = 0 ∨ t0 + d ≤ t then 0 else a * (1 - ((t - t0 : Nat) : Rat) / d)
  | none => 0

/-- The amplitude of the excitation at an instant, 1 in full: it rises over FADE before the window and is full in it; after it
the fade-out stands. -/
def State.envelope (s : State) (e : Eis) (t : Nat) : Rat :=
  let fade := getBits (e.cur.word 0x054) 15 0 * 1000000
  if e.cur.passive then 0
  else if e.phase = 2 then 1
  else if e.phase = 1 then
    max (e.fadeOut t) (match s.eisBegin e with
      | some b => if b ≤ t ∨ e.notBefore = 0 then 1
        else if fade = 0 ∨ t + fade ≤ b then 0 else 1 - ((b - t : Nat) : Rat) / fade
      | none => 0)
  else e.fadeOut t

/-- Is the excitation's amplitude above 0 (R191)? -/
def State.exciting (s : State) (l : Lane) : Bool :=
  let e := s.eis.get l
  decide (0 < s.envelope e s.clock.count) && decide (0 < s.effPeak (getBits (e.cur.word 0x048) 11 0))

/-! ### Words formed by the pages -/

/-- Whole units of `d` left until an `up` instant. -/
def State.left (s : State) (t d : Nat) : Nat := (t - s.up) / d

/-- The common header (R76 to R83): ID, VER, EVT, the test set and the lock. DESIGN CHOICE: VER reads 0x00010000 on every
page, for R76 gives its value only as "per page" (notes/assumptions/20). -/
def State.headerView (s : State) (l : Lane) (page off : Nat) : Nat :=
  if off = 0x000 then (0x5300 + page) * 2 ^ 16 + (if sharedPage page then 0xFF else l.idx) * 2 ^ 8 + page
  else if off = 0x004 then 0x00010000
  else if off = 0x018 then (s.rd l page 0x018 &&& s.rd l page 0x014).toNat
  else if off = 0x024 then
    let w := (s.lockWord l page).toNat / 2 ^ 16 * 2 ^ 16
    if bitAt w 31 then w + min 0xFFFF (s.left (sget (fun _ => 0) s.lockT (regKey page 0x024 l)) 10000000) else 0
  else if off = 0x01C ∨ 0x02C ≤ off then 0
  else (s.rd l page off).toNat

/-- SYS_PRESENCE but for PRESSED, which nothing of the module holds. -/
def State.presenceWord (s : State) : Nat :=
  let left := (s.pwr.presence.map fun t => min 120 (s.left (t + 999999999) 1000000000)).getD 0
  s.g F.SYS_PRESENCE_OPEN * 2 ^ 31 + left

/-- SYS (R100): the mirrors, the presence window, the life counters. -/
def State.sysView (s : State) (l : Lane) (off : Nat) : Option Nat :=
  match off with
  | 0x00C => some (l.idx + 2 * b2n (s.isAuth l))
  | 0x040 => some s.sysState
  | 0x044 => some (s.presenceWord + Config.measured (regKey Pg.SYS 0x044 .a) s.up % 2 * 2 ^ 30)
  | 0x054 => some (s.nv.opsec % 2 ^ 32)
  | 0x058 => some (s.nv.pwrcyc % 2 ^ 32)
  | _ => none

/-- NVM (R103 to R106). -/
def State.nvmView (s : State) (off : Nat) : Option Nat :=
  let n := s.nv
  match off with
  | 0x00C =>
    some (n.cfgSlot % 2 * 2 ^ 7 + b2n n.sealed.isSome * 2 ^ 6 + b2n n.j1 * 2 ^ 5 + b2n s.bo * 2 ^ 4 + b2n n.busy.isSome * 2 ^ 3 +
      b2n (n.aOk && n.bOk) * 2 ^ 2 + b2n n.bOk * 2 + b2n n.aOk)
  | 0x040 => some n.writes
  | 0x048 => some (b2n n.commit.isSome * 2)
  | 0x04C => some n.cfgSeq
  | 0x050 => some (n.removals * 2 ^ 16 + b2n n.j1)
  | 0x054 => some (n.sealed.getD 0)
  | _ => none

/-- Does the chain master send SAMPLE at all (R113, R136, R141)? -/
def State.samples (s : State) : Bool :=
  s.gb F.CHAIN_CTRL_ENABLE && !s.chain.wiring && s.mode != St.LULL && s.mode != St.SHUTDOWN

/-- CHAIN: whether it samples, a gap long enough for an open-wire round (R130), and the serials of the ID that CHAIN_SER_SEL
names (R135). -/
def State.chainView (s : State) (off : Nat) : Option Nat :=
  let i := s.chain.inf (s.g F.CHAIN_SER_SEL_MON)
  match off with
  | 0x00C =>
    let m := max (s.g F.CHAIN_LOAD_M_E) (s.g F.CHAIN_LOAD_M_W)
    let run := s.clock.ringAt.isSome && s.samples
    some (setBits (setBits (s.rd .a Pg.CHAIN 0x00C) 6 6 (b2n (s.g F.SNAP_PERIOD_P == 0 && decide (33 ≤ m)))) 0 0 (b2n run)).toNat
  | 0x0A4 => some i.serCfg
  | 0x0A8 => some (i.serCfg / 2 ^ 32)
  | 0x0AC => some i.serEnum
  | 0x0B0 => some (i.serEnum / 2 ^ 32)
  | _ => none

/-- MEAS: the live coulomb count in µC (R150). -/
def State.measView (s : State) (off : Nat) : Option Nat :=
  let q := ofSigned 64 (s.front.q / 2 ^ 32)
  match off with
  | 0x04C => some q
  | 0x050 => some (q / 2 ^ 32)
  | _ => none

/-- EIS: EXCITING (R191), and the table entry that EIS_TBL_IDX selects (R184). -/
def State.eisView (s : State) (l : Lane) (off : Nat) : Option Nat :=
  match off with
  | 0x00C => some (setBits (s.rd l Pg.EIS 0x00C) 0 0 (b2n (s.exciting l))).toNat
  | 0x080 => some (s.tblWords l).1
  | 0x084 => some (s.tblWords l).2
  | _ => none

/-- EST: the selected row of the latest output block (R227). -/
def State.estView (s : State) (l : Lane) (off : Nat) : Option Nat :=
  if 0x0A0 ≤ off ∧ off < 0x0C0 then
    some (leAt (s.est.get l).out (0x40 + 32 * (s.get l F.EST_POS_SEL_POS - 1) + (off - 0x0A0)) 4)
  else none

/-- A monitor above MON_COUNT: 0 with QUAL 0x81 (R153). -/
def MonSnap.none : MonSnap :=
  ⟨List.replicate 12 0, List.replicate 12 0x81, List.replicate 12 0, List.replicate 12 0x81, 0, List.replicate 8 0,
    List.replicate 8 0x81, 0, 0, 0x81, List.replicate 12 0⟩

/-- Is lead `n` of an ID declared open? -/
def MonInfo.openLead (i : MonInfo) (n : Nat) : Bool := (i.leads.getD n ⟨0, 0, false⟩).isOpen

/-- Position `n` (1 to 12) of a monitor is next to the leads Cn−1 and Cn (R130, R131). -/
def MonInfo.openWire (i : MonInfo) (n : Nat) : Bool := i.openLead (n - 1) || i.openLead n

/-- The part of a position, counted from 1, in a snapshot. -/
def Snap.monOf (n : Snap) (p : Nat) : MonSnap := (n.mons[(p - 1) / 12]?).getD (MonSnap.none)

/-- The monitor of a position. -/
def monOfPos (p : Nat) : Nat := (p - 1) / 12 + 1

/-- A stop cause of R237 holds a position: an open lead next to it, its monitor's BLEED_FAULT, its coarse verdict LOW. -/
def State.heldStop (s : State) (n : Snap) (p : Nat) : Bool :=
  let i := s.chain.inf (monOfPos p)
  i.openWire ((p - 1) % 12 + 1) || bitAt i.status 12 || (n.monOf p).verdict.getD ((p - 1) % 12) 3 == 2

/-- A position's switch is on as the bleed model has it: its timer runs, in the on-part of its monitor's duty cycle (R238). -/
def Bal.lit (b : Bal) (p : Nat) : Bool :=
  let m := sget (fun _ => BalMon.zero) b.mons (monOfPos p)
  decide (0 < (b.at1 p).remain) && decide (m.phase < m.duty * 625000)

/-- BAL: BAL_STAT from the model, and the selected position (R231 to R239). -/
def State.balView (s : State) (l : Lane) (off : Nat) : Option Nat :=
  let b := s.bal.get l
  let p := s.get l F.BAL_POS_SEL_POS
  let x := b.at1 p
  let q := ofSigned 64 x.b.floor
  match off with
  | 0x00C => some (b2n b.waiting * 2 ^ 4 + b2n (b.pos.any fun x => x.2.bEst) * 2 ^ 3 + b2n (!b.due.isEmpty) * 2 ^ 2 +
      b2n (b.pos.any fun x => decide (0 < x.2.remain)) * 2 + b2n (s.getB l F.BAL_CTRL_ENABLE && s.mode == St.OPERATE))
  | 0x054 => some x.target
  | 0x058 =>
    some (b2n x.bEst * 2 ^ 19 + b2n x.excl * 2 ^ 18 + b2n (s.snap.any fun n => s.heldStop n p) * 2 ^ 17 + b2n (b.lit p) * 2 ^ 16 +
      min 0xFFFF (x.remain / 1000000))
  | 0x05C => some q
  | 0x060 => some (q / 2 ^ 32)
  | _ => none

/-- CLE: the active gain table (R284) and the fan speeds. -/
def State.cleView (s : State) (l : Lane) (off : Nat) : Option Nat :=
  match off with
  | 0x048 => some (s.gtRead l false)
  | 0x04C => some (s.gtRead l true)
  | 0x054 => some (Config.measured (regKey Pg.CLE 0x054 .a) s.up)
  | 0x058 => some (Config.measured (regKey Pg.CLE 0x058 .a) s.up)
  | _ =>
    if 0x100 ≤ off ∧ off < 0x500 ∧ off % 0x80 = 0x10 then
      let k := (off - 0x100) / 0x80
      let run := s.active l && s.mode != St.LULL && (s.getB l (F.CLE_Lk_CFG_EN k) || (k == 0 && s.mode != St.CONFIG))
      some ((s.rd l Pg.CLE off).toNat / 2 * 2 + b2n run)
    else none

/-- The holds and waits of the order that executes next, as bits of ORD_STAT. -/
def State.ordStat (s : State) : Nat :=
  let wait : Nat := match s.ordFront with
    | some e =>
      match s.ordHold e with
      | some 6 => 0
      | some k => 2 ^ k
      | none => b2n (e.unit.toe && decide (s.clock.count < s.gridUp e.unit.tEff)) * 2 ^ 3
    | none => 0
  b2n s.orders.gapAt.isSome * 2 ^ 7 + b2n s.orders.contactor.isSome * 2 ^ 6 + wait + b2n s.ordSingle * 2 + b2n s.orders.running

/-- ORD (R315, R319, R329). -/
def State.ordView (s : State) (off : Nat) : Option Nat :=
  let t := match s.ordFront with
    | some e => if (s.ordHold e).isSome then 2 ^ 64 - 1 else s.ordInstant e
    | none => 2 ^ 64 - 1
  match off with
  | 0x00C => some s.ordStat
  | 0x054 => some t
  | 0x058 => some (t / 2 ^ 32)
  | _ => none

/-- TALLY: the marker word that TALLY_M_SEL names. -/
def State.tallyView (s : State) (l : Lane) (off : Nat) : Option Nat :=
  if off = 0x07C then some ((s.tally.get l).markers / 2 ^ (32 * s.get l F.TALLY_M_SEL_WORD)) else none

/-- The watchdog time left in 0.1 ms (R356). -/
def State.wdogLeft (s : State) (l : Lane) : Nat := if s.kicks l then s.left (s.lane.kick.get l + 20000000) 100000 else 200

/-- LANE: the watchdogs. -/
def State.laneView (s : State) (off : Nat) : Option Nat :=
  if off = 0x050 then some (s.wdogLeft .b * 2 ^ 16 + s.wdogLeft .a) else none

/-- PLNK (R416, R418, R419, R425). -/
def State.plnkView (s : State) (l : Lane) (off : Nat) : Option Nat :=
  let p := s.plink.get l
  match off with
  | 0x00C =>
    some (setBits (setBits (s.rd l Pg.PLNK 0x00C) 4 4 (b2n (!p.resend.isEmpty))) 0 0 (b2n (s.portOn l))).toNat
  | 0x0B0 =>
    let age := (p.store.head?.map fun r => (s.up - r.since) / 1000000000).getD 0
    some (min 0xFFFF age * 2 ^ 16 + p.early)
  | 0x0B4 => some (setBits (s.rd l Pg.PLNK 0x0B4) 4 0 p.resend.length).toNat
  | 0x0B8 => some p.tx
  | 0x0BC => some p.rx
  | 0x0C0 => some (p.rxFormat * 2 ^ 24 + p.rxCrc * 2 ^ 16 + p.rxAddr * 2 ^ 8 + p.rxDup)
  | 0x0CC => some s.nv.boot
  | _ => none

/-- QUE (R420 to R422). -/
def State.queView (s : State) (l : Lane) (off : Nat) : Option Nat :=
  let qs := (s.plink.get l).queues
  let q := qs.getD ((off - 0x080) / 16) ⟨[], 0, 0, 0⟩
  let mask (f : Queue → Bool) : Nat := (qs.zip (List.range 8)).foldl (fun m x => m + if f x.1 then 2 ^ x.2 else 0) 0
  if off = 0x00C then
    some (s.get l F.QUE_STAT_FLUSH_BUSY * 2 ^ 24 + mask (fun q => decide (4096 < q.bytes)) * 2 ^ 16 + mask fun q => !q.recs.isEmpty)
  else if 0x080 ≤ off ∧ off < 0x100 then
    match off % 16 with
    | 4 => some q.bytes
    | 8 => some (min 0xFFFF q.recs.length)
    | 12 => some (q.drop * 2 ^ 16 + q.discard * 2 ^ 4 + q.underrun)
    | _ => none
  else none

/-- ICU (R429 to R440). -/
def State.icuView (s : State) (l : Lane) (off : Nat) : Option Nat :=
  let i := s.icu.get l
  if off = 0x00C then some (s.icuStat l)
  else if 0x04C ≤ off ∧ off ≤ 0x058 then some (s.icuSlotRead l off)
  else if off = 0x05C then some (s.icuUnmatched l)
  else if off = 0x060 then some (i.deliv * 2 ^ 16 + i.reroutes)
  else if 0x0C0 ≤ off ∧ off < 0x0E0 then some (s.icuPend l ((off - 0x0C0) / 4))
  else none

/-- The bytes of a recorder slot in a lane's MRAM (R442, R447). -/
def State.recSlot (s : State) (l : Lane) (k : Nat) : List Nat :=
  match unitAt (if l = .a then s.nv.a else s.nv.b) (32 * k) with
  | some ⟨_, _, .event e, _⟩ => evBytes e
  | _ => List.replicate 32 0

/-- EVR (R443 to R449). -/
def State.evrView (s : State) (l : Lane) (off : Nat) : Option Nat :=
  let r := s.recorder
  if off = 0x00C then
    some (b2n r.clearing.isSome * 2 ^ 4 + b2n (!r.held.isEmpty) * 2 ^ 3 + b2n r.full * 2 ^ 2 + b2n (s.nv.aOk != s.nv.bOk) * 2 +
      b2n r.known)
  else if off = 0x040 then some r.index
  else if 0x050 ≤ off ∧ off < 0x070 then some (leAt (s.recSlot l (s.get l F.EVR_RD_IDX_SLOT)) (off - 0x050) 4)
  else if off = 0x070 then some r.dropped
  else if off = 0x074 then some (r.lost * 2 ^ 16 + r.held.length)
  else none

/-- UPD: each lane's page reports on its own flash (R462 to R466, R469). -/
def State.updView (s : State) (l : Lane) (off : Nat) : Option Nat :=
  let f := s.flash
  let own := f.lane.get l
  if off = 0x00C then
    some (s.get l F.UPD_STAT_FALLBACK * 2 ^ 5 + b2n (f.recovery.get l.other) * 2 ^ 4 + s.g F.SYS_STATE_OWNER_LOCK * 2 ^ 3 +
      b2n own.package.isSome * 2 ^ 2 + b2n ((own.slot (1 - own.active)).st == 2) * 2 + b2n f.staging.isSome)
  else if off = 0x040 then some (f.booted * 2 ^ 8 + own.active * 2 ^ 4 + own.slots.b.st * 2 ^ 2 + own.slots.a.st)
  else if off = 0x044 then some own.slots.a.build
  else if off = 0x048 then some own.slots.b.build
  else if off = 0x04C then some (f.rollback * 2 ^ 16 + (own.slot f.booted).rollback)
  else if off = 0x058 then some ((f.staging.map fun x => x.2.2.length).getD 0)
  else if 0x080 ≤ off ∧ off < 0x0C0 then some (leAt (own.slot f.booted).hash (off - 0x080) 4)
  else none

/-- The usable energy of the hold-up bank in 0.1 J at a voltage in 0.1 V (R478). -/
def bankEnergy (v : Nat) : Nat := Config.capacitance * (v * v - 160000) / 20000000

/-- The voltage of the hold-up bank in 0.1 V: what it measures is free but for what HOLDUP_FULL says of it (R478). -/
def State.bankV (s : State) : Nat :=
  let m := Config.measured (regKey Pg.PWR 0x048 .a) s.up
  if !s.pwr.on then 0 else if s.bo then m % 1101 else if s.gb F.PWR_STAT_HOLDUP_FULL then 950 + m % 151 else m % 950

/-- PWR: the bank counts as full while it is at or above 95.0 V (R478, R468). -/
def State.pwrView (s : State) (off : Nat) : Option Nat :=
  if off = 0x00C then
    (if s.bo then some ((s.rd .a Pg.PWR 0x00C).toNat / 4 * 4 + 2 * b2n (decide (950 ≤ s.bankV)) + s.g F.PWR_STAT_TRUNK_OK)
    else none)
  else if off = 0x048 then some (s.bankV * 2 ^ 16 + min 0xFFFF (bankEnergy s.bankV))
  else if off = 0x050 then some (Config.measured (regKey Pg.PWR 0x050 .a) s.up)
  else none

/-- SNAP: SNAP_BASE and SNAP_SLOTS name a ring that lies in DRAM (R164). -/
def State.slotsOk (s : State) : Bool :=
  let n := s.g F.SNAP_SLOTS_SLOTS
  n != 0 && inDram (s.g F.SNAP_BASE_BASE * 0x2000) (n * 0x2000)
def State.snapView (s : State) (off : Nat) : Option Nat :=
  if off = 0x00C then some (setBits (s.rd .a Pg.SNAP 0x00C) 1 1 (b2n s.slotsOk)).toNat else none

/-- CLINK_STAT: no reference frame leaves in LULL (R136, R303). -/
def State.clinkView (s : State) (off : Nat) : Option Nat :=
  if off = 0x00C ∧ s.mode = St.LULL then some ((s.rd .a Pg.CLINK 0x00C).toNat / 2 * 2) else none

/-! ### SAFE -/

/-- A protection trip in the sense of R245: a latched trip with TACT 2 or 3. -/
def State.protTrip (s : State) : Bool :=
  ((List.range 11).any fun k => s.gb (F.PROT_Lk_ST_TRIPPED k) && decide (2 ≤ s.g (F.PROT_Lk_CFG_TACT k))) ||
    (s.gb F.PROT_TRIP_PLAUS && decide (2 ≤ s.g F.PROT_PLAUS_TACT)) || s.gb F.PROT_TRIP_RB

/-- The mirror contact of output `n` (SO1 ↔ SI5, SO2 ↔ SI6, SO3 ↔ SI7) is used as feedback, and reads closed. -/
def State.fbUsed (s : State) (n : Nat) : Bool := bitAt (s.g F.SAFE_IN_CFG_FB_EN) (n - 1)
def State.fbClosed (s : State) (n : Nat) : Bool := bitAt (s.g F.SAFE_IN_FILT) (n + 3)

/-- The first enabled mirror contact that does not read closed. -/
def State.notClosed (s : State) : Option Nat := [1, 2, 3].find? fun n => s.fbUsed n && !s.fbClosed n

/-- RESET_READY: every clearing condition of the latched cause holds, apart from the test run (R275). -/
def State.causeCleared (s : State) : Bool :=
  let c := s.g F.SAFE_LOCKOUT_CAUSE
  let x := s.safe
  if !s.gb F.SAFE_LOCKOUT_LATCHED then true
  else if c = 6 then decide (10 ≤ x.rootRun)
  else if c = 7 then !s.gb F.MEAS_STAT_I_FAULT
  else if c = 8 then !s.gb F.MEAS_STAT_V_FAULT
  else if c = 9 then decide (10 ≤ x.rbRun)
  else if 0x0A ≤ c ∧ c ≤ 0x0C then
    decide (4 ≤ x.followed) && x.srcBad.1 == 0 && x.srcBad.2 == 0 && x.disc.1 == 0 && x.disc.2 == 0
  else if c = 0x0D then s.notClosed.isNone
  else if c = 0x0E then decide (10 ≤ x.tickRun)
  else true

/-- SAFE_STAT: what the channel's cycle reports, formed from its state once it runs; LOCKOUT mirrors SAFE_LOCKOUT (R279). -/
def State.safeView (s : State) (off : Nat) : Option Nat :=
  if off = 0x00C then
    let run := s.gb F.SAFE_STAT_RUNNING
    some (s.g F.SAFE_STAT_SF3_ARMED * 2 ^ 9 + b2n (run && s.causeCleared) * 2 ^ 8 + b2n (run && s.gb F.PWR_STAT_HOLDUP_FULL) * 2 ^ 7 +
      b2n (run && !s.safe.actLow) * 2 ^ 6 + s.g F.SAFE_STAT_BRK_CMD * 2 ^ 5 + s.g F.SAFE_STAT_STEST_RUN * 2 ^ 4 +
      s.g F.SAFE_LOCKOUT_LATCHED * 2 ^ 3 + b2n (s.g F.SAFE_STATE_SF != 0) * 2 ^ 2 + b2n (run && s.protTrip) * 2 + b2n run)
  else none

/-- The word that a page forms for a register, none where the register shows its stored word. -/
def State.pageView (s : State) (l : Lane) (page off : Nat) : Option Nat :=
  if page = Pg.SYS then s.sysView l off
  else if page = Pg.PWR then s.pwrView off
  else if page = Pg.TIME then
    (if off = 0x040 then some s.clock.count else if off = 0x044 then some (s.clock.count / 2 ^ 32) else none)
  else if page = Pg.CHAIN then s.chainView off
  else if page = Pg.SNAP then s.snapView off
  else if page = Pg.MEAS then s.measView off
  else if page = Pg.EIS then s.eisView l off
  else if page = Pg.EST then s.estView l off
  else if page = Pg.BAL then s.balView l off
  else if page = Pg.CLE then s.cleView l off
  else if page = Pg.ORD then s.ordView off
  else if page = Pg.TALLY then s.tallyView l off
  else if page = Pg.LANE then s.laneView off
  else if page = Pg.CBUS then
    (if off = 0x054 then some (Config.measured (regKey Pg.CBUS 0x054 l) s.up % 2 ^ 8) else none)
  else if page = Pg.PLNK then s.plnkView l off
  else if page = Pg.QUE then s.queView l off
  else if page = Pg.ICU then s.icuView l off
  else if page = Pg.EVR then s.evrView l off
  else if page = Pg.NVM then s.nvmView off
  else if page = Pg.CLINK then s.clinkView off
  else if page = Pg.SAFE then s.safeView off
  else if page = Pg.UPD then s.updView l off
  else none

/-- The word that a register shows in a lane's map, without the effects of its read. -/
def State.view (s : State) (l : Lane) (page off : Nat) : Word :=
  match s.pageView l page off with
  | some v => BitVec.ofNat 32 v
  | none => if off < 0x040 ∧ off ≠ 0x008 ∧ off ≠ 0x00C then BitVec.ofNat 32 (s.headerView l page off) else s.rd l page off

/-! ### The status LEDs (R30, R31, R133, R354, R451) -/

/-- What a status LED shows. -/
inductive Led where
  | off
  | steady
  | slow
  | fast
deriving DecidableEq, Repr

/-- LED2 and LED3 (R354). -/
def State.ledLane (s : State) (l : Lane) : Led :=
  match s.laneState l with
  | 5 => .steady
  | 6 => .fast
  | 2 | 3 | 4 => .slow
  | _ => .off

/-- LED4: the fast flash of a missing monitor or of NOT_SAMPLED positions goes before the flash of an open ring (R133). -/
def State.ledChain (s : State) : Led :=
  if s.clock.ringAt.isNone ∨ !s.samples then .off
  else if (List.range s.monCount).any fun j => (s.chain.inf (j + 1)).missing || (s.chain.inf (j + 1)).ns then .fast
  else if s.gb F.CHAIN_STAT_OPEN_MODE then .slow
  else if s.gb F.CHAIN_STAT_RING_CLOSED then .steady
  else .off

/-- LED5: the fast flash stands while the event of a refused step or of the servo waits in TIME_EVT_RAW, which the manual leaves
open (notes/assumptions/19). -/
def State.ledTime (s : State) : Led :=
  let w := (s.rd .a Pg.TIME 0x010).toNat
  if bitAt w 4 || bitAt w 9 then .fast
  else match s.g F.TIME_STAT_QUAL with
    | 2 => .steady
    | 1 => .slow
    | _ => .off

/-- LED6: a thermal shutdown goes before the lock-out, and the lock-out before a safety function. -/
def State.ledSafe (s : State) : Led :=
  if s.mode = St.SHUTDOWN then .fast
  else if s.gb F.SAFE_LOCKOUT_LATCHED then .steady
  else if s.g F.SAFE_STATE_SF != 0 then .slow
  else .off

/-- LED `n`, 1 to 6. Without power every one is dark. -/
def State.led (s : State) (n : Nat) : Led :=
  if !s.pwr.on then .off
  else match n with
    | 1 =>
      if s.bo then .fast
      else if !s.gb F.PWR_STAT_TRUNK_OK then .off
      else if s.gb F.PWR_STAT_HOLDUP_FULL then .steady
      else .slow
    | 2 => s.ledLane .a
    | 3 => s.ledLane .b
    | 4 => s.ledChain
    | 5 => s.ledTime
    | 6 => s.ledSafe
    | _ => .off

/-! ### The page epoch (R78) -/

/-- Pages whose registers derive from snapshots: SNAP, EST and PROT. Their xx_EPOCH follows the snapshot they reflect. -/
def fromSnapshot (page : Nat) : Bool := page == Pg.SNAP || page == Pg.EST || page == Pg.PROT

/-- The block-specific registers of a page whose word the page forms, but for those that show only what the module measures
(notes/assumptions/19). -/
def formedOffs (page : Nat) : List Nat :=
  if page = Pg.SYS then [0x040, 0x044, 0x054, 0x058]
  else if page = Pg.TIME then [0x040, 0x044]
  else if page = Pg.CHAIN then [0x0A4, 0x0A8, 0x0AC, 0x0B0]
  else if page = Pg.MEAS then [0x04C, 0x050]
  else if page = Pg.EIS then [0x080, 0x084]
  else if page = Pg.BAL then [0x054, 0x058, 0x05C, 0x060]
  else if page = Pg.CLE then [0x048, 0x04C]
  else if page = Pg.ORD then [0x054, 0x058]
  else if page = Pg.TALLY then [0x07C]
  else if page = Pg.LANE then [0x050]
  else if page = Pg.PLNK then [0x0B0, 0x0B4, 0x0B8, 0x0BC, 0x0C0, 0x0CC]
  else if page = Pg.QUE then (List.range 32).map fun k => 0x080 + 4 * k
  else if page = Pg.ICU then [0x04C, 0x050, 0x054, 0x058, 0x05C, 0x060] ++ (List.range 8).map fun k => 0x0C0 + 4 * k
  else if page = Pg.EVR then [0x040, 0x070, 0x074] ++ (List.range 8).map fun k => 0x050 + 4 * k
  else if page = Pg.NVM then [0x040, 0x048, 0x04C, 0x050, 0x054]
  else if page = Pg.UPD then [0x040, 0x044, 0x048, 0x04C, 0x058] ++ (List.range 16).map fun k => 0x080 + 4 * k
  else []

/-- The words that a page forms. -/
def State.formedWords (s : State) (l : Lane) (page : Nat) : List Nat :=
  (formedOffs page).map fun o => if page = Pg.SYS ∧ o = 0x044 then s.presenceWord else (s.pageView l page o).getD 0

/-- The block-specific registers of a page copy: those stored that differ from reset, and those that the page forms. A page of
shared or mixed scope is one instance with the registers of both lanes. -/
def pageWords (s : State) (c : Nat) : List (Nat × Word) × List Nat :=
  let page := c % 0x100
  (s.regs.filter fun x => x.1 / 0x1000 % 0x100 == page && decide (0x040 ≤ x.1 % 0x1000) &&
    (sharedPage page || x.1 / 0x1000 == c), s.formedWords (if c < 0x100 then .a else .b) page)

/-- The page copies whose xx_EPOCH follows the changes of their registers: page index, plus 0x100 for lane B's copy. -/
def pageCopies : List Nat :=
  ((List.range 26).filter fun p => !fromSnapshot p) ++
    (((List.range 26).filter fun p => !fromSnapshot p && !sharedPage p).map (· + 0x100))

/-- A page copy takes the epoch of the latest sample instant when a block-specific register of it has changed (R78). -/
def touchPage (old : State) (s : State) (c : Nat) : State :=
  if pageWords old c = pageWords s c then s
  else { s with regs := sput resetWord s.regs (c * 0x1000 + 0x028) (BitVec.ofNat 32 s.sampleEpoch) }

/-- Every page copy takes its epoch after a command (R78). -/
def touch (old new : State) : State := pageCopies.foldl (touchPage old) new

/-! ### The end of a command -/

/-- The instant since which IN_MOTION reads 0 (R136). -/
def State.trackMotion (s : State) : State := { s with still := if s.inMotion then none else some (s.still.getD s.up) }

/-- The end of a command that ran: the page epochs and IN_MOTION's run are brought up to date, and the queue of waiting
commands is as before, which no command changes. -/
def State.settle (old new : State) : State := { (touch old new).trackMotion with pending := old.pending }

/-- The next state of a command. While the module has no power, only the monitors, which live from their cells, with the
free values they draw, and the exhaustion flag change. -/
def State.fin (old new : State) : Out :=
  if old.pwr.on then .next (old.settle new)
  else .next { old with mons := new.mons, free := new.free, pwr := { old.pwr with exhausted := new.pwr.exhausted } }

/-- The end of an access command: its refusal code and the value it answers go back to the requester. -/
def State.answered (s : State) (x : Nat × State) : Out := s.fin { x.2 with answer := (x.1, 0) }

/-- The end of a read command: the value goes back to the requester. -/
def State.readOut (s : State) (v : Nat) (s' : State) : Out := s.fin { s' with answer := (0, v) }

/-- The end of a read of a register that acts: refused with 0x09 where the requester's path names a lane that is not running
(R89) and whose boot ROM does not serve it, else the value goes back to the requester. -/
def State.readBy (s : State) (r : Req) (page off : Nat) (x : Nat × State) : Out :=
  if s.deadLane r && !s.bootServes r page then s.answered (0x09, s.refuse r page off 0x09) else s.readOut x.1 x.2

end Sys2Proof.Machine
end

