-- ==== Sys2Proof/Machine/Time.lean ====
section
/-! DEFINITION. Plant time, PTP and the epoch schedule: the commands of the TIME page and of the PTP ports (R53 to R66,
R70, R475, R481). -/

namespace Sys2Proof.Machine

open Sys2Proof

/-! ### Shared operations -/

/-- A change of the time quality, with its event (R61). -/
def State.setQual (s : State) (q : Nat) : State :=
  let old := s.g F.TIME_STAT_QUAL
  if old = q then s
  else
    let s := { s with clock := { s.clock with lockRun := 0, badRun := 0 } }
    (s.p F.TIME_STAT_QUAL q).ev 0x0305 0 [old, q]

/-- LOCKED gives way to HOLDOVER (R61). -/
def State.unlock (s : State) : State := if s.g F.TIME_STAT_QUAL = 2 then s.setQual 1 else s

/-- P in nanoseconds of a SNAP_PERIOD code (R63). -/
def periodNs (code : Nat) : Nat := [2, 5, 10, 20, 50, 100].getD code 10 * 1000000

/-- P in nanoseconds as SNAP_PERIOD stands. -/
def State.periodReg (s : State) : Nat := periodNs (s.g F.SNAP_PERIOD_P)

/-- T0 as SNAP_ORIGIN stands. -/
def State.originReg (s : State) : Nat := s.get64 .a F.SNAP_ORIGIN_T0_LO

/-- The local grid starts: local epoch 0 lies P after this instant (R64, R475). -/
def State.startLocal (s : State) : State :=
  let p := s.periodReg
  let t := s.clock.count + p
  ({ s with clock := { s.clock with
      plant := false, p := p, t0 := t, next := some (0, t), newOrigin := some t, fresh := true } } : State).p
    F.SNAP_STAT_LOCAL 1

/-- The schedule moves to the plant grid after a step; before ring start the first epoch waits for it (R63, R481). -/
def State.startPlant (s : State) : State :=
  let p := s.periodReg
  let t0 := s.originReg
  let n := gridIndex t0 p (s.clock.count + 2000000)
  ({ s with clock := { s.clock with
      plant := true, p := p, t0 := t0, fresh := true, newOrigin := some t0,
      next := if s.clock.ringAt.isSome then some (n, t0 + n * p) else none } } : State).p F.SNAP_STAT_LOCAL 0

/-- Ring start: the local grid starts, or the plant grid of a step taken before (R64, R481). -/
def State.ringStarted (s : State) : State :=
  let s := { s with clock := { s.clock with ringAt := some s.clock.count } }
  let s := s.p F.SNAP_STAT_RUNNING 1
  if s.clock.plant then
    let c := s.clock
    let n := max (gridIndex c.t0 c.p (c.count + c.p)) (gridIndex c.t0 c.p (c.count + 2000000))
    { s with clock := { c with next := some (n, c.t0 + n * c.p) } }
  else s.startLocal

/-! ### The lock of the TIME page -/

/-- TIME_LOCK opens: the servo is suspended and LOCKED gives way to HOLDOVER (R60). -/
def State.servoOff (s : State) : State := (s.p F.TIME_STAT_SERVO_OFF 1).unlock

/-- TIME_LOCK closes: the servo resumes (R60). -/
def State.servoOn (s : State) : State := s.p F.TIME_STAT_SERVO_OFF 0

/-- The rights of R60: the non-authority lane is refused with 0x0A; while the lock is open only its holder writes, while
it is closed only the management firmware (never a time reset). -/
def timeRights (s : State) (r : Req) (needLock : Bool) : List Chk :=
  let openNow := getBits (s.lockWord .a Pg.TIME) 31 31 == 1
  [(.auth, !s.isAuth r.lane),
   (.rights, if openNow then !s.holds r Pg.TIME else needLock || r.path != .mgmt)]

/-! ### The commands of the TIME page -/

/-- TIME_STEP: the committing write of the 64-bit offset (R58, R60, R481). DESIGN CHOICE: a step refused for rights (0x02,
0x0A) raises no 0x0304; the codes 0x01 and 0x04 of R58's list do (notes/assumptions/64). -/
def timeStep (s : State) (r : Req) (lo : Word) : Nat × State :=
  let off := toSigned 64 (lo.toNat + 2 ^ 32 * s.stagedWord r Pg.TIME 0x04C)
  let count : Int := s.clock.count + off
  let used := s.gb F.TIME_STAT_STEPPED
  let early := decide (count < s.originReg + 2000000)
  let x := s.access r Pg.TIME 0x048 (timeRights s r false ++ [(.state, used), (.value, early)]) fun s =>
    let s := { s with clock := { s.clock with count := (count % 2 ^ 64).toNat } }
    let s := (s.p F.TIME_STAT_STEPPED 1).keepLock r Pg.TIME
    let s := (s.ev 0x0303 0 (leBytes 8 (ofSigned 64 off))).setQual 1
    s.startPlant
  (x.1, (x.2.evIf (x.1 == 0x01 || x.1 == 0x04) 0x0304 0 [x.1]).unstage r Pg.TIME [0x04C])

def execTimeStep (r : Req) (lo : Word) (s : State) : Out := s.answered (timeStep s r lo)

/-- TIME_RATE: a rate within ±500 ppm (R59, R60). -/
def timeRateWrite (s : State) (r : Req) (v : Word) : Nat × State :=
  let rate := toSigned 32 v.toNat
  s.access r Pg.TIME 0x050
    (timeRights s r false ++ [(.value, decide (rate < -549755813) || decide (549755813 < rate))]) fun s =>
      (s.p F.TIME_RATE_RATE v.toNat).keepLock r Pg.TIME

def execTimeRateWrite (r : Req) (v : Word) (s : State) : Out := s.answered (timeRateWrite s r v)

/-- TIME_CTRL.TRESET: a time reset by the holder of TIME_LOCK (R60, R64, R475). -/
def timeReset (s : State) (r : Req) : Nat × State :=
  s.access r Pg.TIME 0x008 (timeRights s r true) fun s =>
    let s := (s.p F.TIME_STAT_STEPPED 0).setQual 0
    let s := { s with clock := { s.clock with retimed := true } }
    let s := if s.clock.ringAt.isSome then s.startLocal
      else { s with clock := { s.clock with plant := false, next := none } }
    s.ev 0x0308

def execTimeReset (r : Req) (s : State) : Out := s.answered (timeReset s r)

/-- The head of a timestamp queue is popped: VALID, LEVEL and TAG, and its ns value goes into the word that follows
(R62, R70). -/
def tsqPop (s : State) (l : Lane) (cbus : Bool) : Nat × State :=
  let q := if cbus then s.clock.tsqc.get l else s.clock.tsq.get l
  let ns := if cbus then F.TIME_TSQC_NS_NS else F.TIME_TSQ_NS_NS
  match q with
  | [] => (0, s)
  | (tag, t) :: rest =>
    let c := if cbus then { s.clock with tsqc := s.clock.tsqc.set l rest }
      else { s.clock with tsq := s.clock.tsq.set l rest }
    (2 ^ 31 + rest.length * 2 ^ 16 + tag % 2 ^ 16, ({ s with clock := c } : State).put l ns t)

def execTsqPop (r : Req) (cbus : Bool) (s : State) : Out := s.readBy r Pg.TIME (if cbus then 0x068 else 0x060) (tsqPop s r.lane cbus)

/-- A timestamp enters a queue of 8 entries, or is dropped and counted (R62). -/
def State.tsqPush (s : State) (l : Lane) (cbus : Bool) (tag t : Nat) : State :=
  let q := if cbus then s.clock.tsqc.get l else s.clock.tsq.get l
  let f := if cbus then F.TIME_TSQ_DROP_DROP_C else F.TIME_TSQ_DROP_DROP_P
  if q.length < 8 then
    let q := q ++ [(tag % 2 ^ 16, t % 2 ^ 32)]
    { s with clock := if cbus then { s.clock with tsqc := s.clock.tsqc.set l q }
      else { s.clock with tsq := s.clock.tsq.set l q } }
  else
    let first := s.get l f == 0
    let s := s.bumpSat l f
    if first then s.evL l (if cbus then 0x0302 else 0x0301) else s

/-- TIME_TSQ_DROP is returned and cleared (R70). -/
def tsqDropRead (s : State) (l : Lane) : Nat × State :=
  ((s.rd l Pg.TIME 0x070).toNat, s.wr l Pg.TIME 0x070 0)

def execTsqDropRead (r : Req) (s : State) : Out := s.readBy r Pg.TIME 0x070 (tsqDropRead s r.lane)

/-! ### The commands of the SNAP page that set the schedule -/

/-- SNAP_ORIGIN: T0 is committed while UNSET (R63, R81). -/
def snapOriginWrite (s : State) (r : Req) (lo : Word) : Nat × State :=
  let hi := s.stagedWord r Pg.SNAP 0x044
  let x := s.access r Pg.SNAP 0x040 [(.lock, !s.holds r Pg.SNAP), (.state, s.g F.TIME_STAT_QUAL != 0)] fun s =>
    (s.put64 .a F.SNAP_ORIGIN_T0_LO (lo.toNat + 2 ^ 32 * hi)).keepLock r Pg.SNAP
  (x.1, x.2.unstage r Pg.SNAP [0x044])

def execSnapOriginWrite (r : Req) (lo : Word) (s : State) : Out := s.answered (snapOriginWrite s r lo)

/-- SNAP_PERIOD: P is set while UNSET (R63). -/
def snapPeriodWrite (s : State) (r : Req) (v : Word) : Nat × State :=
  let p := getBits v 2 0
  let changed := p != s.g F.SNAP_PERIOD_P
  s.access r Pg.SNAP 0x048
    [(.lock, changed && !s.holds r Pg.SNAP), (.state, changed && s.g F.TIME_STAT_QUAL != 0), (.value, decide (5 < p))]
    fun s => (s.p F.SNAP_PERIOD_P p).keepLock r Pg.SNAP

def execSnapPeriodWrite (r : Req) (v : Word) (s : State) : Out := s.answered (snapPeriodWrite s r v)

/-! ### PTP -/

/-- The masters of a port, best data set first (R53). -/
def bestFirst (m : List Nat × Nat) : List (List Nat × Nat) → List (List Nat × Nat)
  | [] => [m]
  | x :: l => if m.1 < x.1 then m :: x :: l else x :: bestFirst m l

/-- The grandmaster chosen at a port: the best of the masters heard. -/
def State.grandmaster (s : State) (l : Lane) : Option Nat := (s.clock.masters.get l).head?.map (·.2)

/-- A frame that the profile does not support is ignored, with one event a minute (R54). -/
def State.ptpUnsupported (s : State) : State :=
  if s.minuteOver 0x0309 then (s.mark 0x0309).ev 0x0309 else s

def execPtpUnsupportedRx (_port : Lane) (s : State) : Out := s.fin s.ptpUnsupported

/-- A frame of another domain than the module's concerns another clock (R53). -/
def State.otherDomain (s : State) (dom : Nat) : Bool := dom != s.clock.domain

/-- A two-step Sync of the chosen grandmaster is kept for its Follow_Up; one that replaces another ends the run towards
LOCK_N (R53, R54, R61). `t` is its 32-bit receive timestamp. -/
def ptpSync (s : State) (port : Lane) (dom gm seq : Nat) (twoStep : Bool) (t : Nat) : State :=
  if s.otherDomain dom then s
  else if !twoStep then s.ptpUnsupported
  else if s.grandmaster port != some gm then s
  else
    let c := s.clock
    let missed := (c.sync.get port).isSome && s.isAuth port
    { s with clock := { c with
      sync := c.sync.set port (some (seq % 2 ^ 16, t % 2 ^ 32)), lockRun := if missed then 0 else c.lockRun } }

def execPtpSyncRx (port : Lane) (dom gm seq : Nat) (twoStep : Bool) (t : Nat) (s : State) : Out :=
  s.fin (ptpSync s port dom gm seq twoStep t)

/-- A 32-bit timestamp extended against the counter (R57). -/
def extend (count t : Nat) : Nat :=
  if count % 2 ^ 32 < t then count / 2 ^ 32 * 2 ^ 32 + t - 2 ^ 32 else count / 2 ^ 32 * 2 ^ 32 + t

/-- The runs and transitions of R61 for one measured offset. -/
def State.judgeOffset (s : State) (off : Int) : State :=
  let good := decide (off.natAbs ≤ 20)
  let bad := decide (50 < off.natAbs)
  let s := { s with clock := { s.clock with
    lockRun := if good then s.clock.lockRun + 1 else 0, badRun := if bad then s.clock.badRun + 1 else 0 } }
  if s.g F.TIME_STAT_QUAL = 2 then
    if 3 ≤ s.clock.badRun ∨ s.gb F.TIME_STAT_RATE_SAT then s.setQual 1 else s
  else if s.g F.TIME_STAT_QUAL = 1 ∧ s.gb F.TIME_STAT_STEPPED ∧ !s.gb F.TIME_STAT_RATE_SAT ∧
      !s.gb F.TIME_STAT_SERVO_OFF ∧ s.g F.TIME_HOLD_LOCK_N ≤ s.clock.lockRun then s.setQual 2
  else s

/-- The servo's demand goes into TIME_RATE, held to ±500 ppm with RATE_SAT (R59); suspended while TIME_LOCK is open. -/
def State.servoWrite (s : State) (demand : Int) : State :=
  if s.gb F.TIME_STAT_SERVO_OFF then s
  else
    let lim := 549755813
    let s := s.p F.TIME_STAT_RATE_SAT (b2n (decide (lim < demand.natAbs)))
    s.p F.TIME_RATE_RATE (ofSigned 32 (clampI (-lim) lim demand))

/-- A valid pair: an interval without one, seen at the sequence, has ended the run towards LOCK_N (R61). -/
def State.pairTaken (s : State) (seq : Nat) : State :=
  let missed := match s.clock.lastPair with
    | some (q, _) => (q + 1) % 2 ^ 16 != seq % 2 ^ 16
    | none => false
  { s with clock := { s.clock with
    lastPair := some (seq % 2 ^ 16, s.up), lockRun := if missed then 0 else s.clock.lockRun } }

/-- A Follow_Up completes a Sync pair. On the authority lane's port the servo takes the offset, writes its demand into
TIME_RATE and the runs of R61 move; an offset above 1 ms after a step or a time reset is told (R55, R59, R60, R61). `origin`
is the precise origin timestamp, `corr` the correction in ns, `demand` the rate that the firmware's servo asks for. -/
def ptpFollowUp (s : State) (port : Lane) (dom gm seq origin : Nat) (corr demand : Int) : State :=
  match s.clock.sync.get port with
  | none => s
  | some (sq, t) =>
    if s.otherDomain dom ∨ sq ≠ seq % 2 ^ 16 ∨ s.grandmaster port ≠ some gm then s
    else
      let s := { s with clock := { s.clock with sync := s.clock.sync.set port none } }
      if !s.isAuth port then s
      else
        let off : Int := extend s.clock.count t - (origin + corr + s.clock.pdelay.get port + s.clock.asym.get port)
        let s := s.p F.TIME_OFFSET_OFFSET (ofSigned 32 (clampI (-2147483647) 2147483647 off))
        let s := s.servoWrite demand
        let s := (s.pairTaken seq).evIf ((s.gb F.TIME_STAT_STEPPED || s.clock.retimed) && decide (1000000 < off.natAbs)) 0x0307
        s.judgeOffset off

def execPtpFollowUpRx (port : Lane) (dom gm seq origin : Nat) (corr demand : Int) (s : State) : Out :=
  s.fin (ptpFollowUp s port dom gm seq origin corr demand)

/-- A port sends Pdelay_Req: its event message takes a timestamp entry (R53, R62). -/
def execPdelayReqTx (port : Lane) (tag t : Nat) (s : State) : Out :=
  let s' := { s with clock := { s.clock with pdReq := s.clock.pdReq.set port (some t) } }
  s.fin (s'.tsqPush port false tag t)

/-- A Pdelay_Req is answered with Pdelay_Resp, an event message with a timestamp entry, and its follow-up (R53, R55,
R62). -/
def execPdelayReqRx (port : Lane) (tag t : Nat) (s : State) : Out := s.fin (s.tsqPush port false tag t)

/-- A Pdelay_Resp with its follow-up updates the port's path delay: half of the two transits (R53, R55). `t2` and `t3` are
the peer's receive and send times, `t4` the receive time here. -/
def execPdelayRespRx (port : Lane) (t2 t3 t4 : Nat) (s : State) : Out :=
  match s.clock.pdReq.get port with
  | none => s.fin s
  | some t1 =>
    let d : Int := (((t4 : Int) - t1) - ((t3 : Int) - t2)) / 2
    s.fin { s with clock := { s.clock with pdReq := s.clock.pdReq.set port none, pdelay := s.clock.pdelay.set port d } }

/-- An Announce feeds the best master clock algorithm (R53): `ds` is the master's data set in comparison order. -/
def execPtpAnnounceRx (port : Lane) (dom gm : Nat) (ds : List Nat) (s : State) : Out :=
  let m := bestFirst (ds, gm) ((s.clock.masters.get port).filter fun x => x.2 != gm)
  s.fin <| if s.otherDomain dom then s else { s with clock := { s.clock with masters := s.clock.masters.set port m } }

/-- No Announce of a master within three intervals: the algorithm drops it (R53). -/
def execAnnounceReceiptTimeout (port : Lane) (gm : Nat) (s : State) : Out :=
  s.fin { s with clock := { s.clock with
    masters := s.clock.masters.set port ((s.clock.masters.get port).filter fun x => x.2 != gm) } }

/-- No valid pair for HOLD_TO seconds since the last one: LOCKED gives way to HOLDOVER, and no run towards LOCK_N goes on
(R61). -/
def syncLoss (s : State) : State :=
  let s := match s.clock.lastPair with
    | some (_, t) => s.runTo (t + 1000000000 * s.g F.TIME_HOLD_HOLD_TO)
    | none => s
  ({ s with clock := { s.clock with lockRun := 0 } } : State).unlock

def execSyncLossTimeout (s : State) : Out := s.fin (syncLoss s)

end Sys2Proof.Machine
end

