-- ==== Sys2Proof/Machine/MonEis.lean ====
section
/-! DEFINITION. The lock-in hardware of a monitor: its windows, its gates and its replies (R170, R176, R178 to R180). -/

namespace Sys2Proof.Machine

open Sys2Proof

/-- A gated epoch index joins a position's ranges: it prolongs the last range or opens a new one, of at most 4 ranges of at
most 4,095 epochs; otherwise the position overflows (R176). -/
def addGate (rs : List (Nat × Nat)) (i : Nat) : List (Nat × Nat) × Bool :=
  match rs.getLast? with
  | some (a, n) =>
    if a + n = i then
      if n < 4095 then (rs.dropLast ++ [(a, n + 1)], false) else (rs, true)
    else if rs.length < 4 then (rs ++ [(i, 1)], false) else (rs, true)
  | none => ([(i, 1)], false)

/-- Several indices from `i` upwards. -/
def addGates (rs : List (Nat × Nat)) (i : Nat) : Nat → List (Nat × Nat) × Bool
  | 0 => (rs, false)
  | n + 1 =>
    let (rs, o) := addGate rs i
    let (rs, o') := addGates rs (i + 1) n
    (rs, o || o')

/-- A window as SETUP configures it (R178). -/
def MonWin.of (setup : List Nat) : MonWin :=
  { win := setup.getD 0 0, tb := setup.getD 1 0, nep := setup.getD 2 0, settle := setup.getD 4 0, fmask := setup.getD 5 0
    accRx := 0, idx := 0, gate := List.replicate 12 false, held := none, heldGate := List.replicate 12 false
    settling := List.replicate 12 0, accepted := List.replicate 12 0, ranges := List.replicate 12 []
    ovf := List.replicate 12 false, ranged := List.replicate 12 false }

/-- The gates of the epochs `[i, i + n)` recorded for the positions of a mask. -/
def MonWin.gateAll (e : MonWin) (mask : List Bool) (i n : Nat) : MonWin :=
  let rs := (List.range 12).map fun p =>
    if mask.getD p false then addGates (e.ranges.getD p []) i n else (e.ranges.getD p [], false)
  { e with
    ranges := rs.map (·.1)
    ovf := (List.range 12).map fun p => e.ovf.getD p false || (rs.getD p ([], false)).2 }

/-- The running epoch of a window ends at the SAMPLE of `epoch`; `prev` is the epoch of the SAMPLE before. A partial still held
is discarded; the interval's partial is held only where the EPOCH numbers are consecutive; missed epochs gate every position,
and count for the settle countdowns (R176). -/
def MonWin.next (e : MonWin) (prev epoch : Nat) : MonWin :=
  let step := if prev < epoch then epoch - prev else 1
  let whole := step == 1 && decide (prev < epoch)
  let e := if whole then e.gateAll e.gate e.idx 1 else e.gateAll (List.replicate 12 true) e.idx step
  { e with
    held := if whole then some e.idx else none, heldGate := e.gate, idx := e.idx + step
    gate := e.settling.map fun n => decide (step ≤ n), settling := e.settling.map (· - step) }

/-- The accumulators of a window move into the result buffer (R178). -/
def MonEis.finish (e : MonEis) : MonEis :=
  match e.closing with
  | some w => { e with closing := none, res := some { w with held := none }, state := if e.cur.isSome then 2 else 3 }
  | none => e

/-- What a new SAMPLE does to the lock-in hardware: a window that waited for its last ACCEPT has missed it; at index N_EP the
running window ends, and is moved at once where no partial is held; a SAMPLE with FLAGS[0] starts the configured window, if
SETUP and both FREQ frames have arrived (R176, R178). -/
def MonEis.onSample (e : MonEis) (prev epoch : Nat) (windowStart : Bool) : MonEis :=
  let e := e.finish
  let e := match e.cur with
    | some w =>
      let w := w.next prev epoch
      if w.nep ≤ w.idx then
        let e := { e with cur := none, closing := some w }
        if w.held.isNone then e.finish else e
      else { e with cur := some w }
    | none => e
  if windowStart && e.gotSetup && e.got0 && e.got8 then
    { e with state := 2, cur := some (MonWin.of e.setup), gotSetup := false, got0 := false, got8 := false }
  else e

/-- The running window, changed. -/
def MonEis.map (e : MonEis) (f : MonWin → MonWin) : MonEis := { e with cur := e.cur.map f }

/-- Positions gate themselves for the running epoch. -/
def MonWin.gateNow (e : MonWin) (p : Nat → Bool) : MonWin :=
  { e with gate := (List.range 12).map fun j => e.gate.getD j false || p j }

/-- Open-wire sinks on leads of a position gate it (R176). -/
def MonEis.onSinks (e : MonEis) (leads : Nat) : MonEis :=
  e.map fun w => w.gateNow fun j => bitAt leads j || bitAt leads (j + 1)

/-- EIS samples outside their span gate the position (R170, R176). -/
def MonEis.onRange (e : MonEis) (mask : Nat) : MonEis :=
  e.map fun w => { w.gateNow (bitAt mask) with ranged := (List.range 12).map fun j => w.ranged.getD j false || bitAt mask j }

/-- A change of the bleed switch gates the position now and for the SETTLE epochs that follow (R176). -/
def MonEis.onBleed (e : MonEis) (j : Nat) : MonEis :=
  e.map fun w => { w.gateNow (· == j) with settling := w.settling.set j w.settle }

/-- SETUP: the window parameters; FREQ frames of the new WIN_ID are still to come (R178). -/
def MonEis.onSetup (e : MonEis) (fields : List Nat) : MonEis :=
  { e with
    setup := fields, gotSetup := true, got0 := false, got8 := false, codes := List.replicate 16 0
    state := if e.cur.isSome || e.closing.isSome then 2 else 1 }

/-- FREQ: eight codes from entry 0 or 8 (R178). -/
def MonEis.onFreq (e : MonEis) (first : Nat) (codes : List Nat) : MonEis :=
  if first = 0 ∨ first = 8 then
    { e with
      codes := (List.range 16).map fun i => if first ≤ i ∧ i < first + 8 then codes.getD (i - first) 0 else e.codes.getD i 0
      got0 := e.got0 || first == 0, got8 := e.got8 || first == 8 }
  else e

/-- An ACCEPT of a window: counted, and the held partial of that epoch is added at every position that is not gated (R176). -/
def MonWin.accept (w : MonWin) (idx : Nat) : MonWin :=
  let w := { w with accRx := w.accRx + 1 }
  if w.held = some idx then
    { w with
      held := none
      accepted := (List.range 12).map fun j => w.accepted.getD j 0 + (if w.heldGate.getD j false then 0 else 1) }
  else w

/-- ACCEPT: for the running window, or for the one past its end, which then moves into the result buffer; one of another WIN_ID
is ignored (R176, R178). -/
def MonEis.onAccept (e : MonEis) (win idx _count : Nat) : MonEis :=
  match e.closing with
  | some w =>
    if win % 256 = w.win then ({ e with closing := some (w.accept idx) } : MonEis).finish
    else e.map fun w => if win % 256 = w.win then w.accept idx else w
  | none => e.map fun w => if win % 256 = w.win then w.accept idx else w

/-- ABORT: the window of that WIN_ID is discarded with its accumulators and pending partials, running, past its end or only
configured; one of another WIN_ID is ignored (R178). -/
def MonEis.onAbort (e : MonEis) (win : Nat) : MonEis :=
  let mine (w : Option MonWin) : Bool := (w.map fun w => w.win == win % 256).getD false
  let set := e.gotSetup && e.setup.getD 0 0 == win % 256
  let e' := { e with
    cur := if mine e.cur then none else e.cur, closing := if mine e.closing then none else e.closing
    gotSetup := e.gotSetup && !set, got0 := e.got0 && !set, got8 := e.got8 && !set }
  if mine e.cur || mine e.closing || set then
    { e' with state := if e'.cur.isSome || e'.closing.isSome then 2 else if e'.gotSetup then 1 else 0 }
  else e

/-- The entries of a group's words that lie in FMASK, the rest 0 (R179). -/
def maskBins (fmask sel : Nat) (bins : List Nat) : List Nat :=
  (List.range 96).map fun i => if bitAt fmask (4 * sel + i / 2 % 4) then bins.getD i 0 else 0

/-- The gate record of a position: NG and four ranges of 32 bits, first index above a 12-bit length (R179). -/
def gateBytes (rs : List (Nat × Nat)) : List Nat :=
  rs.length :: (List.range 4).flatMap fun i => leBytes 4 (match rs[i]? with
    | some (a, n) => a * 2 ^ 12 + n
    | none => 0)

/-- OVF as bits. -/
def MonWin.ovfBits (w : MonWin) : Nat := ((List.range 12).map fun j => if w.ovf.getD j false then 2 ^ j else 0).sum

/-- The payload of the reply to EIS_READ (R179). -/
def MonEis.readReply (e : MonEis) (win sel : Nat) (bins : List Nat) : List Nat :=
  if 4 < sel then [0x04]
  else match e.res with
    | some w =>
      if w.win ≠ win % 256 then [win % 256, 0xFF]
      else if sel < 4 then [win % 256, sel] ++ (maskBins w.fmask sel bins).flatMap (leBytes 4)
      else [win % 256, 4] ++ leBytes 4 w.accRx ++ leBytes 2 w.ovfBits ++ w.ranges.flatMap gateBytes
    | none => [win % 256, 0xFF]

/-- The window that the EIS registers show: the configured one in state 1, else the running one, the one past its end, or the
one in the result buffer. -/
def MonEis.shown (e : MonEis) : MonWin :=
  if e.state = 1 then MonWin.of e.setup else (e.cur.or (e.closing.or e.res)).getD (MonWin.of [])

/-- The EIS registers of the monitor (R180). -/
def MonEis.read (e : MonEis) (a : Nat) : Nat :=
  let w := e.shown
  if a = 0x20 then w.win * 256 + e.state
  else if a = 0x21 then w.tb
  else if a = 0x22 then w.nep % 2 ^ 16
  else if a = 0x23 then w.nep / 2 ^ 16
  else if a = 0x24 then w.accRx % 2 ^ 16
  else if a = 0x25 then w.accRx / 2 ^ 16
  else if a = 0x26 then w.idx % 2 ^ 16
  else if a = 0x27 then w.idx / 2 ^ 16
  else if a = 0x28 then w.settle
  else if a = 0x29 then w.ovfBits
  else 0

end Sys2Proof.Machine
end

