-- ==== Sys2Proof/Machine/Monitor.lean ====
section
/-! DEFINITION. The AM-12 monitors: what a monitor does with a frame that reaches it, with its sample instant, its open-wire
rounds and its Lull checks (R109 to R120, R130, R132, R137, R140). Bleeding is in Machine/Bal.lean, the lock-in hardware in
Machine/Eis.lean. -/

namespace Sys2Proof

/-! ### Frames -/

/-- The hop of the monitor a frame reaches, counted from the port it entered the ring by (R110). -/
def Frame.h (f : Frame) : Nat := f.hop + 1

/-- ADDR: the addressing mode (true: hop) and the ID or hop that it names (R109). -/
def Frame.hopMode (f : Frame) : Bool := f.addr / 128 % 2 == 1
def Frame.target (f : Frame) : Nat := f.addr % 64

/-- Is the frame broadcast (R112)? -/
def Frame.toAll (f : Frame) : Bool := f.target == 0

/-- Does a unicast frame name the monitor that holds this MON_ID (R112)? -/
def Frame.names (f : Frame) (id : Nat) : Bool :=
  f.target != 0 && (if f.hopMode then f.target == f.h else f.target == id)

/-- The port at the other end of the ring. -/
def Ring.other : Ring → Ring
  | .e => .w
  | .w => .e

end Sys2Proof

namespace Sys2Proof.Machine

open Sys2Proof

/-- CMD, ADDR, LEN and the payload of a frame, over which its CRC runs (R109, R482). -/
def frameBody (addr cmd : Nat) (payload : List Nat) : List Nat := [cmd, addr, payload.length] ++ payload

/-- A frame as the chain master sends it: PRE, SOF, the body, the CRC low byte first, HOP 0 and HOP_N 0xFF (R109, R110). -/
def ringFrame (addr cmd : Nat) (payload : List Nat) : List Nat :=
  [0x55, 0xD5] ++ frameBody addr cmd payload ++ leBytes 2 (crc16 (frameBody addr cmd payload)) ++ [0x00, 0xFF]

/-- A frame is discarded: its CRC fails, HOP_N is not the complement of HOP, or the hop lies beyond 40 (R110). -/
def frameBad (f : Frame) (cmd : Nat) (payload : List Nat) : Bool :=
  f.crc != crc16 (frameBody f.addr cmd payload) || f.hop + f.hopN != 255 || decide (40 < f.h)

/-- The reply of a monitor to a command (R110). -/
def ringReply (cmd id : Nat) (payload : List Nat) : RingReply :=
  ⟨cmd + 0x80, id, payload, crc16 ([cmd + 0x80, id] ++ payload)⟩

/-- Does the CRC of a reply hold, and is it the reply of this monitor to this command (R110, R482)? -/
def replyCrcOk (r : RingReply) : Bool := r.crc == crc16 ([r.cmd, r.addr] ++ r.payload)
def replyTo (r : RingReply) (cmd id : Nat) : Bool := r.cmd == cmd + 0x80 && r.addr == id

/-- The payload of a sweep reply: EP16 to PAD (R120). -/
def sweepPayload (r : SweepReply) : List Nat :=
  packBytes ([(16, r.ep16), (16, r.status)] ++ r.vals.fine.map (fun v => (20, ofSigned 20 v)) ++
    r.vals.coarse.map (fun v => (12, v)) ++ [(12, r.vals.stack)] ++ r.vals.ntc.map (fun v => (10, v)) ++
    [(10, r.vals.die), (2, 0)])

/-- A sweep reply as a reply (R120). -/
def sweepFrame (r : SweepReply) : RingReply := ringReply 0x11 r.id (sweepPayload r)

/-! ### Registers -/

/-- The power-up value of a monitor register (R115): LULL_PERIOD stands at the value that a monitor uses which has received
none (R140); SERIAL, VERSION and CAL, which the manual does not give, start at 0 (notes/assumptions/1). -/
def monDefault (a : Nat) : Nat := if a = 0 then 0xA012 else if a = 0x0A then 60 else 0

/-- A monitor's stored register. -/
def Monitor.reg (m : Monitor) (a : Nat) : Nat := sget monDefault m.regs a

/-- A monitor's register written. -/
def Monitor.setReg (m : Monitor) (a v : Nat) : Monitor := { m with regs := sput monDefault m.regs a (v % 2 ^ 16) }

/-- Values of a monitor that has converted nothing. -/
def MonVals.zero : MonVals :=
  ⟨List.replicate 12 0, List.replicate 12 0, 0, List.replicate 8 0, 0⟩

/-- A monitor after its supply has come: MON_ID 0, everything idle (R115). Its Lull limits stand at the values that a
monitor uses which has received none (R140), its bleed duty at 1. -/
def Monitor.fresh : Monitor :=
  { regs := [], epoch := none, delay := none, held := MonVals.zero, heldEp := 0, converted := false, status := 0,
    lull := false, self := false, vlo := 1000, vhi := 2150, tlo := 100, thi := 460, rounds := [],
    sink := 0, owRes := [], burst := false, passed := none, reply := none, owPort := .e, timers := List.replicate 12 0,
    onMs := List.replicate 12 0, duty := 16, cycleAt := 0, resting := false
    bleeding := List.replicate 12 false, plan := 0, eis := MonEis.idle }

/-- The monitor at a place of the ring. -/
def State.mon (s : State) (k : Nat) : Monitor := sget (fun _ => Monitor.fresh) s.mons k

/-- The monitor at a place of the ring, replaced. -/
def State.setMon (s : State) (k : Nat) (m : Monitor) : State :=
  { s with mons := sput (fun _ => Monitor.fresh) s.mons k m }

/-- The value that READ_REG answers for a register (R115). -/
def Monitor.read (m : Monitor) (a : Nat) : Nat :=
  if a = 0x08 then m.status
  else if 0x10 ≤ a ∧ a ≤ 0x1B then m.timers.getD (a - 0x10) 0
  else if a = 0x1C then m.duty
  else if 0x20 ≤ a ∧ a ≤ 0x3F then m.eis.read a
  else m.reg a

/-- Registers that WRITE_REG may write with any value; FAULT takes 0x0000 only (R115). -/
def monWritable (a v : Nat) : Bool :=
  a == 0x05 || a == 0x06 || a == 0x07 || a == 0x0A || a == 0x0B || a == 0x0C || (a == 0x09 && v == 0)

/-! ### Frames -/

/-- A frame reaches a monitor: its preamble ends a self-Lull (R140); it is repeated out of the other port with HOP + 1 and
HOP_N − 1, whatever its CRC (R109, R110); a bad frame is counted in LINK_ERR; a frame that concerns the monitor has its
effect. -/
def Monitor.onFrame (m : Monitor) (f : Frame) (cmd : Nat) (payload : List Nat) (mine : Bool) (eff : Monitor → Monitor) :
    Monitor :=
  let m := { m with self := false, passed := some (f.port.other, (f.hop + 1) % 256, (f.hopN + 255) % 256) }
  if frameBad f cmd payload then m.setReg 0x0F (satInc 0xFFFF (m.reg 0x0F))
  else if mine then eff m else m

/-- A broadcast command. -/
def State.broadcast (s : State) (k : Nat) (f : Frame) (cmd : Nat) (payload : List Nat) (eff : Monitor → Monitor) : State :=
  s.setMon k ((s.mon k).onFrame f cmd payload f.toAll eff)

/-- A unicast command. -/
def State.unicast (s : State) (k : Nat) (f : Frame) (cmd : Nat) (payload : List Nat) (eff : Monitor → Monitor) : State :=
  s.setMon k ((s.mon k).onFrame f cmd payload (f.names ((s.mon k).reg 0x05)) eff)

/-- A command that goes unicast or broadcast; only unicast is answered. -/
def State.anycast (s : State) (k : Nat) (f : Frame) (cmd : Nat) (payload : List Nat) (eff : Monitor → Monitor) : State :=
  s.setMon k ((s.mon k).onFrame f cmd payload (f.toAll || f.names ((s.mon k).reg 0x05)) eff)

/-- A reply to a command is sent, toward the port the command came from (R109). -/
def Monitor.answer (m : Monitor) (p : Ring) (cmd : Nat) (r : List Nat) : Monitor :=
  { m with reply := some (p, ringReply cmd (m.reg 0x05) r) }

/-! ### Commands -/

/-- ENUM: MON_ID from BASE, DIR and the hop (R113). -/
def Monitor.enum (m : Monitor) (base : Nat) (up : Bool) (h : Nat) : Monitor :=
  if up then m.setReg 0x05 (base + h - 1)
  else if m.reg 0x05 ≠ 0 ∨ base < h then m else m.setReg 0x05 (base - (h - 1))

def execEnum (k : Nat) (f : Frame) (base : Nat) (up : Bool) (s : State) : Out :=
  s.fin (s.broadcast k f 0x01 (packBytes [(6, base), (1, b2n (!up))]) fun m => m.enum base up f.h)

/-- ECHO: an empty reply (R114). -/
def execEcho (k : Nat) (f : Frame) (s : State) : Out := s.fin (s.unicast k f 0x02 [] fun m => m.answer f.port 0x02 [])

/-- READ_REG: the values of `n` registers from `first`. -/
def Monitor.readRegs (m : Monitor) (p : Ring) (first n : Nat) : Monitor :=
  m.answer p 0x03 ((List.range n).flatMap fun i => leBytes 2 (m.read (first + i)))

def execReadReg (k : Nat) (f : Frame) (first n : Nat) (s : State) : Out :=
  s.fin (s.unicast k f 0x03 [first, n] fun m => m.readRegs f.port first n)

/-- A list of register values stored from `first`. -/
def Monitor.storeRegs (m : Monitor) (first : Nat) : List Nat → Monitor
  | [] => m
  | v :: vs => (m.setReg first v).storeRegs (first + 1) vs

/-- May WRITE_REG write these values? -/
def regsWritable (first : Nat) (vs : List Nat) : Bool :=
  (List.range vs.length).all fun i => monWritable (first + i) (vs.getD i 0)

/-- WRITE_REG: status 0x04 and no change where one of the registers is RO (R115). -/
def Monitor.writeRegs (m : Monitor) (p : Ring) (first : Nat) (vs : List Nat) : Monitor :=
  if regsWritable first vs then (m.storeRegs first vs).answer p 0x04 [0x00] else m.answer p 0x04 [0x04]

/-- The payload of WRITE_REG. -/
def writePayload (first : Nat) (vs : List Nat) : List Nat := [first, vs.length] ++ vs.flatMap (leBytes 2)

/-- The Lull limits follow a write of LULL_VLIM or LULL_TLIM, whose packing the manual leaves open: free values. -/
def State.lullFromRegs (s : State) (k first n : Nat) : State :=
  if first ≤ 0x0C ∧ 0x0B < first + n then
    let m := s.mon k
    s.drawn.setMon k { m with
      vlo := s.draw 0 % 2 ^ 12, vhi := s.draw 1 % 2 ^ 12
      tlo := s.draw 2 % 2 ^ 10, thi := s.draw 3 % 2 ^ 10 }
  else s

def execWriteReg (k : Nat) (f : Frame) (first : Nat) (vs : List Nat) (s : State) : Out :=
  let s' := s.unicast k f 0x04 (writePayload first vs) fun m => m.writeRegs f.port first vs
  let done := !frameBad f 0x04 (writePayload first vs) && f.names ((s.mon k).reg 0x05) && regsWritable first vs
  s.fin (if done then s'.lullFromRegs k first vs.length else s')

/-- The trim for the port a frame entered by, in 10 ns. -/
def Monitor.trim (m : Monitor) (p : Ring) : Int := toSigned 16 (m.reg (if p = .e then 0x06 else 0x07))

/-- Is a lead of position `j` (from 0) under test? The monitor pauses bleeding there (R130). -/
def Monitor.tests (m : Monitor) (j : Nat) : Bool :=
  (m.sink :: m.rounds).any fun r => bitAt r j || bitAt r (j + 1)

/-- The switches follow the timers, the duty with the on-part of its cycle, and the pauses of an open-wire test; a switch that
changes gates its position (R130, R176, R236). -/
def Monitor.setSwitches (m : Monitor) : Monitor :=
  let want := (List.range 12).map fun j =>
    decide (0 < m.timers.getD j 0) && decide (0 < m.duty) && !m.resting && !m.tests j
  let e := (List.range 12).foldl (fun (e : MonEis) j =>
    if want.getD j false != m.bleeding.getD j false then e.onBleed j else e) m.eis
  { m with bleeding := want, eis := e }

/-- SAMPLE: a repeat of the epoch is ignored; a running open-wire test ends, with OW_ACTIVE where a sink was on; the sample
is scheduled at (40 − h) × 160 ns + 400 ns − TRIM; the lock-in hardware closes its epoch (R116, R132, R176). -/
def Monitor.onSample (m : Monitor) (f : Frame) (epoch : Nat) (windowStart : Bool) : Monitor :=
  if m.epoch = some epoch then m
  else
    let d : Int := ((40 : Int) - f.h) * 160 + 400 - 10 * m.trim f.port
    ({ m with
      epoch := some epoch, delay := some d.toNat, sink := 0, rounds := []
      status := putBit m.status 8 (m.sink != 0), eis := m.eis.onSample (m.epoch.getD epoch) epoch windowStart } :
      Monitor).setSwitches

/-- The on-part of the running duty cycle is over by an `up` instant: the switches open until the cycle ends (R236). The
monitor finds it at the SAMPLE or the conversion that follows (notes/assumptions/26). -/
def Monitor.dutyRest (m : Monitor) (up : Nat) : Monitor :=
  if m.duty < 16 ∧ m.cycleAt + m.duty * 625000000 ≤ up then ({ m with resting := true } : Monitor).setSwitches else m

/-- The payload of SAMPLE (R114). -/
def samplePayload (epoch : Nat) (windowStart : Bool) : List Nat := leBytes 8 epoch ++ [b2n windowStart]

/-- A test that SAMPLE has ended is reported: the coding of OW_RESULT is a free value (R132). -/
def State.owReport (s : State) (k : Nat) : State :=
  let m := (s.mon k).setReg 0x0E s.draw
  s.drawn.setMon k (m.answer m.owPort 0x30 (leBytes 2 (m.reg 0x0E)))

def execSample (k : Nat) (f : Frame) (epoch : Nat) (windowStart : Bool) (s : State) : Out :=
  let s' := s.broadcast k f 0x10 (samplePayload epoch windowStart) fun m => (m.dutyRest s.up).onSample f epoch windowStart
  s.fin (if (s.mon k).sink ≠ 0 ∧ (s'.mon k).sink = 0 then s'.owReport k else s')

/-- The sample delay has run out: the monitor holds all its inputs (R116, R119). -/
def execMonitorSampleInstant (k : Nat) (v : MonVals) (s : State) : Out :=
  let m := s.mon k
  match m.delay, m.epoch with
  | some _, some e => s.fin (s.setMon k { m with delay := none, held := v, heldEp := e % 2 ^ 16, converted := false })
  | _, _ => s.fin s

/-- What a monitor reports in the sweep (R120). -/
def Monitor.sweep (m : Monitor) : SweepReply := ⟨m.reg 0x05, m.heldEp, m.status, m.held⟩

/-- READ_SWEEP: a monitor within the hop range answers in its slot; what it reports of a lost link or a wake burst is then
reported (R120). -/
def Monitor.readSweep (m : Monitor) (p : Ring) (first last h : Nat) : Monitor :=
  if first ≤ h ∧ h ≤ last then
    { m with reply := some (p, sweepFrame m.sweep), status := putBit (putBit m.status 10 false) 9 false }
  else m

def execReadSweep (k : Nat) (f : Frame) (first last : Nat) (s : State) : Out :=
  s.fin (s.broadcast k f 0x11 [first, last] fun m => m.readSweep f.port first last f.h)

/-- The rounds of an open-wire test: odd leads, even leads, lead C0; only those that hold a lead of the mask (R130). -/
def owRounds (mask : Nat) : List Nat :=
  [Nat.land mask 0xAAA, Nat.land mask 0x1554, Nat.land mask 1].filter (· != 0)

/-- OW_TEST: the first round's sinks go on, and the positions beside the tested leads stop bleeding (R130). -/
def Monitor.owTest (m : Monitor) (p : Ring) (mask : Nat) : Monitor :=
  let r := owRounds mask
  ({ m with sink := r.headD 0, rounds := r.tail, owRes := [], owPort := p, eis := m.eis.onSinks (r.headD 0) } :
    Monitor).setSwitches

def execOwTest (k : Nat) (f : Frame) (mask : Nat) (s : State) : Out :=
  s.fin (s.unicast k f 0x30 (leBytes 2 mask) fun m => m.owTest f.port mask)

/-- The verdict on a lead from the change of its node voltage in mV (R130): 0 intact, 1 open, 2 indeterminate. -/
def owVerdict (change : Nat) : Nat := if change ≤ 20 then 0 else if 100 ≤ change then 1 else 2

/-- A round ends: its sinks go off, its verdicts are kept, and the next round starts or the test ends (R130). `change` holds
the change of each lead's node in mV. -/
def Monitor.owRound (m : Monitor) (change : List Nat) : Monitor :=
  if m.sink = 0 then m
  else
    let res := m.owRes ++ ((List.range 13).filter fun n => bitAt m.sink n).map fun n => (n, owVerdict (change.getD n 0))
    ({ m with
      sink := m.rounds.headD 0, rounds := m.rounds.tail, owRes := res, eis := m.eis.onSinks (m.rounds.headD 0) } :
      Monitor).setSwitches

/-- The end of the last round sends OW_RESULT. -/
def execOwRoundDone (k : Nat) (change : List Nat) (s : State) : Out :=
  let s' := s.setMon k ((s.mon k).owRound change)
  s.fin (if (s.mon k).sink ≠ 0 ∧ (s.mon k).rounds = [] then s'.owReport k else s')

/-- A command code outside the table: status 0x04 to a unicast, nothing to a broadcast (R114). -/
def execUnknownRingCommand (k : Nat) (f : Frame) (code : Nat) (payload : List Nat) (s : State) : Out :=
  s.fin (s.unicast k f code payload fun m => m.answer f.port code [0x04])

/-- LULL_ENTER: the monitor starts checking its inputs every LULL_PERIOD (R136, R137). -/
def Monitor.lullEnter (m : Monitor) (period vlo vhi tlo thi : Nat) : Monitor :=
  { m.setReg 0x0A period with lull := true, vlo := vlo, vhi := vhi, tlo := tlo, thi := thi }

/-- The payload of LULL_ENTER (R114). -/
def lullPayload (period vlo vhi tlo thi : Nat) : List Nat :=
  packBytes [(16, period), (12, vlo), (12, vhi), (10, tlo), (10, thi)]

def execLullEnter (k : Nat) (f : Frame) (period vlo vhi tlo thi : Nat) (s : State) : Out :=
  let b := lullPayload period vlo vhi tlo thi
  let s' := s.broadcast k f 0x50 b fun m => m.lullEnter period vlo vhi tlo thi
  s.fin (if !frameBad f 0x50 b && f.toAll then
      s'.drawn.setMon k (((s'.mon k).setReg 0x0B (s'.draw 0)).setReg 0x0C (s'.draw 1))
    else s')

/-- The STATUS fault bits (R133): [15:12], [7] and [6]. -/
def statusFaults (w : Nat) : Nat := Nat.land w 0xF0C0

/-- Would a Lull check send a wake burst (R137)? -/
def Monitor.alarmed (m : Monitor) (v : MonVals) : Bool :=
  v.coarse.any (fun c => decide (c < m.vlo) || decide (m.vhi < c)) ||
    v.ntc.any (fun c => decide (c < m.tlo) || decide (m.thi < c)) || statusFaults m.status != 0

/-- A Lull check: a wake burst where a limit or a fault asks for it, with its cause in WAKE_CAUSE, whose coding the manual
leaves open: a free value (R137). -/
def execMonitorLullCheck (k : Nat) (v : MonVals) (s : State) : Out :=
  let m := s.mon k
  if !(m.lull || m.self) then s.fin s
  else if m.alarmed v then
    s.fin (s.drawn.setMon k ({ m with burst := true, status := putBit m.status 9 true }.setReg 0x0D s.draw))
  else s.fin (s.setMon k { m with burst := false })

/-- 60 s without a valid frame: LINK_LOST and Lull on its own, on the Lull values that it holds: the last ones received, or
those it started with (R140). -/
def execMonitorSelfLull (k : Nat) (s : State) : Out :=
  let m := s.mon k
  s.fin (s.setMon k { m with self := true, status := putBit m.status 10 true })

/-- A monitor's stack supply returns: MON_ID 0 and idle registers; SERIAL, VERSION and CAL are its own (R115). -/
def execMonitorPowerUp (k : Nat) (s : State) : Out :=
  let keep := (s.mon k).regs.filter fun x => decide ((1 ≤ x.1 ∧ x.1 ≤ 4) ∨ 0x40 ≤ x.1)
  s.fin (s.setMon k { Monitor.fresh with regs := keep })

/-! ### Bleeding (R236) -/

/-- The duty in sixteenths at a die temperature code: 16 at or below 95 °C, 0 at or above 125 °C (R236). -/
def bleedDuty (die : Nat) : Nat :=
  if die ≤ 600 then 16 else if 720 ≤ die then 0 else 16 * (720 - die) / 120

/-- A duty cycle starts: DUTY_LIMIT and STATUS.DIE_HOT from the latest die temperature reading. -/
def Monitor.setDuty (m : Monitor) (up : Nat) : Monitor :=
  let d := bleedDuty m.held.die
  { m with duty := d, cycleAt := up, resting := false, status := putBit m.status 11 (decide (d < 16)) }

/-- BLEED_PLAN: the 12 timers and PLAN_ID are replaced, and a duty cycle starts (R234, R236). -/
def Monitor.bleedPlan (m : Monitor) (up : Nat) (p : Ring) (plan : Nat) (timers : List Nat) : Monitor :=
  let m := { m with
    plan := plan % 256, timers := (List.range 12).map fun j => timers.getD j 0 % 2 ^ 16, onMs := List.replicate 12 0 }
  (m.setDuty up).setSwitches.answer p 0x20 [0x00, plan % 256]

/-- The payload of BLEED_PLAN (R114). -/
def planPayload (plan : Nat) (timers : List Nat) : List Nat := (plan % 256) :: timers.flatMap (leBytes 2)

def execBleedPlan (k : Nat) (f : Frame) (plan : Nat) (timers : List Nat) (s : State) : Out :=
  s.fin (s.unicast k f 0x20 (planPayload plan timers) fun m => m.bleedPlan s.up f.port plan timers)

/-- BLEED_STOP: the timers of the masked positions end (R237). -/
def Monitor.bleedStop (m : Monitor) (p : Ring) (mask : Nat) (mine : Bool) : Monitor :=
  let m := { m with timers := (List.range 12).map fun j => if bitAt mask j then 0 else m.timers.getD j 0 }
  let m := m.setSwitches
  if mine then m.answer p 0x21 [0x00] else m

def execBleedStop (k : Nat) (f : Frame) (mask : Nat) (s : State) : Out :=
  s.fin (s.anycast k f 0x21 (leBytes 2 mask) fun m => m.bleedStop f.port mask (!f.toAll))

/-- The on-time of a duty cycle of 10 s leaves a timer: the seconds left and the milliseconds of the running second. -/
def bleedSpend (t acc onMs : Nat) : Nat × Nat :=
  let x := acc + onMs
  if t ≤ x / 1000 then (0, 0) else (t - x / 1000, x % 1000)

/-- A duty cycle ends and the next begins: the timers of the switches that were on in it have counted their on-time, and the
duty follows the die temperature (R236). -/
def Monitor.bleedCycle (m : Monitor) (up : Nat) : Monitor :=
  let r : List (Nat × Nat) := (List.range 12).map fun j =>
    let t := m.timers.getD j 0
    let a := m.onMs.getD j 0
    if m.bleeding.getD j false || (m.resting && !m.tests j) then bleedSpend t a (m.duty * 625) else (t, a)
  let m := { m with timers := r.map Prod.fst, onMs := r.map Prod.snd }
  (m.setDuty up).setSwitches

def execBleedDutyCycle (k : Nat) (s : State) : Out := s.fin (s.setMon k (((s.mon k).dutyRest s.up).bleedCycle s.up))

/-- A position's timer reaches 0: its switch opens (R236). `n` counts from 1. -/
def execBleedTimerEnd (k n : Nat) (s : State) : Out :=
  let m := s.mon k
  s.fin (s.setMon k ({ m with timers := m.timers.set (n - 1) 0 } : Monitor).setSwitches)

/-- STATUS fault bits (R133): those that the monitor finds now stand in STATUS, and each is latched in FAULT (R115). -/
def Monitor.findFaults (m : Monitor) (faults : Nat) : Monitor :=
  let w := Nat.land m.status 0x0F3F + statusFaults faults
  { m.setReg 0x09 (Nat.lor (m.reg 0x09) (statusFaults faults)) with status := w }

/-- The conversions are finished; the values stand until the next SAMPLE (R119). A position whose coarse value lies below
LULL_VLIM.VLO stops bleeding at once (R236). `eisOut` names the positions whose EIS samples have left their span in the
running epoch (R170, R176), `faults` the STATUS fault bits of the faults that the monitor finds. -/
def execMonitorConversionDone (k eisOut faults : Nat) (s : State) : Out :=
  let m := ((s.mon k).findFaults faults).dutyRest s.up
  let low := (List.range 12).map fun j => decide (m.held.coarse.getD j 0 < m.vlo)
  let m := { m with timers := (List.range 12).map fun j => if low.getD j false then 0 else m.timers.getD j 0 }
  s.fin (s.setMon k ({ m with converted := true, eis := m.eis.onRange eisOut } : Monitor).setSwitches)

/-! ### Impedance (R178, R179) -/

/-- The payload of EIS_CFG: SUB and its fields, least significant byte first (R178). -/
def eisPayload (kind : Nat) (fs : List Nat) : List Nat :=
  kind :: (match kind with
    | 1 => packBytes ([8, 16, 24, 24, 16, 16].zip fs)
    | 2 => packBytes ([8, 32, 32, 32, 32, 32, 32, 32, 32].zip fs)
    | 3 => packBytes ([8, 24, 24].zip fs)
    | _ => packBytes ([8].zip fs))

/-- An EIS_CFG frame: its effect on the lock-in hardware, and the status byte of a unicast (R114, R178). -/
def State.eisFrame (s : State) (k : Nat) (f : Frame) (kind : Nat) (fs : List Nat) (eff : MonEis → MonEis) : State :=
  s.anycast k f 0x40 (eisPayload kind fs) fun m =>
    let m := { m with eis := eff m.eis }
    if f.toAll then m else m.answer f.port 0x40 [0x00]

def execEisSetup (k : Nat) (f : Frame) (win tb nep pUs settle fmask : Nat) (s : State) : Out :=
  s.fin (s.eisFrame k f 1 [win, tb, nep, pUs, settle, fmask] fun e => e.onSetup [win % 256, tb, nep, pUs, settle, fmask])

def execEisFreq (k : Nat) (f : Frame) (first : Nat) (codes : List Nat) (s : State) : Out :=
  s.fin (s.eisFrame k f 2 (first :: codes) fun e => e.onFreq first codes)

def execEisAccept (k : Nat) (f : Frame) (win idx count : Nat) (s : State) : Out :=
  s.fin (s.eisFrame k f 3 [win, idx, count] fun e => e.onAccept win idx count)

def execEisAbortFrame (k : Nat) (f : Frame) (win : Nat) (s : State) : Out :=
  s.fin (s.eisFrame k f 4 [win] fun e => e.onAbort win)

/-- EIS_READ: a frequency group, the gate record, SEL 0xFF without a result, or status 0x04 (R179). `bins` holds the
measured bins of the group as binary32 words, RE then IM, position by position, entry by entry. -/
def execEisRead (k : Nat) (f : Frame) (win sel : Nat) (bins : List Nat) (s : State) : Out :=
  s.fin (s.unicast k f 0x41 [win % 256, sel] fun m => m.answer f.port 0x41 (m.eis.readReply win sel bins))

end Sys2Proof.Machine
end

