-- ==== Sys2Proof/Machine/Chain.lean ====
section
/-! DEFINITION. The chain master: enumeration, the sweep with its quality conditions and verdicts, ring breaks, the command
gap and the CHAIN page's commands (R111 to R135, R141, R142). -/

namespace Sys2Proof.Machine

open Sys2Proof

/-! ### What the chain master keeps -/

/-- What it keeps of an ID, replaced. -/
def Chain.setInf (c : Chain) (k : Nat) (i : MonInfo) : Chain :=
  { c with info := sput (fun _ => MonInfo.none) c.info k i }

/-- The IDs of the ring. -/
def State.ids (s : State) : List Nat := (List.range s.monCount).map (· + 1)

/-- The leads declared open now. -/
def State.openLeads (s : State) : Nat :=
  ((s.ids.map fun k => ((s.chain.inf k).leads.filter (·.isOpen)).length)).sum

/-! ### Frames of the chain master (R109 to R112, R114) -/

/-- The monitor that a command names; 0 for a broadcast. -/
def RingCmd.mon : RingCmd → Nat
  | .ow k _ _ => k
  | .bleedStop k _ => k
  | .bleedPlan _ k _ _ => k
  | .eisCfg k _ _ => k
  | .eisRead k _ _ => k
  | .mreg k _ _ _ => k
  | .bleedRead k _ => k
  | .trim k => k
  | .vlim k _ => k
  | .lullEnter .. => 0
  | .lullRead k => k
  | .idRead k => k

/-- Is a command broadcast, so that no reply follows? -/
def RingCmd.toAll (c : RingCmd) : Bool := c.mon == 0

/-- CMD and payload of a command. -/
def RingCmd.content : RingCmd → Nat × List Nat
  | .ow _ leads _ => (0x30, leBytes 2 leads)
  | .bleedStop _ mask => (0x21, leBytes 2 mask)
  | .bleedPlan _ _ plan t => (0x20, planPayload plan t)
  | .eisCfg _ kind fs => (0x40, eisPayload kind fs)
  | .eisRead _ win sel => (0x41, [win, sel])
  | .mreg _ reg wr data => if wr then (0x04, writePayload reg [data]) else (0x03, [reg, 1])
  | .bleedRead .. => (0x03, [0x10, 13])
  | .trim _ => (0x02, [])
  | .vlim _ data => (0x04, writePayload 0x0B [data])
  | .lullEnter p a b c d => (0x50, lullPayload p a b c d)
  | .lullRead _ => (0x03, [0x0A, 1])
  | .idRead _ => (0x03, [0x05, 1])

/-- The payload bytes of a command's reply. -/
def RingCmd.replyLen : RingCmd → Nat
  | .bleedPlan .. => 2
  | .eisRead _ _ sel => if sel = 4 then 212 else 386
  | .mreg _ _ wr _ => if wr then 1 else 2
  | .bleedRead .. => 26
  | .trim _ => 0
  | .ow .. => 2
  | .lullRead _ => 2
  | .idRead _ => 2
  | _ => 1

/-- The port by which a monitor is addressed: the one that reads it in the sweep (R121, R127, R234). -/
def State.portTo (s : State) (k : Nat) : Ring :=
  if (if s.gb F.CHAIN_STAT_OPEN_MODE then s.chain.edge.1 else (s.monCount + 1) / 2) < k then .w else .e

/-- The hop of a monitor from a port (R112). -/
def State.hopFrom (s : State) (p : Ring) (k : Nat) : Nat := if p = .e then k else s.monCount + 1 - k

/-- ADDR of a command as CHAIN_CFG.ADDR_MODE has it; the read-back of MON_ID goes by hop in either mode (R112, R138). -/
def State.addrOf (s : State) (p : Ring) (c : RingCmd) : Nat :=
  let byHop := s.gb F.CHAIN_CFG_ADDR_MODE || (match c with
    | .idRead _ => true
    | _ => false)
  if c.toAll then 0 else if byHop then 0x80 + s.hopFrom p c.mon % 64 else c.mon % 64

/-- The ports by which a command leaves: a broadcast on an open ring, and LULL_ENTER always, by both (R127, R136). -/
def State.portsOf (s : State) (c : RingCmd) : List Ring :=
  let both := s.gb F.CHAIN_STAT_OPEN_MODE || (match c with
    | .lullEnter .. => true
    | _ => false)
  if !c.toAll then [s.portTo c.mon] else if both then [.e, .w] else [.e]

/-- A frame leaves by a port. -/
def State.sendFrame (s : State) (p : Ring) (addr cmd : Nat) (payload : List Nat) : State :=
  { s with chain := { s.chain with wire := s.chain.wire ++ [(p, ringFrame addr cmd payload)] } }

/-! ### The command gap (R111, R122) -/

/-- The order of commands within a gap (R122); a repeat comes first. Commands to which the rule gives no class go with those
of the mailbox (notes/assumptions/27). -/
def Queued.prio (q : Queued) : Nat :=
  if q.tries ≠ 0 then 1
  else match q.cmd with
    | .ow _ _ 2 => 8
    | .ow .. => 2
    | .bleedStop .. => 3
    | .bleedPlan .. => 4
    | .eisCfg .. => 5
    | .eisRead .. => 5
    | .mreg .. => 6
    | .bleedRead .. => 6
    | .lullEnter .. => 6
    | .vlim .. => 6
    | .lullRead _ => 6
    | .idRead _ => 6
    | .trim _ => 7

/-- A command joins the waiting ones behind those of its own and of higher order. -/
def ringInsert (q : Queued) : List Queued → List Queued
  | [] => [q]
  | x :: l => if x.prio ≤ q.prio then x :: ringInsert q l else q :: x :: l

/-- The time of a number of bytes on the link, in ns (R109). -/
def byteNs (n : Nat) : Nat := 640 * n

/-- The time that a command and its reply take on the ring in ns: the frames, the turnaround, and the path of 40 hops and
100 m there and back (R108, R109, R111). -/
def RingCmd.ns (c : RingCmd) : Nat :=
  let path := 40 * 162 + 550
  byteNs (11 + (c.content.2).length) + path + (if c.toAll then 0 else 2005 + byteNs (6 + c.replyLen) + path)

/-- The time that the rounds of an open-wire test take in ns (R130). -/
def owNs (leads : Nat) : Nat := 250000 * (owRounds leads).length

/-- Does a command fit into what is left of the gap, its reply included (R122)? The rounds of an open-wire test end 100 µs
before the next SAMPLE starts to leave, which is 6.3 µs before the gap's end (R130). -/
def fits (left : Option Nat) (c : RingCmd) : Bool :=
  match left with
  | none => true
  | some n =>
    match c with
    | .ow _ leads _ => decide (c.ns + owNs leads ≤ n) && decide (c.ns + owNs leads + 106300 ≤ n)
    | _ => decide (c.ns ≤ n)

/-- What a command takes of the gap. -/
def RingCmd.cost (c : RingCmd) : Nat :=
  match c with
  | .ow _ leads _ => c.ns + owNs leads
  | _ => c.ns

/-- An open-wire test that does not fit whole goes as several commands of one round each (R130). -/
def splitOw (left : Option Nat) (q : Queued) : List Queued :=
  match q.cmd with
  | .ow k leads kind =>
    if fits left q.cmd then [q] else (owRounds leads).map fun r => { q with cmd := .ow k r kind }
  | _ => [q]

/-- What a command leaves marked once it is out: the leads under test. -/
def Chain.mark (c : Chain) : RingCmd → Chain
  | .ow k leads _ => c.setInf k { c.inf k with testing := leads }
  | _ => c

/-- A command is sent: its frames leave, and the gap is shorter by it. -/
def State.ringOut (s : State) (c : RingCmd) : State :=
  let s := (s.portsOf c).foldl (fun s p => s.sendFrame p (s.addrOf p c) c.content.1 c.content.2) s
  { s with chain := { s.chain.mark c with gapNs := s.chain.gapNs.map (· - c.cost) } }

/-- The next commands of an open gap: broadcasts go out at once, the first unicast awaits its reply; repeats wait for a later
gap, and so does a frame that does not fit. -/
def pump (s : State) (kept : List Queued) : List Queued → State
  | [] => { s with chain := { s.chain with queue := kept.reverse } }
  | q :: l =>
    if q.later || !fits s.chain.gapNs q.cmd then pump s (q :: kept) l
    else if q.cmd.toAll then pump (s.ringOut q.cmd) kept l
    else
      let s := s.ringOut q.cmd
      { s with chain := { s.chain with queue := kept.reverse ++ l, await := some q } }

/-- The gap goes on where it is open and nothing awaits a reply. -/
def State.ringPump (s : State) : State :=
  if s.chain.gap && s.chain.await.isNone then pump s [] (s.chain.queue.flatMap (splitOw s.chain.gapNs)) else s

/-- Is a command queued or awaiting its reply? -/
def Chain.waits (c : Chain) (p : RingCmd → Bool) : Bool :=
  c.queue.any (fun q => p q.cmd) || (c.await.map fun q => p q.cmd).getD false

/-- An open-wire test, and one that CHAIN_OW_REQ asked for. -/
def RingCmd.isOw : RingCmd → Bool
  | .ow .. => true
  | _ => false
def RingCmd.isReq : RingCmd → Bool
  | .ow _ _ 1 => true
  | _ => false

/-- An open-wire test is running or queued. -/
def Chain.owBusy (c : Chain) : Bool := c.waits RingCmd.isOw

/-- CHAIN_STAT.OW_BUSY follows the queue. -/
def State.owStat (s : State) : State := s.p F.CHAIN_STAT_OW_BUSY (b2n s.chain.owBusy)

/-- A command is queued for the ring. -/
def State.ringSend (s : State) (cmd : RingCmd) : State :=
  (({ s with chain := { s.chain with queue := ringInsert ⟨cmd, 0, false⟩ s.chain.queue } } : State).ringPump).owStat

/-- Several commands are queued. -/
def State.ringSendAll (s : State) (cmds : List RingCmd) : State := cmds.foldl State.ringSend s

/-- Bleed plans that wait are not sent any more (R101, R234). -/
def State.dropPlans (s : State) : State :=
  let isPlan (q : Queued) : Bool := match q.cmd with
    | .bleedPlan .. => true
    | _ => false
  { s with chain := { s.chain with queue := s.chain.queue.filter fun q => !isPlan q } }

/-- The masked timers of a monitor's bleed plan become 0. -/
def RingCmd.unbleed (k mask : Nat) : RingCmd → RingCmd
  | .bleedPlan l j plan t =>
    .bleedPlan l j plan (if j = k then (List.range t.length).map fun i => if bitAt mask i then 0 else t.getD i 0 else t)
  | c => c

/-- A stopped position receives timer 0 from the plans that are still on their way (R232). -/
def State.unbleed (s : State) (k mask : Nat) : State :=
  let f (q : Queued) : Queued := { q with cmd := q.cmd.unbleed k mask }
  { s with chain := { s.chain with queue := s.chain.queue.map f, await := s.chain.await.map f } }

/-- LULL_VLIM is written to every monitor; its packing the manual leaves open: a free value (R236). -/
def State.sendVlim (s : State) (ks : List Nat) : State := s.drawn.ringSendAll (ks.map fun k => .vlim k (s.draw % 2 ^ 16))

/-! ### Stopping a bleed (R237) -/

/-- The modelled timers of the masked positions of a monitor end; monitor 0 stands for all. -/
def Bal.stop (b : Bal) (k mask : Nat) : Bal :=
  { b with
    due := if k = 0 then [] else b.due
    pos := b.pos.map fun x =>
      if k = 0 ∨ ((x.1 - 1) / 12 + 1 = k ∧ bitAt mask ((x.1 - 1) % 12)) then
        (x.1, { x.2 with remain := 0, corr := 0 })
      else x }

/-- Is a modelled timer of the masked positions running in either lane? -/
def State.bleedRuns (s : State) (k mask : Nat) : Bool :=
  (List.range 12).any fun j => bitAt mask j &&
    lanes.any fun l => decide (0 < ((s.bal.get l).at1 (12 * (k - 1) + j + 1)).remain)

/-- BLEED_STOP is sent, with its cause in 0x0B03. The causes in the order of R237: 1 open lead, 2 BLEED_FAULT, 3 verdict
LOW, 4 exclusion, 5 CONFIG, 6 STOP_ALL or ENABLE 0. -/
def State.bleedStop (s : State) (k mask cause : Nat) : State :=
  let s := { s with bal := ⟨s.bal.a.stop k mask, s.bal.b.stop k mask⟩ }
  let s := if k = 0 then s.dropPlans else s.unbleed k mask
  (s.ringSend (.bleedStop k mask)).ev 0x0B03 k (cause :: k :: leBytes 2 mask)

/-! ### Enumeration (R113, R134, R135) -/

/-- Are these IDs what an open ring must show: 1 to a from RING-E, MON_COUNT downwards from RING-W (R113)? -/
def openRingOk (n : Nat) (eIds wIds : List Nat) : Bool :=
  eIds == (List.range eIds.length).map (· + 1) && wIds == (List.range wIds.length).map (fun i => n - i) &&
    decide (eIds.length + wIds.length ≤ n) && !(eIds ++ wIds).contains 0

/-- The serials read at an enumeration, and the event for each that differs from the committed configuration (R134, R135). -/
def State.takeSerials (s : State) (serials : List (Nat × Nat)) : State :=
  let clear := { s with chain := { s.chain with
    info := s.chain.info.filterMap fun x =>
      let i := { x.2 with serEnum := 0 }
      if i = MonInfo.none then Option.none else some (x.1, i) } }
  serials.foldl (fun s x =>
    let s := { s with chain := s.chain.setInf x.1 { s.chain.inf x.1 with serEnum := x.2 } }
    s.evIf (s.serStored x.1 != x.2) 0x080C x.1 (x.1 :: leBytes 6 (s.serStored x.1) ++ leBytes 6 x.2)) clear

/-- TRIM_p = D − h × 160 ns, rounded to 10 ns and held to −1,280 to +1,270 ns, in units of 10 ns; D is half of the round
trip less 2,000 ns (R117). -/
def trimOf (h : Nat) (rt : Nat) : Int := clampI (-128) 127 ((((rt : Int) - 2000) / 2 - h * 160 + 5) / 10)

/-- ECHO has measured a monitor from the ports that reach it: `e` and `w` are the round trips in ns. Its trims are kept
here and written into its TRIM registers (R117). -/
def trimMeasure (s : State) (k : Nat) (e w : Option Nat) : State :=
  let i := s.chain.inf k
  let tE := (e.map (trimOf k)).getD i.trimE
  let tW := (w.map (trimOf (s.monCount + 1 - k))).getD i.trimW
  let s := { s with chain := s.chain.setInf k { i with trimE := tE, trimW := tW } }
  s.setMon k (((s.mon k).setReg 0x06 (ofSigned 16 tE)).setReg 0x07 (ofSigned 16 tW))

def execTrimMeasure (k : Nat) (e w : Option Nat) (s : State) : Out := s.fin (trimMeasure s k e w)

/-- Enumeration ends (R113). `loop` is the HOP with which ENUM left the ring at RING-W, `eIds` and `wIds` the MON_IDs read
by hop from each port, `serials` what was read of each ID and `trims` the round trips measured from each port. -/
def enumDone (s : State) (loop : Option Nat) (eIds wIds : List Nat) (serials : List (Nat × Nat))
    (trims : List (Nat × Option Nat × Option Nat)) : State :=
  let n := s.monCount
  let s := s.p F.CHAIN_STAT_ENUM_BUSY 0
  let closed := loop == some n
  let good := match loop with
    | some h => h == n
    | none => openRingOk n eIds wIds
  let start := s.clock.ringAt.isNone
  let s := { s with chain := { s.chain with wiring := !good, edge := (eIds.length, wIds.length) } }
  let s := (s.p F.CHAIN_STAT_COUNT_OK (b2n good)).p F.CHAIN_STAT_RING_CLOSED (b2n (good && closed))
  let s := s.p F.CHAIN_STAT_OPEN_MODE (b2n (good && !closed))
  let s :=
    if good then
      let s := (s.p F.CHAIN_STAT_REACH_E eIds.length).p F.CHAIN_STAT_REACH_W wIds.length
      let s := (trims.foldl (fun s x => trimMeasure s x.1 x.2.1 x.2.2) s).ev 0x080A 0 [eIds.length, wIds.length]
      let s := (s.takeSerials serials).sendVlim (eIds ++ wIds)
      s.evIf (!closed) 0x0801 0 [eIds.length, wIds.length]
    else (s.takeSerials serials).ev 0x080B 0 [eIds.length, wIds.length]
  if start then s.ringStarted.ringSendAll (s.ids.map fun k => .bleedRead k true) else s

def execEnumerationDone (loop : Option Nat) (eIds wIds : List Nat) (serials : List (Nat × Nat))
    (trims : List (Nat × Option Nat × Option Nat)) (s : State) : Out := s.fin (enumDone s loop eIds wIds serials trims)

/-! ### The image of an epoch and the slots that take it (R153, R155, R156) -/

/-- The verdict bytes: two bits per position. -/
def verdictBytes : List Nat → List Nat
  | a :: b :: c :: d :: l => (a + 4 * b + 16 * c + 64 * d) :: verdictBytes l
  | _ => []

/-- The bytes 0x0000 to 0x14F7 of an image. -/
def Snap.body (f : Snap) : List Nat :=
  leBytes 2 0x534E ++ leBytes 2 1 ++ leBytes 2 f.flags ++ [f.tqual, f.monCount] ++ leBytes 8 f.epoch ++ leBytes 8 f.t ++
    leBytes 4 f.pUs ++ [f.nsMon, f.nrMon] ++ leBytes 2 f.owPos ++ leBytes 2 f.node ++ leBytes 2 f.sweepUs ++
    List.replicate 28 0 ++ leBytes 4 (ofSigned 32 f.iInst) ++ leBytes 4 (ofSigned 32 f.iAvg) ++
    leBytes 8 (ofSigned 64 f.q) ++ leBytes 4 f.v ++ leBytes 4 (ofSigned 32 f.hall) ++
    ((List.range 3).flatMap fun j => leBytes 2 (ofSigned 16 (f.temps.getD j 0))) ++ [0, 0] ++
    padTo 7 f.qs ++ List.replicate 25 0 ++
    (f.mons.flatMap fun m => m.fine.flatMap fun v => leBytes 4 (ofSigned 32 v)) ++
    (f.mons.flatMap fun m => m.coarse.flatMap fun v => leBytes 2 v) ++ (f.mons.flatMap fun m => leBytes 2 m.stack) ++
    (f.mons.flatMap fun m => m.ntc.flatMap fun v => leBytes 2 v) ++ (f.mons.flatMap fun m => leBytes 2 m.die) ++
    (f.mons.flatMap fun m => leBytes 2 m.mstat) ++ (f.mons.flatMap fun m => m.qf) ++ (f.mons.flatMap fun m => m.qc) ++
    (f.mons.flatMap fun m => m.qt) ++ (f.mons.map fun m => m.qm) ++
    verdictBytes (f.mons.flatMap fun m => m.verdict) ++ List.replicate 40 0

/-- Does a lane's DRAM take the writes of the snapshot fabric: not in RESET, not before the boot ROM has initialised it, and
not under a fault of its controller (R156)? -/
def State.dramOpen (s : State) (l : Lane) : Bool := s.laneState l != 0 && !s.dramShut.get l

/-- Bytes written to the DRAM of every lane that takes them. -/
def State.dramBoth (s : State) (a : Nat) (bs : List Nat) : State :=
  lanes.foldl (fun s l => if s.dramOpen l then s.dramStore l a bs else s) s

/-- The bytes from `a` to `b` of the snapshot that forms go into its slot as their data arrive (R155). -/
def State.slotWrite (s : State) (f : Snap) (a b : Nat) : State :=
  match f.slot with
  | some (x, _) => s.dramBoth (x + a) ((f.body.take b).drop a)
  | none => s

/-! ### The sweep (R116, R120, R125 to R127) -/

/-- A SAMPLE that finds an open-wire test out ends it; the test is repeated in a later gap (R132, R141). -/
def State.owAborted (s : State) : State :=
  match s.chain.await with
  | some ⟨.ow k leads kind, n, _⟩ =>
    let s := { s with chain := { s.chain with await := none, queue := ringInsert ⟨.ow k leads kind, n, false⟩ s.chain.queue } }
    if kind = 1 then (s.p F.CHAIN_OW_RES_ABORTED 1).p F.CHAIN_OW_RES_MON k else s
  | _ => s

/-- Does an impedance window start with the SAMPLE of epoch `n` at instant `t` (R168, R178)? -/
def State.windowDue (s : State) (n t : Nat) : Bool :=
  let e := s.eis.get (s.auth.getD .a)
  (e.phase == 1 && decide (e.notBefore ≤ t)) ||
    (e.phase == 2 && decide (n = e.cur.startEp + e.cur.nep) && e.next.isSome && !s.gb F.SYS_STATE_THROTTLED)

/-- SAMPLE of the next epoch leaves, 6,800 ns before its sample instant: from RING-E, on an open ring from both ports. The gap
closes and the epoch's sweep is empty (R116, R122, R127). -/
def sampleLaunch (s : State) : State :=
  match s.clock.next with
  | none => s
  | some (n, t) =>
    if s.samples then
      let s := (s.reach (t - 6800)).owAborted
      let both := s.gb F.CHAIN_STAT_OPEN_MODE
      let s := { s with chain := { s.chain with
        gap := false, both := both, looped := false, sweep := [], replies := [], again := [], silent := [], mE := 0, mW := 0
        wire := [] } }
      (if both then [Ring.e, Ring.w] else [Ring.e]).foldl (fun s p =>
        s.sendFrame p 0 0x10 (samplePayload n (s.windowDue n t))) s
    else s

/-- The hops that each port reads: a half each on a closed ring, rounded up at RING-E; on an open ring each port as far as
the other did not reach in the epoch before (R121, R127). -/
def State.ranges (s : State) : Nat × Nat :=
  let n := s.monCount
  if s.chain.both then (n - s.chain.edge.2, n - s.chain.edge.1) else ((n + 1) / 2, n / 2)

/-- A READ_SWEEP leaves by a port, for the hops `a` to `b`. -/
def State.readHops (s : State) (p : Ring) (a b : Nat) (extra : Bool) : State :=
  if a ≤ b then
    let s := s.sendFrame p 0 0x11 [a, b]
    { s with chain := { s.chain with sweep := (p, a, b, extra) :: s.chain.sweep } }
  else s

/-- READ_SWEEP leaves both ports with the hops that each reads (R120, R121). -/
def sweepStart (s : State) : State :=
  let s := { s with chain := { s.chain with mE := 0, mW := 0, sweep := [], replies := [], again := [], silent := [] } }
  (s.readHops .e 1 s.ranges.1 false).readHops .w 1 s.ranges.2 false

def execSweepStart (s : State) : Out := s.fin (sweepStart s)

/-- The read of a port in whose range a hop lies. -/
def Chain.readAt (c : Chain) (p : Ring) (h : Nat) : Option (Ring × Nat × Nat × Bool) :=
  c.sweep.find? fun x => x.1 == p && decide (x.2.1 ≤ h) && decide (h ≤ x.2.2.1)

/-- A sweep reply arrives in a slot that is read: kept where its CRC holds, asked for again once with a READ_SWEEP of its own
where it does not (R120, R482). -/
def sweepReply (s : State) (p : Ring) (r : SweepReply) (crc : Nat) : State :=
  let h := s.hopFrom p r.id
  match s.chain.readAt p h with
  | none => s
  | some _ =>
    let c := s.chain
    let c := if p = .e then { c with mE := c.mE + 1 } else { c with mW := c.mW + 1 }
    if crc = (sweepFrame r).crc then
      { s with chain := { c with replies := (p, r) :: c.replies.filter fun x => x.2.id != r.id } }
    else
      let s := ({ s with chain := c } : State).bumpSat .a F.CHAIN_LINKERR_CRC
      if c.again.contains (p, r.id) then s
      else ({ s with chain := { s.chain with again := (p, r.id) :: s.chain.again } } : State).readHops p h h true

def execSweepReplyRx (p : Ring) (r : SweepReply) (crc : Nat) (s : State) : Out := s.fin (sweepReply s p r crc)

/-- A slot stays silent: the port's read ends there. Of a port's own range the other port reads the silent monitor and those
left unread, in the hops that follow its own (R126). -/
def sweepSilent (s : State) (p : Ring) (k : Nat) : State :=
  let h := s.hopFrom p k
  match s.chain.readAt p h with
  | none => s
  | some x =>
    let s := { s with chain := { s.chain with silent := (p, k) :: s.chain.silent, sweep := s.chain.sweep.erase x } }
    if x.2.2.2 then s else s.readHops p.other (s.monCount + 1 - x.2.2.1) (s.monCount + 1 - h) true

def execSweepSlotSilent (p : Ring) (k : Nat) (s : State) : Out := s.fin (sweepSilent s p k)

/-- SAMPLE leaves the ring at the other port: closed where HOP is MON_COUNT; an open ring then works closed again and its
trims are measured anew (R125, R127). -/
def sampleLoopback (s : State) (hop : Nat) : State :=
  if hop ≠ s.monCount then s
  else
    let s := { s with chain := { s.chain with looped := true } }
    if s.gb F.CHAIN_STAT_OPEN_MODE then
      let s := (s.p F.CHAIN_STAT_OPEN_MODE 0).p F.CHAIN_STAT_RING_CLOSED 1
      (s.ev 0x0802).ringSendAll (s.ids.map RingCmd.trim)
    else s.p F.CHAIN_STAT_RING_CLOSED 1

def execSampleLoopback (hop : Nat) (s : State) : Out := s.fin (sampleLoopback s hop)

/-- A monitor without values in an epoch: every channel carries INVALID and `q`, a position next to an open lead OPEN_WIRE
too; every verdict is INVALID (R123, R124, R154). -/
def MonSnap.absent (q : Nat) (i : MonInfo) : MonSnap :=
  let qp := (List.range 12).map fun j => Q.INVALID + q + qIf (i.openWire (j + 1)) Q.OPEN_WIRE
  ⟨List.replicate 12 0, qp, List.replicate 12 0, qp, 0, List.replicate 8 0, List.replicate 8 (Q.INVALID + q), 0, 0,
    Q.INVALID + q, List.replicate 12 3⟩

/-- The conditions of a monitor's STATUS word on its fine path, its coarse path, its device channel and all its NTCs
(R133). -/
def fineFault (w : Nat) : Bool := bitAt w 15 || bitAt w 7 || bitAt w 6
def coarseFault (w : Nat) : Bool := bitAt w 14 || bitAt w 7 || bitAt w 6
def ntcFault (w : Nat) : Bool := bitAt w 13 || bitAt w 7 || bitAt w 6

/-- FC_MISMATCH: |fine − coarse| above FC_LIMIT mV, in units of 10 µV (R123). -/
def fcDiffers (limit : Nat) (fine : Int) (coarse : Nat) : Bool :=
  decide (100 * limit < (fine - 200 * coarse).natAbs)

/-- The verdict on a coarse value with its QUAL (R124, R250): 0 IN, 1 HIGH, 2 LOW, 3 INVALID. -/
def verdictOf (vlo vhi coarse q : Nat) : Nat :=
  if qHas q Q.INVALID then 3 else if vhi < coarse then 1 else if coarse < vlo then 2 else 0

/-- A value that carries INVALID holds 0 in the image (R483). -/
def valOr {α : Type} (z : α) (q : Nat) (v : α) : α := if qHas q Q.INVALID then z else v

/-- The channels of a monitor from its sweep reply (R123, R124, R131, R132, R133). STATUS.BLEED_FAULT reports no fault of a
measuring path, so no channel takes MON_FAULT from it (notes/assumptions/26). -/
def MonSnap.of (i : MonInfo) (limit vlo vhi : Nat) (r : SweepReply) : MonSnap :=
  let w := r.status
  let sink (n : Nat) : Bool := bitAt w 8 && (bitAt i.testing (n - 1) || bitAt i.testing n)
  let v := r.vals
  let pos := (List.range 12).map (· + 1)
  let fine (n : Nat) := v.fine.getD (n - 1) 0
  let coarse (n : Nat) := v.coarse.getD (n - 1) 0
  let qc (n : Nat) := qClose (qIf (coarse n == 0 || coarse n == 4095) Q.RANGE + qIf (coarseFault w || sink n) Q.MON_FAULT +
    qIf (i.openWire n) Q.OPEN_WIRE)
  let qf0 (n : Nat) := qClose (qIf (fine n == -524288 || fine n == 524287) Q.RANGE +
    qIf (fineFault w || sink n) Q.MON_FAULT + qIf (i.openWire n) Q.OPEN_WIRE)
  let qf (n : Nat) := qf0 n + qIf (qf0 n == 0 && qc n == 0 && fcDiffers limit (fine n) (coarse n)) Q.MISMATCH
  let ntc (j : Nat) := v.ntc.getD j 0
  let qt (j : Nat) := qClose (qIf (ntcFault w || ntc j == 0 || ntc j == 0x3FF) Q.MON_FAULT)
  let qm := qClose (qIf (coarseFault w) Q.MON_FAULT)
  { fine := pos.map fun n => valOr 0 (qf n) (fine n), qf := pos.map qf
    coarse := pos.map fun n => valOr 0 (qc n) (coarse n), qc := pos.map qc
    stack := valOr 0 qm v.stack
    ntc := (List.range 8).map fun j => valOr 0 (qt j) (ntc j), qt := (List.range 8).map qt
    die := valOr 0 qm v.die, mstat := w, qm := qm
    verdict := pos.map fun n => verdictOf vlo vhi (coarse n) (qc n) }

/-- The stack invariant: |Σ fine − stack| ≤ 0.5 % of the stack voltage + 60 mV, in units of 10 µV (R129). -/
def stackHolds (m : MonSnap) : Bool :=
  decide ((m.fine.sum - 2000 * m.stack).natAbs ≤ 10 * m.stack + 6000)

/-- The pair invariant of positions n and n + 1: |(f_n + f_n+1) − (c_n + c_n+1)| ≤ 2 × FC_LIMIT (R129). -/
def pairHolds (limit : Nat) (m : MonSnap) (n : Nat) : Bool :=
  let f (i : Nat) := m.fine.getD (i - 1) 0
  let c (i : Nat) := m.coarse.getD (i - 1) 0
  decide ((f n + f (n + 1) - 200 * (c n + c (n + 1) : Nat)).natAbs ≤ 200 * limit)

/-- The pairs of positions with valid values whose invariant fails, as a mask of the lower position (R129). -/
def pairsFailing (limit : Nat) (m : MonSnap) : Nat :=
  let ok (n : Nat) : Bool := !qHas (m.qf.getD (n - 1) 0) Q.INVALID && !qHas (m.qc.getD (n - 1) 0) Q.INVALID
  (((List.range 11).map (· + 1)).map fun n =>
    if ok n && ok (n + 1) && !pairHolds limit m n then 2 ^ (n - 1) else 0).sum

/-- Does the stack invariant fail on valid values (R129)? -/
def stackFailing (m : MonSnap) : Bool := m.qm == 0 && m.qf.all (fun q => !qHas q Q.INVALID) && !stackHolds m

/-- The leads that an epoch's values cast suspicion on: those next to a position whose fine and coarse disagree, and C0
and C12 where the stack invariant fails (R129, R131). -/
def suspects (m : MonSnap) : Nat :=
  let pos := ((List.range 12).map (· + 1)).foldl (fun a n =>
    if qHas (m.qf.getD (n - 1) 0) Q.MISMATCH then Nat.lor a (2 ^ (n - 1) + 2 ^ n) else a) 0
  if stackFailing m then Nat.lor pos (1 + 2 ^ 12) else pos

/-- The farthest ID that answered RING-E, and the nearest that answered RING-W, with values of the epoch. -/
def Chain.reachE (c : Chain) (ep : Nat) : Nat :=
  (c.replies.map fun x => if x.1 = .e ∧ x.2.ep16 = ep then x.2.id else 0).foldl max 0
def Chain.reachW (c : Chain) (ep n : Nat) : Nat :=
  (c.replies.map fun x => if x.1 = .w ∧ x.2.ep16 = ep then x.2.id else n + 1).foldl min (n + 1)

/-- How a monitor came out of the sweep: NOT_SAMPLED, NO_REPLY or its reply (R123, R125, R126, R128). -/
inductive Outcome1 where
  | ns
  | nr
  | got (r : SweepReply)
deriving DecidableEq, Repr

def Chain.outcome (c : Chain) (samples : Bool) (ep n k : Nat) : Outcome1 :=
  if !samples then .ns
  else match c.replies.find? (fun x => x.2.id == k) with
    | some (_, r) => if r.ep16 = ep then .got r else .ns
    | none => if c.looped || decide (k ≤ c.reachE ep) || decide (c.reachW ep n ≤ k) then .nr else .ns

/-- The snapshot's part of a monitor. -/
def State.monSnap (s : State) (ep k : Nat) : MonSnap :=
  match s.chain.outcome s.samples ep s.monCount k with
  | .ns => MonSnap.absent Q.NOT_SAMPLED (s.chain.inf k)
  | .nr => MonSnap.absent Q.NO_REPLY (s.chain.inf k)
  | .got r => MonSnap.of (s.chain.inf k) (s.g F.CHAIN_CFG_FC_LIMIT) s.chain.vlim.1 s.chain.vlim.2 r

/-- STATUS of a reply: each fault bit that newly appears raises 0x0809, BLEED_FAULT stops the monitor's bleeding (R133). -/
def State.takeStatus (s : State) (k w : Nat) : State :=
  let i := s.chain.inf k
  let fresh := statusFaults w - Nat.land (statusFaults w) (statusFaults i.status)
  let s := { s with chain := s.chain.setInf k { i with status := w } }
  let s := s.evIf (fresh != 0) 0x0809 k (k :: leBytes 2 w)
  if bitAt fresh 12 then s.bleedStop k 0xFFF 2 else s

/-- An epoch without values of a monitor: its run towards MISSING (R133). -/
def State.missMon (s : State) (k : Nat) (ns : Bool) : State :=
  let i := s.chain.inf k
  let run := i.run + 1
  let lost := !i.missing && decide (s.g F.CHAIN_CFG_MISS_N ≤ run)
  let i' := { i with ns := ns, nr := !ns, run := run, missing := i.missing || lost }
  ({ s with chain := s.chain.setInf k i' } : State).evIf lost 0x0804 k [k]

/-- What an epoch means for one monitor: its run towards MISSING, newly set fault bits, also of a reply that holds the values
of an earlier epoch, the invariants of its values and the open-wire test that they ask for (R125, R129, R133). -/
def State.settleMon (s : State) (ep k : Nat) : State :=
  match s.chain.outcome s.samples ep s.monCount k with
  | .got r =>
    let m := s.monSnap ep k
    let i := s.chain.inf k
    let i' := { i with
      ns := false, nr := false, run := 0, missing := false, pairs := pairsFailing (s.g F.CHAIN_CFG_FC_LIMIT) m
      stackBad := stackFailing m }
    let s := { s with chain := s.chain.setInf k i' }
    let s := (s.evIf i.missing 0x0805 k [k]).takeStatus k r.status
    let low := ((List.range 12).map fun j => if m.verdict.getD j 3 = 2 then 2 ^ j else 0).sum
    let s := if s.bleedRuns k low then s.bleedStop k low 3 else s
    if suspects m ≠ 0 then s.ringSend (.ow k (suspects m) 0) else s
  | .ns =>
    let s := match s.chain.replies.find? (fun x => x.2.id == k) with
      | some (_, r) => s.takeStatus k r.status
      | none => s
    s.missMon k true
  | .nr => s.missMon k false

/-- A bitmap of the IDs that satisfy a predicate. -/
def idMap (ids : List Nat) (p : Nat → Bool) : Nat := (ids.map fun k => if p k then 2 ^ (k - 1) else 0).sum

/-- How many monitors answered a port in the sweep, and the hop of the farthest (R126, notes/assumptions/29). -/
def State.answered1 (s : State) (p : Ring) : Nat := (s.chain.replies.filter fun x => x.1 == p).length
def State.farthest (s : State) (p : Ring) : Nat :=
  ((s.chain.replies.filter fun x => x.1 == p).map fun x => s.hopFrom p x.2.id).foldl max 0

/-- The ring state after a sweep: a SAMPLE that did not come back, or a silent monitor that answered the other port, opens
the ring, and every trim is measured anew (R117, R125, R126). -/
def State.settleRing (s : State) : State :=
  let c := s.chain
  let e := s.answered1 .e
  let w := s.answered1 .w
  let broke := !c.looped || c.silent.any fun x => c.replies.any fun y => y.2.id == x.2 && y.1 != x.1
  let s := { s with chain := { c with edge := (s.farthest .e, s.farthest .w) } }
  let s := (s.p F.CHAIN_STAT_REACH_E e).p F.CHAIN_STAT_REACH_W w
  let s := (s.p F.CHAIN_LOAD_M_E c.mE).p F.CHAIN_LOAD_M_W c.mW
  let s := s.p F.CHAIN_STAT_RING_CLOSED (b2n (s.samples && c.looped && !broke))
  if s.samples && !s.gb F.CHAIN_STAT_OPEN_MODE && broke && s.monCount != 0 then
    ((s.p F.CHAIN_STAT_OPEN_MODE 1).ev 0x0801 0 [e, w]).ringSendAll (s.ids.map RingCmd.trim)
  else if !s.samples then s.p F.CHAIN_STAT_OPEN_MODE 0
  else s

/-- What is left of the gap when the sweep ends: it closes 12 µs before the next sample instant (R121, R122). -/
def State.gapLeft (s : State) (us : Nat) : Option Nat :=
  if s.samples then some (s.clock.p - 12000 - 1000 * us) else none

/-- The sweep ends: its part of the image, qualities, verdicts, monitor and ring state are settled, the verdicts leave for
the safety channel, and the command gap opens (R121 to R133). `us` is the sweep's end after the sample instant. -/
def sweepComplete (s : State) (us : Nat) : State :=
  let ep := s.sampleEpoch % 2 ^ 16
  let snaps := (List.range 40).map fun j => if j < s.monCount then s.monSnap ep (j + 1) else MonSnap.none
  let s := s.ids.foldl (fun s k => s.settleMon ep k) s
  let ns := (s.ids.filter fun k => (s.chain.inf k).ns)
  let nr := (s.ids.filter fun k => (s.chain.inf k).nr)
  let ow := (snaps.map fun m => (m.qc.filter fun q => qHas q Q.OPEN_WIRE).length).sum
  let s := { s with
    forming := s.forming.map fun (f : Snap) =>
      { f with
        mons := snaps, nsMon := ns.length, nrMon := nr.length, owPos := ow, sweepUs := us, swept := true
        load := max s.chain.mE s.chain.mW }
    chain := { s.chain with verdicts := some (ep, (snaps.take s.monCount).flatMap fun (m : MonSnap) => m.verdict) } }
  let s := (s.forming.map fun f => s.slotWrite f 0x80 0x14F8).getD s
  let s := s.put64 .a F.CHAIN_NS_MAP_LO (idMap s.ids fun k => (s.chain.inf k).ns)
  let s := s.put64 .a F.CHAIN_NR_MAP_LO (idMap s.ids fun k => (s.chain.inf k).nr)
  let s := s.put64 .a F.CHAIN_MISS_MAP_LO (idMap s.ids fun k => (s.chain.inf k).missing)
  let s := (s.p F.CHAIN_SWEEP_LAST_US us).p F.CHAIN_SWEEP_MAX_US (max us (s.g F.CHAIN_SWEEP_MAX_US))
  let s := s.evIf (!ns.isEmpty) 0x0803 0 (leBytes 4 s.sampleEpoch ++ [ns.length])
  let s := s.settleRing
  ({ s with chain := { s.chain with
    gap := true, gapNs := s.gapLeft us
    queue := s.chain.queue.map fun (q : Queued) => { q with later := false } } } : State).ringPump.owStat

def execSweepComplete (us : Nat) (s : State) : Out := s.fin (sweepComplete s us)

/-! ### Open-wire tests and the CHAIN page (R130, R135, R141) -/

/-- The rule of R141: the CHAIN controls belong to the authority lane. -/
def chainAuth (s : State) (r : Req) : Chk := (.auth, !s.isAuth r.lane)

/-- Every lead of the ring is tested in later gaps. -/
def State.testAll (s : State) : State := s.ringSendAll (s.ids.map fun k => .ow k 0x1FFF 2)

/-- Every OW_PERIOD each lead of the ring is tested (R130). -/
def execOwPeriodic (s : State) : Out := s.fin (if s.g F.CHAIN_OWCFG_OW_PERIOD = 0 then s else s.testAll)

/-- CHAIN_OW_REQ: a test of one monitor's leads (R141). -/
def chainOwReq (s : State) (r : Req) (v : Word) : Nat × State :=
  let mon := getBits v 29 24
  let leads := getBits v 12 0
  s.access r Pg.CHAIN 0x068
    [chainAuth s r, (.state, s.mode == St.LULL), (.busy, s.gb F.CHAIN_STAT_OW_BUSY),
     (.value, mon == 0 || decide (s.monCount < mon) || leads == 0)] fun s =>
      (s.wr .a Pg.CHAIN 0x06C 0).ringSend (.ow mon leads 1)

def execChainOwReq (r : Req) (v : Word) (s : State) : Out := s.answered (chainOwReq s r v)

/-- CHAIN_CTRL.OW_ALL (R141). -/
def owAll (s : State) (r : Req) : Nat × State := s.access r Pg.CHAIN 0x008 [chainAuth s r] State.testAll

def execOwAll (r : Req) (s : State) : Out := s.answered (owAll s r)

/-- CHAIN_CTRL.SER_TAKE: the enumerated serial of every ID that answered becomes its configured serial (R135). -/
def serTake (s : State) (r : Req) : Nat × State :=
  s.access r Pg.CHAIN 0x008 [chainAuth s r, (.state, s.mode != St.CONFIG)] fun s =>
    { s with chain := { s.chain with
      info := s.chain.info.map fun x => (x.1, { x.2 with serCfg := if x.2.serEnum = 0 then x.2.serCfg else x.2.serEnum }) } }

def execSerTake (r : Req) (s : State) : Out := s.answered (serTake s r)

/-- CHAIN_MREG: an access to a monitor register goes through the mailbox (R115, R141). An ID outside 1 to 40 is refused as a
value that is reserved; one above MON_COUNT names no monitor of the ring, so its access runs into the timeout
(notes/assumptions/27). -/
def chainMreg (s : State) (r : Req) (v : Word) : Nat × State :=
  let mon := getBits v 29 24
  let reg := getBits v 23 16
  let wr := getBits v 30 30
  s.access r Pg.CHAIN 0x094
    [chainAuth s r, (.busy, s.gb F.CHAIN_MREG_BUSY), (.value, mon == 0 || decide (40 < mon))] fun s =>
      let s := ((s.p F.CHAIN_MREG_WR wr).p F.CHAIN_MREG_MON mon).p F.CHAIN_MREG_REG reg
      (s.p F.CHAIN_MREG_BUSY 1).ringSend (.mreg mon reg (wr == 1) (s.g F.CHAIN_MREG_DATA_DATA))

def execChainMreg (r : Req) (v : Word) (s : State) : Out := s.answered (chainMreg s r v)

end Sys2Proof.Machine
end

