-- ==== Sys2Proof/Machine/Real.lean ====
section
/-! DEFINITION. e^(−x), the square root, the sine and the angle of a complex number, to at least 60 bits after the point: the
manual names these functions (R167, R187, R194, R208) and gives no precision (notes/assumptions/12). -/

namespace Sys2Proof.Machine

/-! ### Fixed point with 96 bits after the point -/

/-- One, a rational rounded down, a product, a quotient by a number, and back to a rational. -/
def fixOne : Int := 2 ^ 96
def fixOf (q : Rat) : Int := (q.num * fixOne) / q.den
def fixMul (a b : Int) : Int := (a * b) / fixOne
def fixRat (a : Int) : Rat := mkRat a (2 ^ 96)

/-- The sum of a power series whose term `j` is the term before it, multiplied by `m` and divided by `d j`. -/
def fixSeries (m : Int) (d : Nat → Nat) (n : Nat) (t0 : Int) : Int :=
  ((List.range n).foldl (fun (x : Int × Int) j =>
    let t := fixMul x.1 m / (d j : Nat)
    (t, x.2 + t)) (t0, t0)).2

/-! ### e^(−x) -/

/-- e^(−x) for 0 ≤ x < 64: the series at x / 128, squared seven times. -/
def expSmall (x : Rat) : Int :=
  (List.range 7).foldl (fun a _ => fixMul a a) (fixSeries (-(fixOf (x / 128))) (· + 1) 24 fixOne)

/-- e^(−x); below 2^(−92) it is 0. -/
def expNeg (x : Rat) : Rat :=
  if 64 ≤ x then 0
  else if 0 ≤ x then fixRat (expSmall x)
  else if x ≤ -64 then 2 ^ 92
  else 1 / fixRat (expSmall (-x))

/-! ### The square root -/

/-- The largest number whose square is at most `n`. -/
def isqrt (n : Nat) : Nat :=
  let bits := n.log2 / 2 + 1
  (List.range bits).foldl (fun r j =>
    let c := r + 2 ^ (bits - 1 - j)
    if c * c ≤ n then c else r) 0

/-- The square root of a non-negative rational, rounded down; 0 for a negative one. -/
def rootOf (x : Rat) : Rat := if x ≤ 0 then 0 else mkRat (isqrt (x.num.toNat * 2 ^ 192 / x.den)) (2 ^ 96)

/-! ### The sine and the angle -/

/-- π with 96 bits after the point. -/
def fixPi : Int := 248902613312231085230521944622

/-- sin of `x` turns, for 0 ≤ x ≤ 1/4. -/
def sinQuarter (x : Rat) : Int :=
  let a := fixMul (2 * fixPi) (fixOf x)
  fixSeries (-(fixMul a a)) (fun j => (2 * j + 2) * (2 * j + 3)) 16 a

/-- sin(2π x) and cos(2π x). -/
def sinTurns (x : Rat) : Rat :=
  let f := x - x.floor
  if f ≤ 1 / 4 then fixRat (sinQuarter f)
  else if f ≤ 1 / 2 then fixRat (sinQuarter (1 / 2 - f))
  else if f ≤ 3 / 4 then -fixRat (sinQuarter (f - 1 / 2))
  else -fixRat (sinQuarter (1 - f))
def cosTurns (x : Rat) : Rat := sinTurns (x + 1 / 4)

/-- The square root in fixed point. -/
def fixRoot (a : Int) : Int := (isqrt (a.toNat * 2 ^ 96) : Nat)

/-- Half an angle, by its tangent. -/
def halfTan (a : Int) : Int := a * fixOne / (fixOne + fixRoot (fixOne + fixMul a a))

/-- The arctangent of a tangent between 0 and 1: halved three times, then by its series. -/
def atanFix (a : Int) : Int :=
  let b := halfTan (halfTan (halfTan a))
  let b2 := -(fixMul b b)
  8 * ((List.range 24).foldl (fun (x : Int × Int) j => (fixMul x.1 b2, x.2 + x.1 / (2 * j + 1 : Nat))) (b, 0)).2

/-- The angle of re + j im in °, above −180 and up to 180; 0 for 0. -/
def phaseDeg (re im : Rat) : Rat :=
  let x := if re < 0 then -re else re
  let y := if im < 0 then -im else im
  if x = 0 ∧ y = 0 then 0
  else
    let deg (a : Int) : Rat := 180 * mkRat a fixPi.toNat
    let a := if y ≤ x then deg (atanFix (fixOf (y / x))) else 90 - deg (atanFix (fixOf (x / y)))
    let a := if re < 0 then 180 - a else a
    if im < 0 then -a else a

end Sys2Proof.Machine
end

