-- ==== Sys2Proof/Machine/Cdt.lean ====
section
/-! DEFINITION. The channel descriptor table with its Stall cache, the invalidations and channel alarms (R90 to R99), the
values that its channels take from a snapshot (R153), and the chemistry profiles (R196). -/

namespace Sys2Proof.Machine

open Sys2Proof

/-! ### Chemistry profiles (R196) -/

/-- The MRAM offset of a profile, and its bytes as the module reads them. -/
def profOff (k : Nat) : Nat := 0x740000 + k * 0x20000
def State.profCells (s : State) (k : Nat) : List Host.Cell :=
  match s.nv.unit (profOff k) with
  | some ⟨_, _, .profile c, _⟩ => c
  | _ => []

/-- A byte of a profile. -/
def State.profByte (s : State) (k off : Nat) : Nat := memByte (s.profCells k) off

/-- Unsigned fields of a profile. -/
def State.prof16 (s : State) (k off : Nat) : Nat := ofLe (memBytes (s.profCells k) off 2)
def State.prof32 (s : State) (k off : Nat) : Nat := memWord (s.profCells k) off

/-- A binary32 field of a profile. -/
def State.profF (s : State) (k off : Nat) : Rat := f32 (s.prof32 k off)

/-- The profile is present: its MAGIC and VERSION stand. -/
def State.profHere (s : State) (k : Nat) : Bool := s.prof16 k 0 == 0x4350 && s.prof16 k 2 == 1

/-- The profile's CRC holds. -/
def State.profOk (s : State) (k : Nat) : Bool :=
  crc32c (memBytes (s.profCells k) 0 0x1FFFC) == s.prof32 k 0x1FFFC

/-- Every profile that is present passes its CRC; one that fails makes the configuration invalid. -/
def State.profilesOk (s : State) : Bool := (List.range 4).all fun k => !s.profHere k || s.profOk k

/-- The 16 frequency codes of a profile (R165). -/
def State.profFreqs (s : State) (k : Nat) : List Nat := (List.range 16).map fun i => s.prof32 k (0x60 + 4 * i)

/-- The table temperatures in °C. -/
def State.profTemps (s : State) (k : Nat) : List Rat :=
  (List.range 8).map fun i => (toSigned 16 (s.prof16 k (0x24 + 2 * i)) : Rat) / 100

/-- Linear interpolation in points of rising x; the end values hold beyond the ends. -/
def interpHold (x : Rat) : List (Rat × Rat) → Rat
  | [] => 0
  | [(_, y)] => y
  | (x0, y0) :: (x1, y1) :: l =>
    if x ≤ x0 then y0
    else if x ≤ x1 then (if x1 = x0 then y1 else y0 + (y1 - y0) * (x - x0) / (x1 - x0))
    else interpHold x ((x1, y1) :: l)

/-- The row of a table over temperature and SoC at a temperature: `n` points of SoC from byte `off` on. -/
def State.profRow (s : State) (k off n : Nat) (t : Rat) : List Rat :=
  let ts := s.profTemps k
  (List.range n).map fun j =>
    interpHold t (ts.zip ((List.range 8).map fun i => s.profF k (off + 4 * (i * n + j))))

/-- The SoC points of a table with `n` points, as fractions. -/
def socPts (n : Nat) : List Rat := (List.range n).map fun j => (j : Rat) / (n - 1 : Nat)

/-- A table over temperature and SoC. -/
def State.profAt (s : State) (k off n : Nat) (soc t : Rat) : Rat := interpHold soc ((socPts n).zip (s.profRow k off n t))

/-- OCV(SoC, T) and its inverse. -/
def State.ocv (s : State) (k : Nat) (soc t : Rat) : Rat := s.profAt k 0x100 101 soc t
def State.ocvInv (s : State) (k : Nat) (v t : Rat) : Rat := interpHold v ((s.profRow k 0x100 101 t).zip (socPts 101))

/-- The tables of MODEL, R_S, R_A, τ_A, R_B and τ_B in that order, and of DERATE, charge and discharge limit. -/
def State.model (s : State) (k i : Nat) (soc t : Rat) : Rat := s.profAt k (0xDA0 + 672 * i) 21 soc t
def State.derate (s : State) (k i : Nat) (soc t : Rat) : Rat := s.profAt k (0x1AC0 + 672 * i) 21 soc t

/-- Self-discharge as a fraction of capacity per 30 days. -/
def State.selfDis (s : State) (k : Nat) (t : Rat) : Rat :=
  interpHold t ((s.profTemps k).zip ((List.range 8).map fun i => s.profF k (0xE0 + 4 * i))) / 100

/-- Does a SoC lie inside a trusted window? -/
def State.trusted (s : State) (k : Nat) (soc : Rat) : Bool :=
  (List.range (min 4 (s.profByte k 0x43))).any fun i =>
    decide ((s.prof16 k (0x44 + 4 * i) : Rat) ≤ soc * 10000) && decide (soc * 10000 ≤ (s.prof16 k (0x46 + 4 * i) : Rat))

/-- The largest value of the OCV table (R229). -/
def State.ocvMax (s : State) (k : Nat) : Rat := ((List.range 808).map fun i => s.profF k (0x100 + 4 * i)).foldl max 0

/-- The impedance temperature bin of a temperature in 0.01 °C (R182). -/
def State.tbin (s : State) (k : Nat) (t : Int) : Nat :=
  ((List.range 7).filter fun i => decide (toSigned 16 (s.prof16 k (0x34 + 2 * i)) ≤ t)).length

/-- The curve of phase in ° against temperature in 0.01 °C, by rising phase (R187). -/
def State.vtCurve (s : State) (k : Nat) : List (Rat × Rat) :=
  (List.range 16).map fun i => ((toSigned 16 (s.prof16 k (0xA0 + 4 * i)) : Rat) / 1000,
    (toSigned 16 (s.prof16 k (0xA2 + 4 * i)) : Rat))

/-! ### Entries (R90) -/

/-- The fields of a channel table entry. -/
structure Chan where
  cls : Nat
  en : Bool
  alarmEn : Bool
  src : Nat
  sub : Nat
  mon : Nat
  gain : Nat
  off : Nat
  limLo : Nat
  limHi : Nat
  clrN : Nat
  setN : Nat
  snapOff : Nat
  group : Nat
  profile : Nat
  p0 : Nat
  p1 : Nat
deriving DecidableEq, Repr

/-- The entry that 52 bytes spell. -/
def Chan.of (b : List Nat) : Chan :=
  let head := leAt b 0 4
  let wh := leAt b 4 4
  { cls := head / 2 ^ 24, en := bitAt head 23, alarmEn := bitAt head 22, src := head % 2 ^ 16
    sub := wh / 2 ^ 24, mon := wh / 2 ^ 16 % 256, gain := leAt b 8 4, off := leAt b 12 4
    limLo := leAt b 16 4, limHi := leAt b 20 4, clrN := leAt b 25 1, setN := leAt b 24 1
    snapOff := leAt b 28 4, group := leAt b 34 2, profile := leAt b 32 1, p0 := leAt b 36 4, p1 := leAt b 40 4 }

/-- Do the engines process an entry: EN set and a module-defined class (R91)? -/
def Chan.used (c : Chan) : Bool := c.en && decide (1 ≤ c.cls) && decide (c.cls ≤ 9)

/-- An alarm state at rest. -/
def ChanRun.zero : ChanRun := ⟨0, 0, 0, false, false⟩

/-- The address of an entry. -/
def State.entryAddr (s : State) (l : Lane) (i : Nat) : Nat := s.get l F.CDT_BASE_BASE * 0x1000 + 64 * i

/-- An entry of the Stall cache becomes the most recently used of its set, which holds eight (R94). -/
def cachePut (i : Nat) (b : List Nat) (c : List (Nat × List Nat)) : List (Nat × List Nat) :=
  let rest := c.filter fun x => x.1 != i
  let same := rest.filter fun x => x.1 % 128 == i % 128
  match same.getLast? with
  | some y => (i, b) :: (if 8 ≤ same.length then rest.filter (fun x => x.1 != y.1) else rest)
  | none => (i, b) :: rest

/-- The entries of `[first, first + n)` leave the Stall cache, and a later exclusion of them is raised again (R96, R230). -/
def Cdt.drop (c : Cdt) (first n : Nat) : Cdt :=
  let out (i : Nat) := decide (first ≤ i) && decide (i < first + n)
  { c with cache := c.cache.filter fun x => !out x.1, told := c.told.filter fun i => !out i }

/-- A lane's engines read entry `i`: from the cache, or from DRAM with its CHECK; an entry that fails its check three times
is recorded and raised (R94, R95). -/
def State.fetch (s : State) (l : Lane) (i : Nat) : State × Option Chan :=
  let c := s.cdt.get l
  match c.cache.find? (fun x => x.1 == i) with
  | some (_, b) =>
    (({ s with cdt := s.cdt.set l { c with cache := cachePut i b c.cache } } : State).bump l F.CDT_HITS_HITS,
      some (Chan.of b))
  | none =>
    let s := s.bump l F.CDT_MISSES_MISSES
    let b := memBytes (s.dram.get l) (s.entryAddr l i) 64
    if crc32c (b.take 0x34) = leAt b 0x3C 4 then
      ({ s with cdt := s.cdt.set l { c with cache := cachePut i (b.take 0x34) c.cache } }, some (Chan.of b))
    else
      let s := (s.bumpSat l F.CDT_BAD_COUNT).put l F.CDT_BAD_INDEX i
      (s.evL l 0x0502 0 (leBytes 2 i), none)

/-- An entry as one processing unit sees it: its index, its fields where the check held, and whether it duplicates an
earlier one (R91). -/
structure Seen where
  idx : Nat
  chan : Option Chan
  dup : Bool
deriving DecidableEq, Repr

/-- Is an entry's triple among those already seen? -/
def isDup (seen : List Seen) (c : Chan) : Bool :=
  c.used && seen.any fun x => match x.chan with
    | some d => d.used && !x.dup && d.cls == c.cls && d.src == c.src && d.sub == c.sub
    | none => false

/-- A lane's engines go through the entries of the table in order (R91, R95). -/
def State.scan (s : State) (l : Lane) : State × List Seen :=
  if s.getB l F.CDT_CTRL_ENABLE && s.getB l F.CDT_STAT_READY then
    (List.range (s.get l F.CDT_COUNT_COUNT)).foldl (fun (x : State × List Seen) i =>
      let (s, c) := x.1.fetch l i
      let dup := match c with
        | some c => isDup x.2 c
        | none => false
      let s := if dup then
          ((s.bumpSat l F.CDT_BAD_COUNT).put l F.CDT_BAD_INDEX i).evL l 0x0503 0 (leBytes 2 i)
        else s
      (s, x.2 ++ [⟨i, c, dup⟩])) (s, [])
  else (s, [])

/-- The entries that the engines process. -/
def live (seen : List Seen) : List (Nat × Chan) :=
  seen.filterMap fun x => match x.chan with
    | some c => if c.used && !x.dup then some (x.idx, c) else none
    | none => none

/-! ### What a snapshot gives a channel (R153, R154) -/

/-- The value at an offset of the image, by the field that stands there. -/
def Snap.raw (n : Snap) (off : Nat) : Int :=
  let m (k : Nat) := n.mons[k]?
  if off = 0x40 then n.iInst
  else if off = 0x44 then n.iAvg
  else if off = 0x50 then n.v
  else if off = 0x54 then n.hall
  else if 0x58 ≤ off ∧ off < 0x5E then n.temps.getD ((off - 0x58) / 2) 0
  else if 0x80 ≤ off ∧ off < 0x800 then
    ((m ((off - 0x80) / 48)).map fun x => x.fine.getD ((off - 0x80) / 4 % 12) 0).getD 0
  else if 0x800 ≤ off ∧ off < 0xBC0 then
    ((m ((off - 0x800) / 24)).map fun x => (x.coarse.getD ((off - 0x800) / 2 % 12) 0 : Int)).getD 0
  else if 0xBC0 ≤ off ∧ off < 0xC10 then ((m ((off - 0xBC0) / 2)).map fun x => (x.stack : Int)).getD 0
  else if 0xC10 ≤ off ∧ off < 0xE90 then
    ((m ((off - 0xC10) / 16)).map fun x => (x.ntc.getD ((off - 0xC10) / 2 % 8) 0 : Int)).getD 0
  else if 0xE90 ≤ off ∧ off < 0xEE0 then ((m ((off - 0xE90) / 2)).map fun x => (x.die : Int)).getD 0
  else if 0xEE0 ≤ off ∧ off < 0xF30 then ((m ((off - 0xEE0) / 2)).map fun x => (x.mstat : Int)).getD 0
  else 0

/-- Fine value in V, coarse value in V and their QUAL of a position. -/
def Snap.fineV (n : Snap) (p : Nat) : Rat := ((n.monOf p).fine.getD ((p - 1) % 12) 0 : Int) / 100000
def Snap.coarseV (n : Snap) (p : Nat) : Rat := ((n.monOf p).coarse.getD ((p - 1) % 12) 0 : Nat) / 500
def Snap.qf (n : Snap) (p : Nat) : Nat := (n.monOf p).qf.getD ((p - 1) % 12) 0x81
def Snap.qc (n : Snap) (p : Nat) : Nat := (n.monOf p).qc.getD ((p - 1) % 12) 0x81

/-- QUAL of an NTC input `j` of monitor `k`, both counted from 1. -/
def Snap.qt (n : Snap) (k j : Nat) : Nat := ((n.mons[k - 1]?).getD (MonSnap.none)).qt.getD (j - 1) 0x81

/-- An NTC reading in °C by the encoding of R119. -/
def Snap.ntcC (n : Snap) (k j : Nat) : Rat :=
  (((n.mons[k - 1]?).getD (MonSnap.none)).ntc.getD (j - 1) 0 : Nat) / 4 - 55

/-- The chain conditions of R123 that a QUAL byte carries, with the INVALID that follows from them. -/
def chainQual (q : Nat) : Nat :=
  qClose (Nat.land q (Q.RANGE + Q.MON_FAULT + Q.MISMATCH + Q.OPEN_WIRE + Q.NO_REPLY + Q.NOT_SAMPLED))

/-- QUAL of a string channel by its source and its place in the image. -/
def Snap.qs1 (n : Snap) (src off : Nat) : Nat :=
  n.qs.getD (if src = 1 then (if off = 0x44 then 1 else 0) else if src = 2 then 3 else if src = 3 then 2 else src) 0

/-- QUAL of a channel of the classes that a snapshot holds, and of class 0x05 (R230). -/
def Snap.qual (n : Snap) (c : Chan) : Nat :=
  if c.cls = 1 then n.qf c.src
  else if c.cls = 2 then n.qc c.src
  else if c.cls = 3 then n.qt c.src c.sub
  else if c.cls = 5 then chainQual (n.qf c.src)
  else if c.cls = 6 then ((n.mons[c.src - 1]?).getD (MonSnap.none)).qm
  else if c.cls = 8 then n.qs1 c.src c.snapOff
  else 0

/-- The engineering value of a channel: raw × GAIN + OFFSET. -/
def Chan.eng (c : Chan) (raw : Int) : Rat := raw * f32 c.gain + f32 c.off

/-! ### Alarms (R92, R93) -/

/-- A value above, and below, a limit that is a binary32 number, an infinity or no number. -/
def overLim (v : Rat) (w : Nat) : Bool := if f32Finite w then decide (f32 w < v) else w == 0xFF800000
def underLim (v : Rat) (w : Nat) : Bool := if f32Finite w then decide (v < f32 w) else w == 0x7F800000

/-- An epoch's value moves the counts of a channel and its alarms. -/
def ChanRun.next (r : ChanRun) (c : Chan) (v : Rat) : ChanRun :=
  let hi := overLim v c.limHi
  let lo := underLim v c.limLo
  let above := if hi then r.above + 1 else 0
  let below := if lo then r.below + 1 else 0
  let inside := if hi || lo then 0 else r.inside + 1
  let clear := decide (max 1 c.clrN ≤ inside)
  { above := above, below := below, inside := inside
    aHi := (r.aHi && !clear) || decide (max 1 c.setN ≤ above), aLo := (r.aLo && !clear) || decide (max 1 c.setN ≤ below) }

/-- STATUS of an entry. -/
def statusWord (epoch qual : Nat) (bad : Bool) (r : ChanRun) : Nat :=
  epoch % 2 ^ 16 * 2 ^ 16 + qual % 2 ^ 8 * 2 ^ 8 + 4 * b2n bad + 2 * b2n r.aLo + b2n r.aHi

/-- An epoch of a processed channel: its alarm moves, its value is kept, and STATUS goes to DRAM. `value` is none for a
channel without a scalar value. -/
def State.chanEpoch (s : State) (l : Lane) (epoch16 i : Nat) (c : Chan) (value : Option Rat) (qual : Nat) : State :=
  let d := s.cdt.get l
  let r := sget (fun _ => ChanRun.zero) d.runs i
  let r' := match value with
    | some v => if c.alarmEn && !qHas qual (Q.INVALID + Q.NOT_SAMPLED) then r.next c v else r
    | none => r
  let vals : List (Nat × Nat × Rat × Nat) := match value with
    | some v => sins i (c.group, v, qual) (sdel i d.vals)
    | none => sdel i d.vals
  let s := { s with cdt := s.cdt.set l { d with runs := sput (fun _ => ChanRun.zero) d.runs i r', vals := vals } }
  let w := statusWord epoch16 qual false r'
  let s := s.dramStore l (s.entryAddr l i + 0x38) (leBytes 4 w)
  if r'.aHi ≠ r.aHi ∨ r'.aLo ≠ r.aLo then s.evL l 0x0504 0 (leBytes 2 i ++ leBytes 4 w) else s

/-- Has an entry failed its check, or does it duplicate another? -/
def Seen.bad (x : Seen) : Bool := x.chan.isNone || x.dup

/-- QUAL of such an entry: "entry invalid" after a failed check. The manual gives a duplicate none: the model writes INVALID
(R91, notes/assumptions/23). -/
def Seen.qual (x : Seen) : Nat := if x.chan.isNone then Q.INVALID + Q.ENTRY_INVALID else Q.INVALID

/-- STATUS of an entry that failed its check or duplicates another: BAD and its quality. An entry whose bytes name no
module-defined class keeps its STATUS (R91, R95). -/
def State.badStatus (s : State) (l : Lane) (epoch : Nat) (x : Seen) : State :=
  let r := sget (fun _ => ChanRun.zero) (s.cdt.get l).runs x.idx
  let cls := memByte (s.dram.get l) (s.entryAddr l x.idx + 3)
  if x.bad && (x.dup || (decide (1 ≤ cls) && decide (cls ≤ 9))) then
    s.dramStore l (s.entryAddr l x.idx + 0x38) (leBytes 4 (statusWord epoch x.qual true r))
  else s

/-- Such an entry in the EST's processing: its value carries the quality, in the group that it last had (R95). -/
def State.badEntry (s : State) (l : Lane) (epoch : Nat) (x : Seen) : State :=
  let d := s.cdt.get l
  let group := ((d.vals.find? fun y => y.1 == x.idx).map (·.2.1)).getD 0x10000
  let s := if x.bad then
      { s with cdt := s.cdt.set l { d with vals := sins x.idx (group, 0, x.qual) (sdel x.idx d.vals) } }
    else s
  s.badStatus l epoch x

/-- A processing unit other than the EST's reads an entry: a failed check marks it as the latest epoch's (R94, R95). -/
def State.useEntry (s : State) (l : Lane) (i : Nat) : State × Option Chan :=
  let (s, c) := s.fetch l i
  (s.badStatus l (((s.est.get l).last).getD 0) ⟨i, c, false⟩, c)

/-- Such a unit goes through the whole table (R91, R95). -/
def State.useTable (s : State) (l : Lane) : State × List (Nat × Chan) :=
  let (s, seen) := s.scan l
  (seen.foldl (fun s x => s.badStatus l (((s.est.get l).last).getD 0) x) s, live seen)

/-! ### Invalidations and the CDT page (R96, R98) -/

/-- The next epoch whose EST processing uses an invalidation. -/
def State.nextEst (s : State) (l : Lane) : Nat :=
  match (s.est.get l).last with
  | some n => n + 1
  | none => s.sampleEpoch

/-- CDT_INVAL: the committing write. `hi` and `ep` are the staged upper words (R81, R98). -/
def cdtInval (s : State) (r : Req) (v : Word) : Nat × State :=
  let l := r.lane
  let hi := s.stagedWord r Pg.CDT 0x054
  let ep := s.stagedWord r Pg.CDT 0x058
  let first := getBits v 13 0
  let n := hi % 2 ^ 14 + 1
  let defer := bitAt hi 31
  let ahead := (ep + 2 ^ 32 - (s.nextEst l) % 2 ^ 32) % 2 ^ 32
  let x := s.access r Pg.CDT 0x050
    [(.busy, s.getB l F.CDT_STAT_INV_BUSY || s.getB l F.CDT_STAT_DEFER_PEND),
     (.value, decide (16383 < first + n - 1) || (defer && decide (2 ^ 31 < ahead)))] fun s =>
    let d := s.cdt.get l
    if defer then
      ({ s with cdt := s.cdt.set l { d with deferred := some (first, n, ep) } } : State).put l F.CDT_STAT_DEFER_PEND 1
    else
      let s := ({ s with cdt := s.cdt.set l (d.drop first n) } : State).put l F.CDT_STAT_INV_BUSY 1
      s.put l F.CDT_INVAL_STAT_APPLY_EPOCH (s.nextEst l)
  (x.1, x.2.unstage r Pg.CDT [0x054, 0x058])

/-- The staged upper words of CDT_INVAL, then its committing write. -/
def cdtInvalWrite (s : State) (r : Req) (hi ep v : Word) : Nat × State :=
  cdtInval ((s.stage r Pg.CDT 0x054 hi).stage r Pg.CDT 0x058 ep) r v

/-- An immediate invalidation: DEFER is 0. -/
def execCdtInvalImmediate (r : Req) (first count : Nat) (s : State) : Out :=
  s.answered (cdtInvalWrite s r (BitVec.ofNat 32 ((count - 1) % 2 ^ 14)) 0 (BitVec.ofNat 32 first))

/-- A deferred invalidation: DEFER is 1 and EPOCH names its epoch (R98). -/
def execCdtInvalDeferred (r : Req) (first count : Nat) (ep : Word) (s : State) : Out :=
  s.answered (cdtInvalWrite s r (BitVec.ofNat 32 (2 ^ 31 + (count - 1) % 2 ^ 14)) ep (BitVec.ofNat 32 first))

/-- The immediate invalidation of a lane has run: INV_BUSY clears, with 0x0501. -/
def cdtInvalDone (s : State) (l : Lane) : State :=
  if s.getB l F.CDT_STAT_INV_BUSY then (s.put l F.CDT_STAT_INV_BUSY 0).evL l 0x0501 else s

/-- A deferred invalidation whose epoch the EST starts. One whose epoch the EST never starts stays pending: the manual names no
end for it (R98, notes/assumptions/23). -/
def State.applyDeferred (s : State) (l : Lane) (epoch : Nat) : State :=
  let d := s.cdt.get l
  match d.deferred with
  | some (first, n, ep) =>
    if ep = epoch % 2 ^ 32 then
      let s := ({ s with cdt := s.cdt.set l { d.drop first n with deferred := none } } : State).put l F.CDT_STAT_DEFER_PEND 0
      s.put l F.CDT_INVAL_STAT_APPLY_EPOCH epoch
    else s
  | none => s

/-- READY: the table is located, enabled and in use. -/
def State.cdtReady (s : State) (l : Lane) : State :=
  s.put l F.CDT_STAT_READY (b2n (s.getB l F.CDT_CTRL_ENABLE && s.getB l F.CDT_COUNT_COUNT && s.mode != St.BOOT))

/-- Does a table of `n` entries at a base of 4 KiB units lie within the DRAM? -/
def tableFits (base n : Nat) : Bool := inDram (base * 0x1000) (64 * n)

/-- A write of CDT_BASE or CDT_COUNT: the whole Stall cache is invalidated at once (R101). -/
def cdtRelocate (s : State) (r : Req) (count : Bool) (v : Word) : Nat × State :=
  let l := r.lane
  let off := if count then 0x044 else 0x040
  let base := if count then s.get l F.CDT_BASE_BASE else getBits v 31 12
  let n := if count then getBits v 14 0 else s.get l F.CDT_COUNT_COUNT
  s.access r Pg.CDT off
    (regChecks s r false Pg.CDT off v ++
      [(.value, if count then n != 0 && !tableFits base n else !(tableFits base n && tableFits base 1))]) fun s =>
      let s := s.store r Pg.CDT off v
      ({ s with cdt := s.cdt.set l { s.cdt.get l with cache := [] } } : State).cdtReady l

def execCdtTableRelocate (r : Req) (count : Bool) (v : Word) (s : State) : Out := s.answered (cdtRelocate s r count v)

/-! ### The table that the management firmware builds (R90, R153, R186) -/

/-- An entry with its CHECK and an empty STATUS. -/
def entryBytes (cls en src sub mon gain off snapOff profile p0 : Nat) : List Nat :=
  let b := leBytes 4 (cls * 2 ^ 24 + en * 2 ^ 23 + src) ++ leBytes 4 (sub * 2 ^ 24 + mon * 2 ^ 16 + 0xFFFF) ++
    leBytes 4 gain ++ leBytes 4 off ++ leBytes 8 0 ++ leBytes 4 0 ++ leBytes 4 snapOff ++ leBytes 4 profile ++
    leBytes 4 p0 ++ leBytes 12 0
  b ++ leBytes 4 0 ++ leBytes 4 0 ++ leBytes 4 (crc32c b)

/-- The entries of the module-defined classes for `m` monitors: fine, coarse, temperatures, virtual temperatures, bleed and
monitor devices, then the string inputs. Fine and coarse values in V, temperatures in °C, currents in A. -/
def builtTable (m : Nat) : List (List Nat) :=
  let pos := (List.range (12 * m)).map (· + 1)
  let ids := (List.range m).map (· + 1)
  let ntc0 := 24 * m
  pos.map (fun p => entryBytes 1 1 p 0 (monOfPos p) (f32Of (1 / 100000)) 0 (0x80 + 4 * (p - 1)) 0xFF 0) ++
  pos.map (fun p => entryBytes 2 1 p 0 (monOfPos p) (f32Of (1 / 500)) 0 (0x800 + 2 * (p - 1)) 0xFF 0) ++
  ids.flatMap (fun k => (List.range 8).map fun j =>
    entryBytes 3 1 k (j + 1) k (f32Of (1 / 4)) (f32Of (-55)) (0xC10 + 2 * (8 * (k - 1) + j)) 0xFF 0) ++
  pos.map (fun p => entryBytes 4 1 p 0 (monOfPos p) (f32Of (1 / 100)) 0 0 0xFF
    ((ntc0 + 8 * (monOfPos p - 1) + (2 * ((p - 1) % 12 + 1) + 2) / 3 - 1) * 2 ^ 16 + 0xFFFF)) ++
  pos.map (fun p => entryBytes 5 1 p 0 (monOfPos p) 0 0 0 0xFF 0) ++
  ids.map (fun k => entryBytes 6 1 k 0 k (f32Of (1 / 50)) 0 (0xBC0 + 2 * (k - 1)) 0xFF 0) ++
  [entryBytes 8 1 1 0 0 (f32Of (1 / 10000)) 0 0x40 0xFF 0, entryBytes 8 1 2 0 0 (f32Of (1 / 10000)) 0 0x54 0xFF 0,
   entryBytes 8 1 3 0 0 (f32Of (1 / 1000)) 0 0x50 0xFF 0, entryBytes 8 1 4 0 0 (f32Of (1 / 100)) 0 0x58 0xFF 0,
   entryBytes 8 1 5 0 0 (f32Of (1 / 100)) 0 0x5A 0xFF 0, entryBytes 8 1 6 0 0 (f32Of (1 / 100)) 0 0x5C 0xFF 0]

/-- The firmware of a lane builds its table, as far as CDT_COUNT entries reach. -/
def State.buildTable (s : State) (l : Lane) : State :=
  let n := s.get l F.CDT_COUNT_COUNT
  if n = 0 then s
  else s.dramStore l (s.entryAddr l 0) (((builtTable s.monCount).take n).flatten)

end Sys2Proof.Machine
end

