-- ==== Sys2Proof/Machine/Eis.lean ====
section
/-! DEFINITION. The EIS engines: plans, windows, gates, aborts and the readout (R165 to R169, R174, R175, R178, R181, R189,
R190). The results of a window are in Machine/EisResult.lean. -/

namespace Sys2Proof.Machine

open Sys2Proof

/-! ### The plan in use -/

/-- The plan registers: EIS_PLAN, WIN, AMP, WEIGHT_LO, WEIGHT_HI and FADE. -/
def eisPlanOffs : List Nat := [0x040, 0x044, 0x048, 0x04C, 0x050, 0x054]

/-- The frequency codes selected by a mask. -/
def selected (codes : List Nat) (fmask : Nat) : List Nat :=
  ((List.range 16).filter (bitAt fmask)).map fun i => codes.getD i 0

/-- The base period in s: 20 s over the greatest common divisor of 20 and the selected codes (R166). -/
def basePeriod (codes : List Nat) (fmask : Nat) : Nat := 20 / (selected codes fmask).foldl Nat.gcd 20

/-- An engine runs a window or is about to. -/
def Eis.running (e : Eis) : Bool := e.phase != 0

/-- The engines of both lanes changed alike. -/
def State.eisBoth (s : State) (f : Eis → Eis) : State := { s with eis := ⟨f s.eis.a, f s.eis.b⟩ }

/-- The engine that the module goes by: the authority lane's, else lane A's. -/
def State.eisNow (s : State) : Eis := s.eis.get (s.auth.getD .a)

/-! ### The tones (R167) -/

/-- The code and the weight of every selected entry. -/
def State.tones (s : State) (w : EisWin) : List (Nat × Nat) :=
  let codes := s.profFreqs w.profile
  ((List.range 16).filter (bitAt w.fmask)).map fun i =>
    (codes.getD i 0, getBits (w.word (0x04C + 4 * (i / 8))) (4 * (i % 8) + 3) (4 * (i % 8)))

/-- The sum of the tones, each with its weight as amplitude, `t` ns from the time origin. The phases of the Schroeder rule the
manual does not write out: each is a free value, in turns (notes/assumptions/12). -/
def toneSum (ts : List (Nat × Nat)) (t : Nat) : Rat :=
  (ts.zipIdx.map fun x => (x.1.2 : Rat) * sinTurns (mkRat (x.1.1 * t) 20000000000 + Config.schroeder ts x.2)).sum

/-- The largest absolute value of the sum over one base period of `tb` s, at the loop samples of 50 µs. -/
def tonePeak (ts : List (Nat × Nat)) (tb : Nat) : Rat :=
  (List.range (20000 * tb)).foldl (fun m j => max m |toneSum ts (50000 * j)|) 0

/-! ### Starting (R166 to R169, R178, R190) -/

/-- A lane's plan registers. -/
def State.planWords (s : State) (l : Lane) : List Word := eisPlanOffs.map fun o => s.rd l Pg.EIS o

/-- The window that a lane's plan registers describe, with its number and the time origin of its excitation. -/
def State.eisWin (s : State) (l : Lane) (number origin : Nat) : EisWin :=
  let w : EisWin := ⟨number, s.planWords l, 0, 0, origin, 0, 0, 0, 0, false, 0, false, [], []⟩
  let tb := basePeriod (s.profFreqs w.profile) w.fmask
  { w with
    tb := tb, nep := s.get l F.EIS_WIN_W_S * 1000000000 / max 1 s.clock.p
    peak := if w.passive then 0 else tonePeak (s.tones w) tb }

/-- The SETUP and FREQ frames of a window. -/
def State.sendSetup (s : State) (l : Lane) (w : EisWin) : State :=
  let codes := (s.profFreqs w.profile)
  let code (i : Nat) := if bitAt w.fmask i then codes.getD i 0 else 0
  s.ringSendAll
    [.eisCfg 0 1 [w.number % 256, w.tb, w.nep, s.clock.p / 1000, s.get l F.EIS_GATE_SETTLE * 100000000 / max 1 s.clock.p, w.fmask],
     .eisCfg 0 2 (0 :: (List.range 8).map code),
     .eisCfg 0 2 (8 :: (List.range 8).map fun i => code (i + 8))]

/-- SETUP and FREQ frames that still wait are not sent any more. -/
def State.dropSetup (s : State) : State :=
  let isSetup (q : Queued) : Bool := match q.cmd with
    | .eisCfg _ 1 _ | .eisCfg _ 2 _ => true
    | _ => false
  { s with chain := { s.chain with queue := s.chain.queue.filter fun q => !isSetup q } }

/-- A window's plan takes effect: the other lane's plan registers follow, PLAN_PEND clears, EIS_PEAK shows the effective peak
(R167, R190, R191). -/
def State.usePlan (s : State) (l : Lane) (w : EisWin) : State :=
  let s := (eisPlanOffs.zip w.plan).foldl (fun s x => s.wr l.other Pg.EIS x.1 x.2) s
  let s := s.put2 F.EIS_STAT_PLAN_PEND 0
  s.put2 F.EIS_PEAK_PEAK (if w.passive then 0 else s.effPeak (getBits (w.word 0x048) 11 0))

/-- START takes effect at this instant: the window of the authority lane's plan is prepared in both lanes, to begin FADE +
100 ms from now at the earliest (R168, R169, R190). -/
def State.eisPrepare (s : State) (l : Lane) : State :=
  let w := s.eisWin l (s.eisNow.cur.number + 1) s.clock.count
  let fade := if w.passive then 0 else s.get l F.EIS_FADE_FADE_MS * 1000000
  let t := s.clock.count + fade + 100000000
  let s := s.eisBoth fun e => { e with phase := 1, cur := w, next := none, notBefore := t, restart := false, resume := false }
  (s.usePlan l w).sendSetup l w

/-- The state conditions of START (R190, R191). -/
def State.eisStateBad (s : State) (l : Lane) : Bool :=
  s.mode != St.OPERATE || !s.contactorClosed || s.throttled || !s.getB l F.EIS_CTRL_ENABLE

/-- The value conditions of START (R166, R190). -/
def State.eisPlanBad (s : State) (l : Lane) : Bool :=
  let fmask := s.get l F.EIS_PLAN_FMASK
  let tb := basePeriod (s.profFreqs (s.get l F.EIS_PLAN_PROFILE)) fmask
  let w := s.get l F.EIS_WIN_W_S
  let nep := w * 1000000000 / max 1 s.clock.p
  fmask == 0 || tb == 0 || w % tb != 0 || decide (s.get l F.EIS_SIZE_SIZE < 0x14000 + 2 * nep * 128)

/-- The window that follows the running one without a break is set up from the plan registers as they stand, at its start and
again when the plan changes: with the same plan the excitation goes on in phase. A plan that START would refuse gives none
(R168, R178, R189, R191). -/
def State.eisNext (s : State) (l : Lane) : State :=
  let c := s.eisNow.cur
  if !c.cont then s
  else if s.eisPlanBad l then s.eisBoth fun e => { e with next := none }
  else
    let origin := if c.plan = s.planWords l then c.origin else c.startT + c.nep * s.clock.p
    let w := s.eisWin l (c.number + 1) origin
    ((s.eisBoth fun e => { e with next := some w }).dropSetup).sendSetup l w

/-- START takes effect, or waits for the end of a running window (R189, R190). -/
def State.eisStart (s : State) (l : Lane) : State :=
  if s.eisNow.running then (s.eisBoth fun e => { e with restart := true }).put2 F.EIS_STAT_PLAN_PEND 1
  else s.eisPrepare l

def eisStart (s : State) (r : Req) : Nat × State :=
  s.access r Pg.EIS 0x008
    [(.auth, !s.isAuth r.lane), (.state, s.eisStateBad r.lane), (.value, s.eisPlanBad r.lane)] fun s => s.eisStart r.lane

def execEisStart (r : Req) (s : State) : Out := s.answered (eisStart s r)

/-- The direction of a window: the state of the rate-limited set-point of loop 0 (R174): 0 REST, 1 CHARGE, 2 DISCHARGE. -/
def State.eisDir (s : State) (l : Lane) (sp : Rat) : Nat :=
  if -(s.get l F.EIS_GATE_REST_A : Rat) ≤ sp ∧ sp ≤ s.get l F.EIS_GATE_REST_A then 0 else if 0 < sp then 1 else 2

/-- The prepared window begins with the SAMPLE of the latest epoch, at the sample instant `t` (R168, R178). -/
def State.eisBegins (s : State) (t : Nat) : State :=
  let l := s.auth.getD .a
  let dir := s.eisDir l (s.setPoint l)
  let s := s.eisBoth fun e => { e with
    phase := 2
    cur := { e.cur with
      startEp := s.sampleEpoch, startT := t, idx := 0, gated := false, accepted := [], parts := [], dir := dir
      isLocal := !s.clock.plant } }
  let s := s.put2 F.EIS_STAT_WINDOW 1
  (s.ev 0x0901 0 (leBytes 4 s.eisNow.cur.number ++ leBytes 4 s.sampleEpoch)).eisNext l

/-- The window begins at the first sample instant at or after its earliest instant (R168, R169). -/
def eisWindowStart (s : State) : State :=
  match s.sampledAt with
  | some t => if s.eisNow.phase = 1 ∧ s.eisNow.notBefore ≤ t then s.eisBegins t else s
  | none => s

def execEisWindowStart (s : State) : Out := s.fin (eisWindowStart s)

/-! ### Current samples and their partial sums (R171) -/

/-- The sums of an epoch with a current sample in A, `t` ns after the window's start: Σ i e^(−j2πft) of every selected entry. -/
def addSample (codes : List Nat) (fmask t : Nat) (amp : Rat) (sums : List (Rat × Rat)) : List (Rat × Rat) :=
  (List.range 16).map fun i =>
    let z := sums.getD i (0, 0)
    if bitAt fmask i then
      let x := mkRat (codes.getD i 0 * t) 20000000000
      (z.1 + amp * cosTurns x, z.2 - amp * sinTurns x)
    else z

/-- A current sample joins the epoch of the window in which it lies. -/
def EisWin.sample (w : EisWin) (codes : List Nat) (p t : Nat) (amp : Rat) : EisWin :=
  if t < w.startT ∨ p = 0 ∨ w.nep ≤ (t - w.startT) / p then w
  else
    let i := (t - w.startT) / p
    let x := (w.parts.find? fun x => x.idx == i).getD ⟨i, 0, []⟩
    { w with parts :=
        ⟨i, x.n + 1, addSample codes w.fmask (t - w.startT) amp x.sums⟩ :: w.parts.filter fun x => x.idx != i }

/-- Is an epoch accepted in a window? -/
def EisWin.took (w : EisWin) (i : Nat) : Bool := w.accepted.any fun x => x.idx == i

/-- The address of an epoch's partial sums in a lane's EIS area: the windows take turns in its two halves of 128 bytes for each
epoch (notes/assumptions/12). -/
def State.partAddr (s : State) (l : Lane) (w : EisWin) (i : Nat) : Nat :=
  s.get l F.EIS_BASE_BASE * 0x1000 + 0x14000 + (w.number % 2 * w.nep + i) * 128

/-- The samples in an epoch. -/
def State.eisPerEpoch (s : State) : Nat := s.clock.p / 25000

/-- The partial sums of an accepted epoch go to the DRAM of both lanes, real before imaginary, entry by entry. -/
def State.storePart (s : State) (w : EisWin) (x : EisPart) : State :=
  let b := (List.range 16).flatMap fun i =>
    leBytes 4 (f32Of (x.sums.getD i (0, 0)).1) ++ leBytes 4 (f32Of (x.sums.getD i (0, 0)).2)
  lanes.foldl (fun s l =>
    if s.dramOpen l && inDram (s.partAddr l w x.idx) 128 then s.dramStore l (s.partAddr l w x.idx) b else s) s

/-- The complete partial sums of a window's closed epochs are stored, where the epoch is accepted. -/
def State.eisFlush (s : State) : State :=
  let full (w : EisWin) (x : EisPart) : Bool := decide (s.eisPerEpoch ≤ x.n) && decide (x.idx < w.idx)
  let e := s.eisNow
  let s := (e.cur :: e.out.toList).foldl (fun s w =>
    (w.parts.filter fun x => full w x && w.took x.idx).foldl (fun s x => s.storePart w x) s) s
  let rest (w : EisWin) : EisWin := { w with parts := w.parts.filter fun x => !full w x }
  s.eisBoth fun e => { e with cur := rest e.cur, out := e.out.map rest }

/-- The EIS decimator delivers current samples in A, 25 µs apart from `t` on (R171). -/
def State.eisSamples (s : State) (t : Nat) (amps : List Rat) : State :=
  let e := s.eisNow
  if amps.isEmpty ∨ (e.phase ≠ 2 ∧ e.out.isNone) then s
  else
    let p := s.clock.p
    let take (w : EisWin) : EisWin :=
      amps.zipIdx.foldl (fun w x => w.sample (s.profFreqs w.profile) p (t + 25000 * x.2) x.1) w
    (s.eisBoth fun e => { e with cur := if e.phase = 2 then take e.cur else e.cur, out := e.out.map take }).eisFlush

/-! ### Gating (R174, R175) -/

/-- A gate condition has held inside the running epoch. -/
def State.eisGate (s : State) (c : Bool) : State :=
  if c && s.eisNow.phase == 2 then s.eisBoth fun e => { e with cur := { e.cur with gated := true } } else s

/-- The running epoch ends: where no gate has held, its ACCEPT is queued for the coming gap and the epoch joins the accepted
set of both lanes. `temps` holds the associated temperatures of the epoch. A window past its last epoch has none. -/
def State.eisEpoch (s : State) (iAvg : Int) (temps : List (Option Int)) : State :=
  let e := s.eisNow
  if e.phase ≠ 2 ∨ e.cur.nep ≤ e.cur.idx then s
  else if e.cur.gated then
    (s.eisBoth fun e => { e with cur := { e.cur with idx := e.cur.idx + 1, gated := false } }).eisFlush
  else
    let s := s.eisBoth fun e => { e with cur := { e.cur with
      idx := e.cur.idx + 1, accepted := ⟨e.cur.idx, iAvg, temps⟩ :: e.cur.accepted } }
    (s.ringSend (.eisCfg 0 3 [e.cur.number % 256, e.cur.idx, e.cur.accepted.length + 1])).eisFlush

/-- An epoch of the window with a WIN_ID counts as gated after all. -/
def EisWin.drop (w : EisWin) (win i : Nat) : EisWin :=
  if w.number % 256 = win then { w with accepted := w.accepted.filter fun x => x.idx != i } else w

/-- An ACCEPT that found no room in its gap is not sent, and its epoch counts as gated, in the running window or in one that
has just ended (R175). -/
def State.eisLateAccept (s : State) : State :=
  let late (q : Queued) : Option (Nat × Nat) := match q.cmd with
    | .eisCfg _ 3 fs => some (fs.getD 0 0, fs.getD 1 0)
    | _ => none
  let xs := s.chain.queue.filterMap late
  let s := { s with chain := { s.chain with queue := s.chain.queue.filter fun q => (late q).isNone } }
  xs.foldl (fun s x => s.eisBoth fun e => { e with cur := e.cur.drop x.1 x.2, out := e.out.map fun w => w.drop x.1 x.2 }) s

/-- The excitation fades out over FADE from now. -/
def State.eisFadeOut (s : State) : State :=
  let t := s.clock.count
  let out (e : Eis) : Eis := { e with fade := some (t, s.envelope e t, getBits (e.cur.word 0x054) 15 0 * 1000000) }
  { s with eis := ⟨out s.eis.a, out s.eis.b⟩ }

/-! ### The end of a window (R168, R178, R181) -/

/-- The reads of a readout: one for each group that holds a selected entry, and the gate record (R181). -/
def readSels (fmask : Nat) : List Nat := ((List.range 4).filter fun g => fmask / 2 ^ (4 * g) % 16 != 0) ++ [4]

/-- The window closes at the SAMPLE of index N_EP: a held plan takes effect and the readout starts. Under CONT the next window
begins at the same sample instant; else the excitation fades out, and a held START takes effect (R168, R181, R189, R191). -/
def eisWindowEnd (s : State) : State :=
  let e := s.eisNow
  if e.phase ≠ 2 ∨ e.cur.idx < e.cur.nep then s
  else
    let l := s.auth.getD .a
    let next := if s.throttled then none else e.next
    let s := if next.isSome then s else s.eisFadeOut
    let s := s.eisBoth fun e => { e with
      phase := 0, next := none, restart := false, out := some e.cur, endEp := s.sampleEpoch, endQual := [], reads := [] }
    let s := ((s.put2 F.EIS_STAT_WINDOW 0).put2 F.EIS_STAT_READOUT 1).put2 F.EIS_STAT_PLAN_PEND 0
    let s := s.ringSendAll (s.ids.flatMap fun k => (readSels e.cur.fmask).map fun g => .eisRead k (e.cur.number % 256) g)
    match next with
    | some w => ((s.eisBoth fun e => { e with cur := w }).usePlan l w).eisBegins (s.sampledAt.getD s.clock.count)
    | none => if e.restart && !s.eisStateBad l && !s.eisPlanBad l then s.eisPrepare l else s

def execEisWindowEnd (s : State) : Out := s.fin (eisWindowEnd s)

/-! ### Abort (R189) -/

/-- The causes after which the excitation fades out over FADE; after the others it is removed at once. -/
def fadesOut (cause : Nat) : Bool := cause == 1 || cause == 2 || cause == 7 || cause == 8

/-- An abort discards the window in both lanes and in every monitor, records its cause and raises 0x0903. A held START takes
effect then, where it is not refused; after cause 2 it waits for the end of the suspension, as does a plan with CONT. A plan
held without START stays held (R189, notes/assumptions/12). -/
def State.eisAbort (s : State) (cause : Nat) : State :=
  let e := s.eisNow
  if e.running then
    let l := s.auth.getD .a
    let s := if fadesOut cause then s.eisFadeOut else s.eisBoth fun e => { e with fade := none }
    let s := s.eisBoth fun x => { x with
      phase := 0, next := none, restart := false, resume := cause == 2 && (e.cur.cont || e.restart) }
    let s := s.put2 F.EIS_STAT_WINDOW 0
    let s := (s.put2 F.EIS_ABORT_CAUSE cause).put2 F.EIS_ABORT_WINDOW e.cur.number
    let s := (s.bumpSat .a F.EIS_CNT_ABORTED).bumpSat .b F.EIS_CNT_ABORTED
    let s := s.ringSend (.eisCfg 0 4 [e.cur.number % 256])
    let s := s.ev 0x0903 0 (leBytes 4 e.cur.number ++ [cause])
    if e.restart && fadesOut cause && !s.eisStateBad l && !s.eisPlanBad l then s.eisPrepare l else s
  else s

/-- An abort cause that holds. -/
def State.eisAbortIf (s : State) (c : Bool) (cause : Nat) : State := if c then s.eisAbort cause else s

def eisAbortWrite (s : State) (r : Req) : Nat × State :=
  s.access r Pg.EIS 0x008 [(.auth, !s.isAuth r.lane)] fun s => s.eisAbort 1

/-- EIS_CTRL.ABORT by the authority lane, or another cause of R189 that arises. -/
def execEisAbort (r : Option Req) (cause : Nat) (s : State) : Out :=
  match r with
  | some r => s.answered (eisAbortWrite s r)
  | none => s.fin (s.eisAbort cause)

/-- Throttling suspends windows, with event 0x0907; a plan with CONT starts anew when it ends (R189). -/
def State.eisSuspend (s : State) (on : Bool) : State :=
  if on then
    ((s.eisAbort 2).put2 F.EIS_STAT_SUSPENDED 1).ev 0x0907 0 [1]
  else
    let l := s.auth.getD .a
    let go := s.eisNow.resume && !s.eisStateBad l && !s.eisPlanBad l
    let s := s.eisBoth fun e => { e with resume := false }
    let s := (s.put2 F.EIS_STAT_SUSPENDED 0).ev 0x0907 0 [0]
    if go then s.eisStart l else s

/-! ### Pure parts of the results (R177, R184, R187) -/

/-- The epochs of `[0, n)` that a monitor's gate ranges leave out for a position, among the accepted ones. -/
def locallyGated (rs : List (Nat × Nat)) (i : Nat) : Bool := rs.any fun r => decide (r.1 ≤ i) && decide (i < r.1 + r.2)

/-- A position in the data of a gate record after ACC_RX and OVF: 17 bytes, NG and four ranges (R179). -/
def gateRec (b : List Nat) (j : Nat) : List Nat := (b.drop (6 + 17 * j)).take 17

/-- The gate ranges of a position's record. -/
def rangesOf (b : List Nat) : List (Nat × Nat) :=
  let ws := (List.range 4).map fun i => leAt b (1 + 4 * i) 4
  (ws.filter (· != 0)).map fun w => (w / 2 ^ 12, w % 2 ^ 12)

/-- A complex quotient. -/
def cdiv (v i : Rat × Rat) : Rat × Rat :=
  let d := i.1 * i.1 + i.2 * i.2
  if d = 0 then (0, 0) else ((v.1 * i.1 + v.2 * i.2) / d, (v.2 * i.1 - v.1 * i.2) / d)

/-- The squared magnitude of a complex value. -/
def norm2 (z : Rat × Rat) : Rat := z.1 * z.1 + z.2 * z.2

/-- A bin departs: |Z_meas − Z_tbl| > DEPART % of |Z_tbl| (R184). -/
def binDeparts (depart : Nat) (zm zt : Rat × Rat) : Bool :=
  decide ((depart * depart : Nat) * norm2 zt < 10000 * norm2 (zm.1 - zt.1, zm.2 - zt.2))

/-- The blend of R184: Z_tbl + (Z_meas − Z_tbl) × 2^(−SHIFT). -/
def blend (shift : Nat) (zm zt : Rat × Rat) : Rat × Rat :=
  let k : Rat := 2 ^ shift
  (zt.1 + (zm.1 - zt.1) / k, zt.2 + (zm.2 - zt.2) / k)

/-- Linear interpolation between neighbouring (x, y) points of a curve; none outside it. -/
def interp (x : Rat) : List (Rat × Rat) → Option Rat
  | (x0, y0) :: (x1, y1) :: l =>
    if (x0 ≤ x ∧ x ≤ x1) ∨ (x1 ≤ x ∧ x ≤ x0) then some (if x1 = x0 then y0 else y0 + (y1 - y0) * (x - x0) / (x1 - x0))
    else interp x ((x1, y1) :: l)
  | _ => none

end Sys2Proof.Machine
end

