-- ==== Sys2Proof/Machine/Bal.lean ====
section
/-! DEFINITION. Balancing: the bleed model with B_p, the plans and their delivery (R229 to R240). The monitors' own timers
are in Machine/Monitor.lean. -/

namespace Sys2Proof.Machine

open Sys2Proof

/-! ### The bleed model (R236, R238) -/

def Bal.monAt (b : Bal) (k : Nat) : BalMon := sget (fun _ => BalMon.zero) b.mons k
def Bal.setMon (b : Bal) (k : Nat) (m : BalMon) : Bal := { b with mons := sput (fun _ => BalMon.zero) b.mons k m }

/-- On-time in µs within `dt` µs from a place in a duty cycle of 10 s: the switch is on for the first duty × 10 s; `next` is
the duty of the cycles that start meanwhile. -/
def bleedOn : Nat → Nat → Nat → Nat → Nat → Nat
  | 0, _, _, _, _ => 0
  | n + 1, phase, duty, next, dt =>
    let step := min dt (10000000 - phase)
    let lit := duty * 625000
    (min (phase + step) lit - min phase lit) + (if dt ≤ step then 0 else bleedOn n 0 next next (dt - step))

/-- A monitor's cycle after `dt` µs. -/
def BalMon.next (m : BalMon) (dt : Nat) : BalMon :=
  { m with phase := (m.phase + dt) % 10000000, duty := if 10000000 ≤ m.phase + dt then bleedDuty m.die else m.duty }

/-- A position's bleed over an interval in which its switch could be on for `on` µs: its timer, B_p and what a
reconciliation adds (R238). -/
def BalPos.run (x : BalPos) (on : Nat) (volt res : Rat) : BalPos :=
  let t := min on x.remain
  let amp : Rat := if res = 0 then 0 else volt / res
  let q := amp * ((t : Rat) + x.corr)
  { x with remain := x.remain - t, b := x.b + q, bLast := q, corr := 0, volt := volt, res := res }

/-- R_p of a position's class 0x05 entry, or BAL_RDEF (R230). -/
def State.resOf (s : State) (l : Lane) (es : List (Nat × Chan)) (p : Nat) : Rat :=
  match es.find? (fun x => x.2.cls == 5 && x.2.src == p) with
  | some (_, c) => if f32 c.p0 = 0 then (s.get l F.BAL_RDEF_R_DEF : Rat) / 100 else f32 c.p0
  | none => (s.get l F.BAL_RDEF_R_DEF : Rat) / 100

/-- V_p: the fine value, else the coarse value, else the last valid one (R238). -/
def Snap.bleedVolt (n : Snap) (p : Nat) (last : Rat) : Rat :=
  if !qHas (n.qf p) Q.INVALID then n.fineV p else if !qHas (n.qc p) Q.INVALID then n.coarseV p else last

/-- A lane's bleed model runs over the interval that ends with a snapshot: `dt` µs (R238). -/
def State.bleedEpoch (s : State) (l : Lane) (n : Snap) (es : List (Nat × Chan)) (dt : Nat) : State :=
  let b := s.bal.get l
  let seenMon (k : Nat) (m : BalMon) : BalMon :=
    let x := (n.mons[k - 1]?).getD (MonSnap.none)
    if qHas x.qm Q.INVALID then m else { m with die := x.die }
  let mons := b.mons.map fun x => (x.1, seenMon x.1 x.2)
  let pos := b.pos.map fun x =>
    let k := monOfPos x.1
    let m := sget (fun _ => BalMon.zero) mons k
    let blind := Nat.land (n.qc x.1) (Q.NO_REPLY + Q.NOT_SAMPLED) != 0
    let on := bleedOn (dt / 10000000 + 2) m.phase m.duty (bleedDuty m.die) dt
    let y := x.2.run on (n.bleedVolt x.1 x.2.volt) (s.resOf l es x.1)
    (x.1, { y with bEst := y.bEst || (blind && decide (0 < x.2.remain)) })
  let b := { b with pos := pos, mons := mons.map fun x => (x.1, x.2.next dt) }
  let changed := (b.mons.filter fun x => x.2.duty != ((s.bal.get l).monAt x.1).duty &&
    pos.any fun y => monOfPos y.1 == x.1 && decide (0 < y.2.remain)).map fun x => (x.1, x.2.duty)
  let s := { s with bal := s.bal.set l b }
  changed.foldl (fun s x => s.evL l 0x0B06 x.1 [x.1, x.2]) s

/-! ### Targets and timers (R231 to R233) -/

/-- Does the module exclude a position (R230): INHIBIT, the current limit, or the resistance limit? The second component
says that a limit did it. -/
def State.excluded (s : State) (l : Lane) (es : List (Nat × Chan)) (p k : Nat) : Bool × Bool :=
  let r := s.resOf l es p
  let inhibit := es.any fun x => x.2.cls == 5 && x.2.src == p && bitAt x.2.p1 0
  let limit := decide (r < 1) || decide (3 * r < 10 * s.ocvMax k)
  (inhibit || limit, limit)

/-- The profile of a position: the one of its class 0x01 entry, or EST_CFG.PROFILE (R196). -/
def State.profOf (s : State) (l : Lane) (c : Chan) : Nat :=
  if c.profile = 0xFF then s.get l F.EST_CFG_PROFILE else c.profile % 4

/-- What a plan needs of a position: its number, SoC and capacity as the EST holds them, whether it is eligible. -/
structure PlanPos where
  p : Nat
  soc : Rat
  cap : Rat
  eligible : Bool
  excl : Bool
  stopped : Bool
deriving DecidableEq, Repr

/-- The target of a position in Ah over the eligible positions (R232). -/
def target (mode : Nat) (all : List PlanPos) (x : PlanPos) : Rat :=
  let es := all.filter (·.eligible)
  let least (f : PlanPos → Rat) : Rat := es.foldl (fun m y => min m (f y)) (f x)
  let most (f : PlanPos → Rat) : Rat := es.foldl (fun m y => max m (f y)) (f x)
  if !x.eligible then 0
  else if mode = 0 then (x.soc - least (·.soc)) * x.cap
  else if mode = 1 then most (fun y => (1 - y.soc) * y.cap) - (1 - x.soc) * x.cap
  else x.soc * x.cap - least fun y => y.soc * y.cap

/-- The timer of a target in Ah: floor(3,600 × target / I_nom), at most 65,535 s (R233). -/
def timerOf (tgt volt res : Rat) : Nat :=
  if volt ≤ 0 then 0 else min 65535 ((3600 * tgt * res / volt).floor.toNat)

/-- Is a plan due at an epoch (R231)? -/
def State.planDue (s : State) (l : Lane) (epoch : Nat) : Bool :=
  let per := s.get l F.BAL_CFG_PLAN_S * 1000000000 / max 1 s.clock.p
  (s.bal.get l).planNow || (s.bal.get l).waiting || (per != 0 && epoch % per == 0)

/-- The positions of the EST as a plan sees them. -/
def State.planPositions (s : State) (l : Lane) (n : Snap) (es : List (Nat × Chan)) : List PlanPos :=
  (s.est.get l).pos.filterMap fun x =>
    match es.find? (fun y => y.2.cls == 1 && y.2.src == x.1) with
    | none => none
    | some (_, c) =>
      let ex := (s.excluded l es x.1 (s.profOf l c)).1
      some ⟨x.1, x.2.soc, x.2.cap, !ex && !x.2.unc && !x.2.dis && !qHas (n.qf x.1) Q.INVALID, ex, s.heldStop n x.1⟩

/-- An exclusion by a limit is raised once for each change of the entry, and an excluded position that bleeds is stopped (R230,
R237). -/
def State.tellExclusions (s : State) (l : Lane) (es : List (Nat × Chan)) : State :=
  let s := es.foldl (fun s x =>
    if x.2.cls ≠ 5 then s
    else
      let k := match es.find? (fun y => y.2.cls == 1 && y.2.src == x.2.src) with
        | some (_, c) => s.profOf l c
        | none => s.get l F.EST_CFG_PROFILE
      let ex := s.excluded l es x.2.src k
      let s := if ex.2 && !(s.cdt.get l).told.contains x.1 then
          let d := s.cdt.get l
          ({ s with cdt := s.cdt.set l { d with told := x.1 :: d.told } } : State).evL l 0x0B05 0 (leBytes 2 x.2.src)
        else s
      s) s
  (s.bal.get l).pos.foldl (fun s x =>
    let k := match es.find? (fun y => y.2.cls == 1 && y.2.src == x.1) with
      | some (_, c) => s.profOf l c
      | none => s.get l F.EST_CFG_PROFILE
    let mask := 2 ^ ((x.1 - 1) % 12)
    if (s.excluded l es x.1 k).1 && s.isAuth l && s.bleedRuns (monOfPos x.1) mask then s.bleedStop (monOfPos x.1) mask 4
    else s) s

/-- A lane computes a plan: targets, timers, PLAN_ID (R231 to R233). -/
def State.computePlan (s : State) (l : Lane) (n : Snap) (es : List (Nat × Chan)) : State :=
  let s := s.tellExclusions l es
  let all := s.planPositions l n es
  let mode := s.get l F.BAL_CFG_MODE
  let dead : Rat := (s.get l F.BAL_CFG_DEADBAND : Rat) / 1000
  let ts := all.map fun x =>
    let t := target mode all x
    let t := if t < dead then 0 else t
    (x, t, if x.stopped then 0 else timerOf t (n.fineV x.p) (s.resOf l es x.p))
  let b := s.bal.get l
  let pos := ts.foldl (fun (b : Bal) y =>
    b.setPos y.1.p { b.at1 y.1.p with
      target := (1000 * y.2.1).floor.toNat, excl := y.1.excl, res := s.resOf l es y.1.p
      volt := n.bleedVolt y.1.p (b.at1 y.1.p).volt }) b
  { s with bal := s.bal.set l { pos with
    plan := (b.plan + 1) % 256, timers := ts.map fun y => (y.1.p, y.2.2), fresh := true, planNow := false
    waiting := false } }

/-- The timers of a monitor's 12 positions in a plan. -/
def timersOf (ts : List (Nat × Nat)) (k : Nat) : List Nat :=
  (List.range 12).map fun j => ((ts.find? (fun x => x.1 == 12 * (k - 1) + j + 1)).map (·.2)).getD 0

/-- A plan is fully delivered when no monitor is left: 0x0B01 and the count. -/
def State.planDone (s : State) (l : Lane) : State :=
  let b := s.bal.get l
  if b.due.isEmpty then
    (s.bumpSat l F.BAL_CNT_PLANS).evL l 0x0B01 0
      (b.plan :: leBytes 4 (s.get l F.BAL_LAST_EP_EPOCH) ++ leBytes 2 (s.get l F.BAL_LAST_POS_ON))
  else s

/-- A plan is due and may be computed: it is computed from the table as its own processing unit reads it (R95), and its
delivery to every monitor that answers begins (R231, R234). -/
def State.balPlan (s : State) (l : Lane) (n : Snap) : State :=
  let hold (s : State) (w : Bool) : State := { s with bal := s.bal.set l { s.bal.get l with waiting := w, planNow := false } }
  if !s.planDue l n.epoch then s
  else if s.mode ≠ St.OPERATE ∨ !s.getB l F.BAL_CTRL_ENABLE then hold s false
  else if s.getB l F.BAL_CFG_EIS_HOLD ∧ (s.eis.get l).phase = 2 then
    if (s.bal.get l).waiting then s else (hold s true).evL l 0x0B07
  else
    let (s, es) := s.useTable l
    let s := s.computePlan l n es
    let ids := s.ids.filter fun k => !(s.chain.inf k).ns && !(s.chain.inf k).nr
    let b := s.bal.get l
    let s := { s with bal := s.bal.set l { b with due := ids } }
    let s := s.put l F.BAL_LAST_POS_ON (b.timers.filter fun x => decide (0 < x.2)).length
    let s := (s.put l F.BAL_LAST_EP_EPOCH n.epoch).put l F.BAL_LAST_PLAN_ID b.plan
    let s := s.put l F.BAL_LAST_CONFIRMED 0
    if ids.isEmpty then s.planDone l else s

/-- The timers of a monitor as they reach the ring: those of a lane, while the arbiter merges the smaller of both lanes', where
a lane that has failed or has no plan yet counts with what it last commanded (R18, R235). -/
def State.planTimers (s : State) (l : Lane) (k : Nat) : List Nat :=
  let mine := timersOf (s.bal.get l).timers k
  if s.gb F.LANE_AUTH_MERGE then (mine.zip (timersOf (s.bal.get l.other).timers k)).map fun x => min x.1 x.2 else mine

/-- The plans that the lanes have computed are sent: the authority lane's frames, while the arbiter merges both lanes' minimum;
outside the merge no other lane's frames reach the ring (R234, R235). A new plan replaces what is left of the one before. -/
def State.balSend (s : State) : State :=
  let l := s.auth.getD .a
  let go := (s.bal.get l).fresh || (s.gb F.LANE_AUTH_MERGE && (s.bal.get l.other).fresh)
  let s := { s with bal := ⟨{ s.bal.a with fresh := false }, { s.bal.b with fresh := false }⟩ }
  if go then
    let b := s.bal.get l
    s.dropPlans.ringSendAll (b.due.map fun k => .bleedPlan l k b.plan (s.planTimers l k))
  else s

/-! ### Delivery and reconciliation (R234, R238) -/

/-- The model of a monitor starts 12 new timers. -/
def Bal.loadTimers (b : Bal) (k : Nat) (timers : List Nat) : Bal :=
  let m := b.monAt k
  let b := b.setMon k { m with phase := 0, duty := bleedDuty m.die }
  (List.range 12).foldl (fun (b : Bal) j =>
    let p := 12 * (k - 1) + j + 1
    let t := timers.getD j 0
    b.setPos p { b.at1 p with remain := 1000000 * t, corr := 0 }) b

/-- The positions of a monitor become unconfirmed. -/
def Bal.unsure (b : Bal) (k : Nat) : Bal :=
  { b with pos := b.pos.map fun (x : Nat × BalPos) => if monOfPos x.1 = k then (x.1, { x.2 with bEst := true }) else x }

/-- A monitor has acknowledged its timers, or gives no valid reply: the model of both lanes follows (R234). -/
def State.planServed (s : State) (k plan : Nat) (timers : List Nat) (ok : Bool) : State :=
  (lanes.filter s.active).foldl (fun s l =>
    let b := s.bal.get l
    if !b.due.contains k then s
    else
      let b := { b with due := b.due.filter (· != k) }
      let b := if ok then b.loadTimers k timers else b.unsure k
      let s := { s with bal := s.bal.set l b }
      let s := if ok then s.put l F.BAL_LAST_CONFIRMED (s.get l F.BAL_LAST_CONFIRMED + 1)
        else (s.bumpSat l F.BAL_CNT_FAILS).evL l 0x0B02 k [k, plan]
      s.planDone l) s

/-- The model of a monitor is compared with its BLEED_REMAIN and DUTY_LIMIT: a difference of 2 s or more corrects B_p in
the next epoch and clears B_EST (R238). At ring start the running timers are taken over (R237). -/
def State.reconcile (s : State) (k : Nat) (remain : List Nat) (duty : Nat) (take : Bool) : State :=
  (lanes.filter s.active).foldl (fun s l =>
    let s := { s with bal := s.bal.set l ((s.bal.get l).setMon k { (s.bal.get l).monAt k with duty := duty }) }
    ((List.range 12).foldl (fun (s : State) j =>
      let p := 12 * (k - 1) + j + 1
      let b := s.bal.get l
      let x := b.at1 p
      let r := remain.getD j 0 * 1000000
      let d : Int := (x.remain : Int) - r
      if take then { s with bal := s.bal.set l (b.setPos p { x with remain := r, bEst := false }) }
      else if 2000000 ≤ d.natAbs then
        let amp : Rat := if x.res = 0 then 0 else x.volt / x.res
        let s := { s with bal := s.bal.set l (b.setPos p { x with
          remain := r, corr := x.corr + d, bEst := false }) }
        s.evL l 0x0B04 0 (leBytes 2 p ++ leBytes 4 (ofSigned 32 (roundI (amp * d / 1000))))
      else { s with bal := s.bal.set l (b.setPos p { x with bEst := false }) }) s)) s

/-- The values read from a monitor: its 12 timers in s and its duty (R238). -/
def execBleedReconcile (k : Nat) (remain : List Nat) (duty : Nat) (s : State) : Out := s.fin (s.reconcile k remain duty false)

/-! ### The BAL page (R239) -/

/-- BAL_CTRL.STOP_ALL: a broadcast BLEED_STOP (R237). -/
def balStopAll (s : State) (r : Req) : Nat × State :=
  s.access r Pg.BAL 0x008 [(.auth, !s.isAuth r.lane)] fun s => s.bleedStop 0 0xFFF 6

def execStopAll (r : Req) (s : State) : Out := s.answered (balStopAll s r)

/-- BAL_CTRL.PLAN_NOW: a plan at the next epoch, in both lanes (R231). -/
def balPlanNow (s : State) (r : Req) : Nat × State :=
  s.access r Pg.BAL 0x008 [(.auth, !s.isAuth r.lane)] fun s =>
    { s with bal := ⟨{ s.bal.a with planNow := true }, { s.bal.b with planNow := true }⟩ }

def execPlanNow (r : Req) (s : State) : Out := s.answered (balPlanNow s r)

/-- BAL_CTRL.ENABLE: 0 stops planning and sends a broadcast BLEED_STOP (R237, R239). -/
def balEnable (s : State) (r : Req) (v : Nat) : Nat × State :=
  let change := v != s.get r.lane F.BAL_CTRL_ENABLE
  s.access r Pg.BAL 0x008 [(.auth, change && !s.isAuth r.lane)] fun s =>
    let s := s.put r.lane F.BAL_CTRL_ENABLE v
    if v = 0 ∧ change then s.bleedStop 0 0xFFF 6 else s

end Sys2Proof.Machine
end

