-- ==== Sys2Proof/Machine/Est.lean ====
section
/-! DEFINITION. The estimator: the filter of each position, rest points and capacity learning, limits, starts, relearns, the
output block, the estimator store and the EST page (R193 to R228). Values are exact rationals. -/

namespace Sys2Proof.Machine

open Sys2Proof

/-! ### Positions -/

/-- The start values of the covariance beside σ², which the manual leaves open. -/
def cov0 : List Rat := (List.range 9).map (Config.kalman [])

/-- A position of which the estimator knows nothing. -/
def EstPos.zero : EstPos :=
  { soc := 0, var := 0, va := 0, vb := 0, rho := 1, cov := cov0, cap := 0, tm := 25, tmOk := false, tmBack := false,
    unc := false, noHist := false, capPrior := false, susp := false, dis := false, blind := false, hallSub := false,
    sat := false, rest := false, restAll := true, lastV := 0, upd := false, small := false, plaus := false, room := 0, prof := 0,
    disIn := 0, disOut := 0, socV := none, restNs := 0, fines := [], slope0 := none, anchor := none, rej := 0, learned := 0, vtOff := 0, vt := none, relearnEp := none, stored := none,
    offDue := none }

/-- A lane's position. -/
def State.estPos (s : State) (l : Lane) (p : Nat) : Option EstPos :=
  ((s.est.get l).pos.find? (fun x => x.1 == p)).map (·.2)

/-- A lane's position, replaced. -/
def State.setEstPos (s : State) (l : Lane) (p : Nat) (x : EstPos) : State :=
  { s with est := s.est.set l { s.est.get l with pos := sins p x (sdel p (s.est.get l).pos) } }

/-- A lane's estimator, changed. -/
def State.mapEst (s : State) (l : Lane) (f : Est → Est) : State := { s with est := s.est.set l (f (s.est.get l)) }

/-- Cells per position (R194). -/
def State.cells (s : State) (l : Lane) : Rat := (s.get l F.EST_CFG_CELLS_M1 : Rat) + 1

/-- The capacity of new cells in Ah (R217). -/
def State.newCap (s : State) (l : Lane) (k : Nat) : Rat := s.profF k 0x14 * s.cells l

/-- R_S of a position without ρ, in Ω (R205). -/
def State.rs (s : State) (l : Lane) (k : Nat) (soc tm : Rat) : Rat := s.model k 0 soc tm / s.cells l

/-- The σ thresholds as variances (R208). -/
def sigVar (tenths : Nat) : Rat := ((tenths : Rat) / 1000) * ((tenths : Rat) / 1000)

/-- Is a fine value usable by the filter (R198)? -/
def fineOk (q : Nat) : Bool := !qHas q (Q.INVALID + Q.MISMATCH)

/-- What an epoch gives every position: the sample instant, as a `up` instant too, with the time since the one before; whether
it is the first since the start; Δt in s, the string's charge in C where it is usable, whether it comes from the Hall sensor, a
LULL period, I_INST and I_AVG in A, the I_AVG before, an epoch discontinuity. -/
structure EpIn where
  t : Nat
  up : Nat
  ran : Nat
  first : Bool
  dt : Rat
  dq : Option Rat
  hall : Bool
  lull : Bool
  iInst : Rat
  iAvg : Rat
  iPrev : Rat
  jump : Bool
deriving DecidableEq, Repr

/-! ### Temperatures (R186, R188, R195) -/

/-- The value of a table entry of class 0x03, where it is valid. -/
def ntcAt (es : List (Nat × Chan)) (n : Snap) (i : Nat) : Option Rat :=
  match es.find? (fun x => x.1 == i) with
  | some (_, c) =>
    if c.cls = 3 ∧ !qHas (n.qual c) Q.INVALID then some (c.eng (n.raw c.snapOff)) else none
  | none => none

/-- The mean of the values of a list. -/
def mean (l : List Rat) : Option Rat := if l.isEmpty then none else some (l.sum / l.length)

/-- The class 0x04 entry of a position. -/
def vtEntry (es : List (Nat × Chan)) (p : Nat) : Option (Nat × Chan) :=
  es.find? fun x => x.2.cls == 4 && x.2.src == p

/-- The associated physical temperature of a position in °C (R186). -/
def assocTemp (es : List (Nat × Chan)) (n : Snap) (p : Nat) : Option Rat :=
  match vtEntry es p with
  | some (_, c) => mean ([c.p0 / 2 ^ 16, c.p0 % 2 ^ 16].filterMap (ntcAt es n))
  | none => none

/-- VT(n) in 0.01 °C with its QUAL (R188). -/
def State.vtNow (s : State) (l : Lane) (x : EstPos) (assoc : Option Rat) (t : Nat) : Int × Nat :=
  match x.vt, assoc with
  | some r, some a =>
    if r.endT + s.get l F.EIS_VT_AGE_S * 1000000000 < t then (0, Q.INVALID + qIf r.mis Q.MISMATCH)
    else (roundI (100 * a) + r.dt, qIf r.mis Q.MISMATCH)
  | some r, none => (0, Q.INVALID + qIf r.mis Q.MISMATCH)
  | none, _ => (0, Q.INVALID)

/-- The valid NTC inputs of a monitor, in °C. -/
def Snap.ntcs (n : Snap) (k : Nat) : List Rat :=
  ((List.range 8).filter fun j => !qHas (n.qt k (j + 1)) Q.INVALID).map fun j => n.ntcC k (j + 1)

/-- T_m of a position: the first valid value of R195, and whether it is a fallback. -/
def State.modelTemp (s : State) (l : Lane) (es : List (Nat × Chan)) (n : Snap) (p t : Nat) (x : EstPos) : EstPos :=
  let assoc := assocTemp es n p
  let vt := s.vtNow l x assoc t
  let pick : Option (Rat × Bool) :=
    if (vtEntry es p).isSome && !qHas vt.2 (Q.INVALID + Q.MISMATCH) then some ((vt.1 : Rat) / 100, false)
    else match assoc with
      | some a => some (a, true)
      | none =>
        match mean (n.ntcs (monOfPos p)) with
        | some a => some (a, true)
        | none => (mean (((List.range 40).map (· + 1)).flatMap n.ntcs)).map fun a => (a, true)
  match pick with
  | some (a, b) => { x with tm := a, tmOk := true, tmBack := b }
  | none => { x with tmOk := false, tmBack := true }

/-! ### Prediction and correction (R194, R198, R199, R211) -/

/-- The charge input of a position in C (R193, R199, R200). -/
def posCharge (i : EpIn) (bleed : Rat) : Rat := (if i.lull then 0 else i.dq.getD 0) - bleed / 1000000

/-- Self-discharge over a time in s, as a fraction of the capacity. -/
def State.selfLoss (s : State) (k : Nat) (tm dt : Rat) : Rat := s.selfDis k tm * dt / (30 * 86400)

/-- One branch of the model. -/
def branch (v r tau dt amp : Rat) : Rat := v * expNeg (dt / tau) + r * (1 - expNeg (dt / tau)) * amp

/-- Is |I_INST| below 0.1 C_p, so that ρ takes neither noise nor correction (R194)? -/
def EstPos.quiet (x : EstPos) (iInst : Rat) : Bool := decide (|iInst| < x.cap / 10)

/-- The noise of SoC, V_A, V_B and ρ and that of the measurement, without that of ρ where it takes none (R194). -/
def State.noise (s : State) (k : Nat) (quiet : Bool) : List Rat :=
  (List.range 5).map fun j => if j = 3 ∧ quiet then 0 else s.profF k (0x2000 + 4 * j)

/-- Prediction of a position over an epoch; `tm0` is its T_m of the epoch before (R194, R199, R200). -/
def State.predict (s : State) (l : Lane) (k : Nat) (i : EpIn) (bleed tm0 : Rat) (x : EstPos) : EstPos :=
  let c := s.cells l
  let q := posCharge i bleed
  let eta := if 0 < q then s.profF k 0x18 else 1
  let amp := if i.dt = 0 then 0 else q / i.dt
  let loss := if i.lull then s.selfLoss k tm0 i.dt else 0
  let soc := x.soc + (if x.cap = 0 then 0 else eta * q / (3600 * x.cap)) - loss
  let args := [0, x.soc, x.va, x.vb, x.rho, x.var] ++ x.cov ++ [i.dt, i.iInst] ++ s.noise k (x.quiet i.iInst)
  let grow : Rat := if i.dq.isNone && !i.lull then (if x.cap = 0 then 0 else 6600 * i.dt / (3600 * x.cap)) else 0
  { x with
    soc := soc
    va := branch x.va (s.model k 1 x.soc x.tm / c) (s.model k 2 x.soc x.tm) i.dt amp
    vb := branch x.vb (s.model k 3 x.soc x.tm / c) (s.model k 4 x.soc x.tm) i.dt amp
    var := Config.kalman args 0 + grow * grow
    cov := (List.range 9).map fun j => Config.kalman args (j + 1)
    hallSub := i.hall }

/-- A rational held within ±a. -/
def clampQ (lo hi v : Rat) : Rat := if v < lo then lo else if hi < v then hi else v

/-- SoC_v: the voltage-implied SoC of a predicted position (R210). -/
def State.impliedSoc (s : State) (l : Lane) (k : Nat) (x : EstPos) (v iInst : Rat) : Rat :=
  s.ocvInv k (v - x.rho * s.rs l k x.soc x.tm * iInst - x.va - x.vb) x.tm

/-- Is an epoch plausible for a position (R210)? -/
def State.plausible (s : State) (k : Nat) (i : EpIn) (q : Rat) (x : EstPos) (socV : Rat) : Bool :=
  let amp := if i.dt = 0 then 0 else q / i.dt
  decide (|amp| ≤ x.cap / 20) && decide (|i.iAvg - i.iPrev| ≤ x.cap / 50) && decide (|x.va + x.vb| ≤ 1 / 200) &&
    s.trusted k socV

/-- The SoC correction that DISAGREE lets through in an epoch: in plausible ones only, at most RATE × Δt (R211). -/
def State.disRoom (s : State) (l : Lane) (plaus : Bool) (dt : Rat) : Rat :=
  if plaus then max 0 ((s.get l F.EST_DIS_RATE : Rat) / 10000 / 60 * dt) else 0

/-- A correction of SoC, as DISAGREE lets it through; what is left of the epoch's correction is less by it (R211). -/
def EstPos.moveSoc (x : EstPos) (d : Rat) : EstPos :=
  let m := if x.dis then clampQ (-x.room) x.room d else d
  { x with soc := x.soc + m, room := max 0 (x.room - |m|) }

/-- The voltage update of a predicted position (R194, R198, R199, R211). -/
def State.correct (s : State) (l : Lane) (k : Nat) (i : EpIn) (v : Rat) (x : EstPos) : EstPos :=
  let h := s.ocv k x.soc x.tm + x.rho * s.rs l k x.soc x.tm * i.iInst + x.va + x.vb
  let noise := if i.hall then (s.g F.MEAS_PLAUS_ABS : Rat) else s.profF k 0x2010
  let args := [1, x.soc, x.va, x.vb, x.rho, x.var] ++ x.cov ++ [v - h, noise, i.iInst, x.tm]
  { x.moveSoc (Config.kalman args 0) with
    va := x.va + Config.kalman args 1, vb := x.vb + Config.kalman args 2
    rho := if x.quiet i.iInst then x.rho else x.rho + Config.kalman args 3
    var := Config.kalman args 4, cov := (List.range 9).map fun j => Config.kalman args (j + 5), lastV := i.up, upd := true
    blind := false }

/-- The bounds of the filter (R194, R212). -/
def EstPos.bound (x : EstPos) : EstPos :=
  let soc := clampQ (-1 / 10) (11 / 10) x.soc
  { x with soc := soc, rho := clampQ (1 / 2) 4 x.rho, sat := decide (soc < 0) || decide (1 < soc) }

/-- UNCERTAIN under R198, R199 and R208. -/
def State.certainty (s : State) (l : Lane) (k : Nat) (i : EpIn) (x : EstPos) : EstPos :=
  let stale := decide (s.prof16 k 0x20 * 1000000000 + x.lastV ≤ i.up)
  let bad := decide (sigVar (s.get l F.EST_CONF_SIG_SET) < x.var) || stale || (i.dq.isNone && !i.lull)
  let good := decide (x.var ≤ sigVar (s.get l F.EST_CONF_SIG_CLR)) && x.upd && !stale
  { x with unc := bad || (x.unc && !good) }

/-- The disagreement test: N plausible epochs in a run, in which an epoch that is not plausible counts for nothing (R210). -/
def State.disagree (s : State) (l : Lane) (plaus : Bool) (socV : Rat) (x : EstPos) : EstPos :=
  if !plaus then x
  else
    let lim : Rat := (s.get l F.EST_DIS_LIM : Rat) / 100
    let n := s.get l F.EST_DIS_N
    let d := |x.soc - socV|
    let x := { x with socV := some socV }
    if x.dis then
      let c := if d ≤ lim / 2 then x.disOut + 1 else 0
      if n ≤ c then { x with dis := false, disIn := 0, disOut := 0 } else { x with disOut := c }
    else
      let c := if lim < d then x.disIn + 1 else 0
      if n ≤ c then { x with dis := true, disIn := 0, disOut := 0 } else { x with disIn := c }

/-- The slope of the straight line fitted to points (ns, V), in µV/min; 0 for fewer than two instants. -/
def slopeOf (l : List (Nat × Rat)) : Rat :=
  let n : Rat := l.length
  let t0 := (l.headD (0, 0)).1
  let ts := l.map fun x => ((x.1 - t0 : Nat) : Rat) / 60000000000
  let vs := l.map fun x => x.2 * 1000000
  let mt := ts.sum / n
  let mv := vs.sum / n
  let den := (ts.map fun t => (t - mt) * (t - mt)).sum
  if den = 0 then 0 else ((ts.zip vs).map fun x => (x.1 - mt) * (x.2 - mv)).sum / den

/-- Rest tracking: the rest timer, the fine values of the last 10 min, and the slope over the first 2 min after module reset,
once they are over (R200, R201, R214). -/
def State.restTrack (s : State) (l : Lane) (i : EpIn) (q : Rat) (off : Bool) (fine : Option Rat) (x : EstPos) : EstPos :=
  let amp := if i.dt = 0 then 0 else q / i.dt
  let still := decide (|amp| < (s.get l F.EST_REST_I_REST : Rat) / 1000 * x.cap) || i.lull
  let rest := still && off
  let fines := (match fine with
    | some v => x.fines ++ [(i.up, v)]
    | none => x.fines).filter fun y => decide (i.up ≤ y.1 + 600000000000)
  let two := fines.filter fun y => decide (y.1 ≤ 120000000000)
  { x with
    rest := rest, restAll := x.restAll && rest, restNs := if rest then x.restNs + i.ran else 0
    fines := fines
    slope0 := if x.slope0.isNone ∧ 120000000000 ≤ i.up ∧ 2 ≤ two.length then some (slopeOf two) else x.slope0 }

/-- The anchor over an epoch: its mean T_m goes on; an unusable count or an epoch discontinuity clears it (R199, R203). -/
def EstPos.keepAnchor (x : EstPos) (i : EpIn) : EstPos :=
  { x with anchor :=
      if i.jump || i.hall || (i.dq.isNone && !i.lull) then none
      else x.anchor.map fun a => { a with tmSum := a.tmSum + x.tm, tmN := a.tmN + 1 } }

/-- One epoch of a position, with the D of the disagreement test; at the first epoch the start path stands in the place of the
prediction (R197, R199). -/
def State.epochPos (s : State) (l : Lane) (k : Nat) (n : Snap) (i : EpIn) (p : Nat) (tm0 : Rat) (x : EstPos) : EstPos × Rat :=
  let b := (s.bal.get l).at1 p
  let q := posCharge i b.bLast
  let x := if i.first then x else s.predict l k i b.bLast tm0 x
  let v := n.fineV p
  let ok := fineOk (n.qf p)
  let socV := s.impliedSoc l k x v i.iInst
  let plaus := ok && s.plausible k i q x socV
  let x := { x with small := x.quiet i.iInst, plaus := plaus, room := s.disRoom l plaus i.dt, prof := k }
  let x := if ok then s.correct l k i v x else { x with blind := true }
  let x := s.certainty l k i x.bound
  let d := x.soc - socV
  let x := s.disagree l plaus socV x
  let fine := if qHas (n.qf p) Q.INVALID then none else some v
  ((s.restTrack l i q (b.remain == 0 && b.bLast == 0) fine x).keepAnchor i, d)

/-! ### Rest points (R201 to R204) -/

/-- The relaxation time in ns and the slope limit in µV/min of a position's profile (R201). -/
def State.relaxNs (s : State) (l : Lane) (k : Nat) : Nat :=
  (if s.get l F.EST_REST_RELAX_MIN = 0 then s.prof16 k 0x1C else s.get l F.EST_REST_RELAX_MIN) * 60000000000
def State.slopeLim (s : State) (l : Lane) (k : Nat) : Rat :=
  ((if s.get l F.EST_REST_SLOPE_UV = 0 then s.prof16 k 0x1E else s.get l F.EST_REST_SLOPE_UV : Nat) : Rat)

/-- SoC_ocv at the mean fine voltage of the last 60 s (R202). -/
def State.socOcv (s : State) (k : Nat) (up : Nat) (temp : Rat) (x : EstPos) : Rat :=
  let l := (x.fines.filter fun y => decide (up ≤ y.1 + 60000000000)).map (·.2)
  s.ocvInv k ((mean l).getD 0) temp

/-- Is a position at rest long enough, with a slope within the limit over the last 10 min, or over RELAX_MIN (R201)? -/
def State.restsNow (s : State) (l : Lane) (k up : Nat) (x : EstPos) : Bool :=
  let relax := s.relaxNs l k
  let pts := x.fines.filter fun z => decide (up ≤ z.1 + min 600000000000 relax)
  decide (relax ≤ x.restNs) && decide (2 ≤ pts.length) && decide (|slopeOf pts| < s.slopeLim l k)

/-- SoC_ocv applied to the filter as a measurement (R194, R202, R211). -/
def State.applyOcv (s : State) (k : Nat) (soc : Rat) (trust : Bool) (x : EstPos) : EstPos :=
  let sig := s.profF k (if trust then 0x54 else 0x58) / 100
  let args := [2, x.soc, x.va, x.vb, x.rho, x.var] ++ x.cov ++ [soc - x.soc, sig * sig]
  ({ x.moveSoc (Config.kalman args 0) with
    va := x.va + Config.kalman args 1, vb := x.vb + Config.kalman args 2
    rho := if x.small then x.rho else x.rho + Config.kalman args 3
    var := Config.kalman args 4, cov := (List.range 9).map fun j => Config.kalman args (j + 5) } : EstPos).bound

/-- The outcome of a test of the anchor (R203, R204). -/
inductive Learn where
  | no
  | good (cl cap : Rat)
  | bad (cl : Rat)
deriving DecidableEq, Repr

/-- The anchor tested against a new trusted rest point (R203, R204). -/
def State.learn (s : State) (l : Lane) (k : Nat) (soc q : Rat) (t : Nat) (x : EstPos) : Learn :=
  match x.anchor with
  | none => .no
  | some a =>
    let age : Rat := ((t - a.t : Nat) : Rat) / 1000000000
    let d := |soc - a.soc|
    if a.pwrcyc ≠ s.nv.pwrcyc ∨ s.get l F.EST_CAPL_MAX_H * 3600 < age ∨ d * 100 < s.get l F.EST_CAPL_SPAN then .no
    else
      let loss := s.selfLoss k (if a.tmN = 0 then x.tm else a.tmSum / a.tmN) age
      let cl := |q - a.q| / (3600 * (d - loss))
      if |cl - x.cap| * 100 ≤ s.get l F.EST_CAPL_ACC * x.cap then
        .good cl (x.cap + (cl - x.cap) / 2 ^ s.get l F.EST_CAPL_SHIFT)
      else .bad cl

/-- A capacity in mAh, as an event carries it. -/
def mAh (c : Rat) : List Nat := leBytes 4 (ofSigned 32 (roundI (1000 * c)))

/-- SUSPECT is set, with its source: 1 departure, 2 rejections (R216). -/
def State.suspect (s : State) (l : Lane) (p src : Nat) : State :=
  match s.estPos l p with
  | some x =>
    if x.susp then s
    else ((s.setEstPos l p { x with susp := true }).mapEst l fun e => { e with dirtyL := true }).evL l 0x0A07 0
      (leBytes 2 p ++ [src])
  | none => s

/-- A position reaches a rest point (R202 to R204). -/
def State.restPoint (s : State) (l : Lane) (k p t up epoch : Nat) (q temp : Rat) (x : EstPos) : State :=
  let soc := s.socOcv k up temp x
  let trust := s.trusted k soc
  let s := s.evL l 0x0A04 0 (leBytes 2 p ++ leBytes 2 (ofSigned 16 (roundI (10000 * soc))) ++ [b2n trust])
  let y := s.applyOcv k soc trust x
  if !trust then s.setEstPos l p y
  else
    let y := { y with noHist := false }
    let anchor : Anchor := ⟨soc, q, t, epoch, s.nv.pwrcyc, 0, 0⟩
    match s.learn l k soc q t x with
    | .no => s.setEstPos l p { y with anchor := some anchor }
    | .good cl cap =>
      let s := s.setEstPos l p { y with anchor := some anchor, cap := cap, capPrior := false, rej := 0, learned := y.learned + 1 }
      let s := (s.bumpSat l F.EST_CNT_LEARNED).mapEst l fun e => { e with dirtyL := true }
      s.evL l 0x0A05 0 (leBytes 2 p ++ mAh cl ++ mAh cap)
    | .bad cl =>
      let s := s.setEstPos l p { y with anchor := some anchor, rej := y.rej + 1 }
      let s := (s.bumpSat l F.EST_CNT_REJECTED).mapEst l fun e => { e with dirtyL := true }
      let s := s.evL l 0x0A06 0 (leBytes 2 p ++ mAh cl)
      if s.get l F.EST_CAPL_REJ_N ≤ y.rej + 1 then s.suspect l p 2 else s

/-- The position's charge count Q_p in C: the count less the cumulative B_p (R203). -/
def State.posQ (s : State) (l : Lane) (p : Nat) : Rat :=
  match (s.est.get l).prev with
  | some (_, q, _) => ((q : Rat) - ((s.bal.get l).at1 p).b) / 1000000
  | none => 0

/-- The evaluation that each lane makes every 60 s of plant time: every position whose rest timer and slope pass is at a
rest point (R201). It belongs to the latest epoch, whose table contents it uses (R95). -/
def restEval (s : State) : State :=
  (lanes.filter s.active).foldl (fun s l =>
    match (s.est.get l).prev with
    | none => s
    | some (t, _, _) =>
      (s.est.get l).pos.foldl (fun s y =>
        let p := y.1
        let x := y.2
        let up := (s.est.get l).upAt
        if s.restsNow l x.prof up x then
          let temp := match (s.est.get l).assoc.getD (p - 1) none with
            | some a => (a : Rat) / 100
            | none => x.tm
          s.restPoint l x.prof p t up (((s.est.get l).last).getD 0) (s.posQ l p) temp x
        else s) s) s

def execRestEvaluation (s : State) : Out := s.fin (restEval s)

/-! ### Starts and relearns (R213 to R220) -/

/-- The estimator units of a kind in the NV store: 0 state, 1 learned, 2 impedance table, with their slots (R221). -/
def estSlots : Nat → List Nat
  | 0 => [0x440000, 0x441000]
  | 1 => [0x442000, 0x446000]
  | _ => [0x44A000, 0x4C3000]

/-- The NV units of a record after its first: 4 KiB, 16 KiB and 484 KiB (R221, R222). -/
def estUnits : Nat → Nat
  | 0 => 0
  | 1 => 3
  | _ => 120

/-- The newest valid unit of a kind (R224). -/
def State.estUnit (s : State) (kind : Nat) : Option NvUnit :=
  ((estSlots kind).filterMap s.nv.unit).foldl (fun (best : Option NvUnit) u =>
    match best with
    | some b => if b.seq ≤ u.seq then some u else some b
    | none => some u) none

/-- What a header holds, and its rows. -/
def NvUnit.estHdr (u : NvUnit) : List Nat := match u.body with
  | .est _ h _ => h
  | _ => []
def NvUnit.estRows (u : NvUnit) : List (Nat × List Nat) := match u.body with
  | .est _ _ r => r
  | _ => []

/-- Does a header's cell count and profile CRC match a position's (R213, R220)? -/
def State.hdrFits (s : State) (l : Lane) (k : Nat) (h : List Nat) : Bool :=
  h.getD 3 0 == s.get l F.EST_CFG_CELLS_M1 && h.getD (4 + k) 0 == s.prof32 k 0x1FFFC

/-- The row of a position in a unit that fits it. -/
def State.storedRow (s : State) (l : Lane) (kind k p : Nat) : Option (List Nat × List Nat) :=
  match s.estUnit kind with
  | some u => if s.hdrFits l k u.estHdr then (u.estRows.find? (fun x => x.1 == p)).map fun x => (u.estHdr, x.2) else none
  | none => none

/-- Was learned data recorded with another profile or another cell count (R220)? -/
def State.learnedForeign (s : State) (l : Lane) (k : Nat) : Bool :=
  [1, 2].any fun kind => ((s.estUnit kind).map fun u => !s.hdrFits l k u.estHdr).getD false

/-- The None path: SoC_v from the present fine voltage with ρ = 1, σ = SIG_NH (R213). -/
def State.startNone (s : State) (l : Lane) (k : Nat) (n : Snap) (iInst : Rat) (p : Nat) (x : EstPos) : EstPos :=
  let v := n.fineV p
  let soc0 := s.ocvInv k v x.tm
  let sig : Rat := (s.get l F.EST_START_SIG_NH : Rat) / 100
  { x with
    soc := s.ocvInv k (v - s.rs l k soc0 x.tm * iInst) x.tm, var := sig * sig, va := 0, vb := 0, cov := cov0
    unc := true, noHist := true, capPrior := true, stored := none, offDue := none }

/-- The values of new cells (R217). -/
def State.newCells (s : State) (l : Lane) (k : Nat) (x : EstPos) : EstPos :=
  { x with
    cap := s.newCap l k, capPrior := true, rho := 1, vtOff := 0, anchor := none, rej := 0, susp := false, dis := false
    disIn := 0, disOut := 0, stored := none, offDue := none }

/-- The learned values of a position: from the learned record, or those of new cells (R213, R220, R224). -/
def State.learnedOf (s : State) (l : Lane) (k p : Nat) (x : EstPos) : EstPos × Bool :=
  match s.storedRow l 1 k p with
  | some (_, r) =>
    ({ x with
        cap := f32 (r.getD 0 0), rho := f32 (r.getD 1 0), vtOff := toSigned 16 (r.getD 2 0), learned := r.getD 3 0
        rej := r.getD 4 0, susp := bitAt (r.getD 5 0) 0, capPrior := bitAt (r.getD 5 0) 1 }, true)
  | none => (s.newCells l k x, false)

/-- The Stored path of R213, with the off-time correction of R215 still due or its growth for an unknown time. -/
def State.startStored (s : State) (l : Lane) (k : Nat) (h r : List Nat) (x : EstPos) : EstPos :=
  let soc : Rat := (toSigned 16 (r.getD 0 0) : Rat) / 10000 - 1 / 10
  let sig : Rat := (r.getD 1 0 : Rat) / 10000
  let add : Rat := (s.get l F.EST_START_SIG_ADD : Rat) / 1000
  let iw : Rat := (toSigned 32 (h.getD 9 0) : Rat) / 10000
  let w := if x.cap = 0 then 0 else iw * ((s.get l F.EST_NV_STATE_MS : Rat) / 1000 + 2 / 5) / (3600 * x.cap)
  let t : Rat := toSigned 8 (r.getD 4 0)
  let off := s.selfDis k t * s.get l F.EST_START_OFF_MAX_D / 30
  let known := bitAt (h.getD 2 0) 0
  let flags := r.getD 3 0
  { x with
    soc := soc, var := sig * sig + add * add + w * w + (if known then 0 else off * off), va := 0, vb := 0, cov := cov0
    unc := true, noHist := bitAt flags 2, dis := bitAt flags 3
    stored := if bitAt flags 0 then some (r.getD 2 0) else none, offDue := if known then some t else none }

/-- A position at its first epoch since module reset: its state, the path taken (true: Stored), and whether its learned data
was there. Learned data of another profile or cell count makes it start as if relearned (R212, R213, R220). -/
def State.startPos (s : State) (l : Lane) (k : Nat) (n : Snap) (iInst : Rat) (p : Nat) (x : EstPos) : EstPos × Bool × Bool :=
  let (y, known) := s.learnedOf l k p x
  match if s.learnedForeign l k then none else s.storedRow l 0 k p with
  | some (h, r) => ((s.startStored l k h r y).bound, true, known)
  | none => ((s.startNone l k n iInst p (s.newCells l k y)).bound, false, known && !s.learnedForeign l k)

/-- An OCV start (R214, R217). -/
def State.ocvStart (s : State) (k : Nat) (soc : Rat) (x : EstPos) : EstPos :=
  let sig := s.profF k 0x54 / 100
  { x with soc := soc, var := sig * sig, noHist := false, stored := none }

/-- The conditions of R214 hold for a position on its start path; WAIT counts from module reset. -/
def State.ocvDue (s : State) (l : Lane) (k up : Nat) (temp : Rat) (x : EstPos) : Bool :=
  match x.stored, (s.est.get l).storedAt, x.slope0 with
  | some m, some (w, stepped), some slope =>
    let gap := s.clock.count - s.up - w
    decide (up ≤ s.get l F.EST_START_WAIT * 10000000000) && stepped && s.gb F.TIME_STAT_STEPPED &&
      decide (s.relaxNs l k ≤ m * 60000000000 + gap + x.restNs) && x.restAll &&
      decide (|slope| < s.slopeLim l k) && s.trusted k (s.socOcv k up temp x)
  | _, _, _ => false

/-- The off-time correction of R215, at the first epoch with STEPPED set. -/
def State.offCorrect (s : State) (l : Lane) (k : Nat) (x : EstPos) : EstPos :=
  match x.offDue, (s.est.get l).storedAt with
  | some tm, some (w, _) =>
    if s.gb F.TIME_STAT_STEPPED then
      let c := s.selfLoss k tm (((s.clock.count - s.up - w : Nat) : Rat) / 1000000000)
      ({ x with soc := x.soc - c, var := x.var + c / 2 * (c / 2), offDue := none } : EstPos).bound
    else x
  | _, _ => x

/-- The impedance table entries of a position return to unlearned (R184, R217). -/
def Est.unlearn (e : Est) (p : Nat) : Est := { e with table := e.table.filter fun x => x.1 / 128 + 1 != p }

/-- A relearn of a position at its effect epoch (R217). -/
def State.relearnPos (s : State) (l : Lane) (k : Nat) (n : Snap) (iInst temp : Rat) (p : Nat) (x : EstPos) : EstPos :=
  let y := s.newCells l k x
  let up := (s.est.get l).upAt
  let soc := s.socOcv k up temp x
  let y := if s.restsNow l k up x && s.trusted k soc then
      { s.ocvStart k soc { y with unc := false } with capPrior := true }
    else s.startNone l k n iInst p y
  { y with relearnEp := some n.epoch }

/-- The relearns of a lane whose effect epoch has come (R217, R218). -/
def State.applyRelearns (s : State) (l : Lane) (es : List (Nat × Chan)) (n : Snap) : State :=
  let now := (s.est.get l).relearn.filter fun r => decide (r.2.2 ≤ n.epoch)
  let s := s.mapEst l fun e => { e with relearn := e.relearn.filter fun r => !decide (r.2.2 ≤ n.epoch) }
  let s := now.foldl (fun s r =>
    let s := (List.range r.2.1).foldl (fun s i =>
      let p := r.1 + i
      let s := s.mapEst l fun e => { e.unlearn p with dirtyL := true, dirtyT := true }
      match s.estPos l p, es.find? (fun y => y.2.cls == 1 && y.2.src == p) with
      | some x, some (_, c) =>
        s.setEstPos l p (s.relearnPos l (s.profOf l c) n ((n.iInst : Rat) / 10000) ((assocTemp es n p).getD x.tm) p x)
      | _, _ => s) s
    s.evL l 0x0A08 0 (leBytes 2 r.1 ++ leBytes 2 (r.2.1 - 1) ++ leBytes 4 r.2.2)) s
  s.put l F.EST_STAT_RELEARN_PEND (b2n (!(s.est.get l).relearn.isEmpty))

/-! ### Limits, outputs and the output block (R205 to R209, R212, R225) -/

/-- The current limits of a position in A, charge and discharge (R209). -/
def State.limits (s : State) (l : Lane) (k : Nat) (x : EstPos) : Rat × Rat :=
  if !x.tmOk then (0, 0)
  else
    let sg := 2 * rootOf x.var
    let hi := if x.dis then max x.soc (x.socV.getD x.soc) else x.soc
    let lo := if x.dis then min x.soc (x.socV.getD x.soc) else x.soc
    let f : Rat := if x.unc then (s.get l F.EST_CONF_DERATE : Rat) / 100 else 1
    (f * (s.derate k 0 (hi + sg) x.tm * x.cap), f * (s.derate k 1 (lo - sg) x.tm * x.cap))

/-- SoH_C, SoH_R and SoH in % (R206). -/
def State.soh (s : State) (l : Lane) (k : Nat) (x : EstPos) : Rat × Rat × Rat :=
  let c := clampQ 0 120 (if s.newCap l k = 0 then 0 else 100 * x.cap / s.newCap l k)
  let r := clampQ 0 120 (if x.rho = 0 then 0 else 100 / x.rho)
  (c, r, min c r)

/-- SoC as reported, 0 to 1 (R212). -/
def EstPos.shown (x : EstPos) : Rat := clampQ 0 1 x.soc

/-- An unsigned field of `w` bits, rounded and held. -/
def uField (w : Nat) (v : Rat) : Nat := (clampI 0 (2 ^ w - 1) (roundI v)).toNat

/-- The FLAGS of an output row. -/
def EstPos.flags (x : EstPos) (pend : Bool) : Nat :=
  b2n x.unc + 2 * b2n x.dis + 4 * b2n x.susp + 8 * b2n x.noHist + 16 * b2n x.rest + 32 * b2n x.anchor.isSome +
    64 * b2n x.blind + 128 * b2n x.hallSub + 256 * b2n x.sat + 512 * b2n x.tmBack + 1024 * b2n pend + 2048 * b2n x.capPrior

/-- The output row of a position, or of one that is not processed. -/
def State.outRow (s : State) (l : Lane) (p : Nat) (x : Option (Nat × EstPos)) : List Nat :=
  match x with
  | none => leBytes 2 0xFFFF ++ List.replicate 30 0
  | some (k, x) =>
    let h := s.soh l k x
    let rs := x.rho * s.rs l k x.soc x.tm
    let rs25 := x.rho * s.rs l k x.soc 25
    let pend := (s.est.get l).relearn.any fun r => decide (r.1 ≤ p) && decide (p < r.1 + r.2.1)
    leBytes 2 (uField 16 (10000 * x.shown)) ++ leBytes 2 (uField 16 (10000 * rootOf x.var)) ++
      leBytes 4 (uField 32 (1000 * x.cap)) ++ leBytes 4 (uField 32 (100000000 * rs)) ++
      leBytes 4 (uField 32 (100000000 * rs25)) ++ leBytes 2 (uField 16 (100 * h.2.2)) ++ leBytes 2 (uField 16 (100 * h.1)) ++
      leBytes 2 (uField 16 (100 * h.2.1)) ++ leBytes 2 (ofSigned 16 (clampI (-32768) 32767 (roundI (100 * x.tm)))) ++
      leBytes 2 (match x.socV with
        | some v => ofSigned 16 (clampI (-32767) 32767 (roundI (10000 * v)))
        | none => 0x8000) ++ leBytes 2 (x.flags pend) ++ leBytes 4 0

/-- D and Cc of the string in Ah (R225). -/
def stringCaps (xs : List EstPos) : Rat × Rat :=
  match xs with
  | [] => (0, 0)
  | x :: l =>
    (l.foldl (fun m y => min m (y.shown * y.cap)) (x.shown * x.cap),
     l.foldl (fun m y => min m ((1 - y.shown) * y.cap)) ((1 - x.shown) * x.cap))

/-- Equivalent full cycles in 0.001 cycle (R207). -/
def State.efc (s : State) (l : Lane) : Nat :=
  let c := s.newCap l (s.get l F.EST_CFG_PROFILE)
  if c = 0 then 0 else (1000 * (s.est.get l).deliv / (3600 * c)).floor.toNat % 2 ^ 32

/-- The output block of an epoch (R225). -/
def State.outBlock (s : State) (l : Lane) (n : Snap) (ps : List (Nat × Nat × EstPos)) (lim : Rat × Rat) (derated : Bool) :
    List Nat :=
  let (d, cc) := stringCaps (ps.map (·.2.2))
  let head := leBytes 2 0x4553 ++ leBytes 2 1 ++ leBytes 2 (b2n derated + 2 * b2n (bitAt n.flags 3)) ++ leBytes 2 0 ++
    leBytes 8 n.epoch ++ leBytes 8 n.t ++ leBytes 2 (uField 16 (if d + cc = 0 then 0 else 10000 * d / (d + cc))) ++
    leBytes 2 0 ++ leBytes 4 (f32Of d) ++ leBytes 4 (f32Of cc) ++ leBytes 4 (f32Of lim.1) ++ leBytes 4 (f32Of lim.2) ++
    leBytes 4 (s.efc l) ++ leBytes 16 0
  let rows := (List.range 480).flatMap fun i =>
    s.outRow l (i + 1) ((ps.find? (fun x => x.1 == i + 1)).map (·.2))
  let b := head ++ rows
  b ++ leBytes 4 (crc32c b) ++ leBytes 4 (n.epoch % 2 ^ 32)

/-- The EST registers of an epoch (R206, R209, R227). -/
def State.estRegs (s : State) (l : Lane) (ps : List (Nat × Nat × EstPos)) (lim : Rat × Rat) (derated : Bool) : State :=
  let xs := ps.map (·.2.2)
  let (d, cc) := stringCaps xs
  let socs := xs.map EstPos.shown
  let big := socs.foldl max 0
  let small := socs.foldl min (socs.headD 0)
  let sig := xs.foldl (fun m x => max m (rootOf x.var)) 0
  let h := ps.foldl (fun (m : Option (Rat × Nat)) x =>
    let v := (s.soh l x.2.1 x.2.2).2.2
    match m with
    | some (w, _) => if v < w then some (v, x.1) else m
    | none => some (v, x.1)) none
  let count (f : EstPos → Bool) : Nat := (xs.filter f).length
  let s := s.put l F.EST_SOC_SOC_STR (uField 16 (if d + cc = 0 then 0 else 10000 * d / (d + cc)))
  let s := s.put l F.EST_SOC_SIG_MAX (uField 16 (10000 * sig))
  let s := (s.put l F.EST_SOC_MM_MAX (uField 16 (10000 * big))).put l F.EST_SOC_MM_MIN (uField 16 (10000 * small))
  let s := (s.put l F.EST_CAPS_DIS_AH (uField 16 (10 * d))).put l F.EST_CAPS_CHG_AH (uField 16 (10 * cc))
  let s := (s.put l F.EST_LIM_LIM_CHG (uField 16 (10 * lim.1))).put l F.EST_LIM_LIM_DIS (uField 16 (10 * lim.2))
  let s := (s.put l F.EST_SOH_SOH_MIN (uField 16 (100 * (h.getD (0, 0)).1))).put l F.EST_SOH_POS (h.getD (0, 0)).2
  let s := s.put l F.EST_EFC_EFC (s.efc l)
  let s := (s.put l F.EST_CNTS_UNC (count (·.unc))).put l F.EST_CNTS_DIS (count (·.dis))
  let s := s.put l F.EST_CNTS_SUS (count (·.susp))
  let s := (s.put l F.EST_STAT_UNCERTAIN_ANY (b2n (xs.any (·.unc)))).put l F.EST_STAT_DISAGREE_ANY (b2n (xs.any (·.dis)))
  let s := (s.put l F.EST_STAT_SUSPECT_ANY (b2n (xs.any (·.susp)))).put l F.EST_STAT_NO_HISTORY_ANY (b2n (xs.any (·.noHist)))
  let was := s.getB l F.EST_STAT_DERATED
  let s := (s.put l F.EST_STAT_DERATED (b2n derated)).put l F.EST_STAT_RUNNING 1
  if was != derated then s.evL l 0x0A0C 0 [b2n derated] else s

/-- The address of the output buffer of an epoch (R225). -/
def State.outAddr (s : State) (l : Lane) (epoch : Nat) : Nat := s.get l F.EST_OUT_BASE_BASE * 0x8000 + epoch % 2 * 0x4000

/-! ### One epoch (R197) -/

/-- What the snapshot and the previous epoch give the filters (R193, R199, R200). -/
def State.epIn (s : State) (l : Lane) (n : Snap) : EpIn :=
  let e := s.est.get l
  let hallOk := !qHas (n.qs.getD 3 0x80) Q.INVALID
  let broken := bitAt n.flags 2 || bitAt n.flags 7
  let iInst : Rat := if !qHas (n.qs.getD 0 0) Q.INVALID then (n.iInst : Rat) / 10000
    else if hallOk then (n.hall : Rat) / 10000 else 0
  let up := s.up - (s.clock.count - n.t)
  match e.prev with
  | none =>
    { t := n.t, up := up, ran := 0, first := true, dt := 0, dq := some 0, hall := false, lull := false, iInst := iInst
      iAvg := (n.iAvg : Rat) / 10000, iPrev := (n.iAvg : Rat) / 10000, jump := false }
  | some (t, q, i) =>
    let dt : Rat := ((n.t : Rat) - t) / 1000000000
    let dq : Option Rat :=
      if broken then (if hallOk then some ((n.hall : Rat) / 10000 * dt) else none) else some (((n.q - q : Int) : Rat) / 1000000)
    { t := n.t, up := up, ran := up - e.upAt, first := false, dt := dt, dq := dq, hall := broken && hallOk, lull := bitAt n.flags 1, iInst := iInst
      iAvg := (n.iAvg : Rat) / 10000, iPrev := (i : Rat) / 10000
      jump := e.last != some (n.epoch - 1) && !bitAt n.flags 1 }

/-- The events of a position's epoch (R208, R210). -/
def State.posEvents (s : State) (l : Lane) (p : Nat) (x y : EstPos) (d : Rat) : State :=
  let sig := leBytes 2 (uField 16 (10000 * rootOf y.var))
  let dd := leBytes 2 (ofSigned 16 (clampI (-32768) 32767 (roundI (10000 * d))))
  let s := if x.unc != y.unc then s.evL l 0x0A01 0 (leBytes 2 p ++ sig) else s
  let s := if !x.dis && y.dis then s.evL l 0x0A02 0 (leBytes 2 p ++ dd) else s
  if x.dis && !y.dis then s.evL l 0x0A03 0 (leBytes 2 p ++ dd) else s

/-- The positions an epoch processes, by their class 0x01 entries, with their profiles (R197). -/
def State.processed (s : State) (l : Lane) (es : List (Nat × Chan)) : List (Nat × Nat) :=
  es.filterMap fun x =>
    if x.2.cls = 1 ∧ 1 ≤ x.2.src ∧ x.2.src ≤ 480 then some (x.2.src, s.profOf l x.2) else none

/-- The stored impedance table entries of a position on the Stored path, none where no table fits it (R213, R220, R224). -/
def State.storedTable (s : State) (l : Lane) (k p : Nat) : Option (List (Nat × Nat × Nat)) :=
  match s.estUnit 2 with
  | some u =>
    if s.hdrFits l k u.estHdr then
      some ((u.estRows.filter fun x => x.1 / 128 + 1 == p).map fun x => (x.1, x.2.getD 0 0x7FC00000, x.2.getD 1 0x7FC00000))
    else none
  | none => none

/-- A position takes its start path; what counts the Stored and the None paths and the positions without learned data. -/
def State.startOne (s : State) (l : Lane) (es : List (Nat × Chan)) (n : Snap) (iInst : Rat) (x : State × Nat × Nat × Bool)
    (pk : Nat × Nat) : State × Nat × Nat × Bool :=
  let (t, a, b, lost) := x
  let y := t.modelTemp l es n pk.1 n.t EstPos.zero
  let (y, stored, known) := t.startPos l pk.2 n iInst pk.1 { y with lastV := (t.epIn l n).up }
  let rows := if stored then s.storedTable l pk.2 pk.1 else some []
  let t := (t.setEstPos l pk.1 y).mapEst l fun e => { e with table := e.table ++ rows.getD [] }
  (t, a + b2n stored, b + b2n (!stored), lost || !known || rows.isNone)

/-- The first epoch since module reset: every position takes its start path (R213, R220, R224). -/
def State.startAll (s : State) (l : Lane) (es : List (Nat × Chan)) (n : Snap) : State :=
  let iInst := (s.epIn l n).iInst
  let at0 := (s.estUnit 0).map fun u => (u.estHdr.getD 1 0, bitAt (u.estHdr.getD 2 0) 0)
  let s := s.mapEst l fun e => { e with storedAt := at0, table := [] }
  let r := (s.processed l es).foldl (s.startOne l es n iInst) (s, 0, 0, false)
  let (s, a, b, lost) := r
  let s := if lost then s.evL l 0x0A0B else s
  s.evL l 0x0A09 0 (leBytes 2 a ++ leBytes 2 b ++ leBytes 2 0)

/-- A lane's throughput counters as the newest state record holds them (R207). -/
def State.loadCounts (s : State) (l : Lane) : State :=
  match s.estUnit 0 with
  | some u =>
    let s := s.mapEst l fun e => { e with recv := (u.estHdr.getD 10 0 : Nat), deliv := (u.estHdr.getD 11 0 : Nat) }
    (s.put l F.EST_NV_SEQ_SEQ u.seq).put l F.EST_EFC_EFC (s.efc l)
  | none => s

/-- What the estimator shows of its records at module reset: their validity, SEQ of the state record, and the throughput
counters (R207, R224, R227). -/
def State.loadEst (s : State) : State :=
  let found (k : Nat) : Nat := b2n (s.estUnit k).isSome
  let s := ((s.put2 F.EST_NVSTAT_STATE_OK (found 0)).put2 F.EST_NVSTAT_LRN_OK (found 1)).put2 F.EST_NVSTAT_TBL_OK (found 2)
  (s.loadCounts .a).loadCounts .b

/-- One position of an epoch. A position that appears later takes the None path there. `before` are the positions as the epoch
before left them: a change of UNCERTAIN or DISAGREE is one against them (R208, R210). -/
def State.runPos (s : State) (l : Lane) (es : List (Nat × Chan)) (n : Snap) (i : EpIn) (before : List (Nat × EstPos))
    (p k : Nat) : State × Bool :=
  let x := (s.estPos l p).getD { s.startNone l k n i.iInst p (s.newCells l k EstPos.zero) with lastV := i.up }
  let y := s.modelTemp l es n p i.t x
  let y := s.offCorrect l k y
  let (y, d) := s.epochPos l k n i p x.tm y
  let temp := (assocTemp es n p).getD y.tm
  let ocv := s.ocvDue l k i.up temp y
  let y := if ocv then s.ocvStart k (s.socOcv k i.up temp y) y else y
  ((s.setEstPos l p y).posEvents l p (((before.find? fun z => z.1 == p).map (·.2)).getD x) y d, ocv)

/-- The charge received and delivered by the string (R207). -/
def Est.through (e : Est) (dq : Rat) : Est :=
  if 0 < dq then { e with recv := e.recv + dq } else { e with deliv := e.deliv - dq }

/-- STATUS of every processed entry, and the alarms (R92, R93, R183, R188). -/
def State.channels (s : State) (l : Lane) (es : List (Nat × Chan)) (n : Snap) : State :=
  es.foldl (fun s x =>
    let c := x.2
    if c.cls = 4 then
      let a := assocTemp es n c.src
      let vt := s.vtNow l ((s.estPos l c.src).getD EstPos.zero) a n.t
      s.chanEpoch l n.epoch x.1 c (some (c.eng vt.1)) vt.2
    else if c.cls = 7 then
      match (s.est.get l).bins.find? (fun y => y.1 == (c.src - 1) * 16 + c.sub) with
      | some (_, ep, q) => s.chanEpoch l ep x.1 c none q
      | none => s.chanEpoch l n.epoch x.1 c none Q.INVALID
    else if c.cls = 5 ∨ c.cls = 9 then s.chanEpoch l n.epoch x.1 c none (n.qual c)
    else s.chanEpoch l n.epoch x.1 c (some (c.eng (n.raw c.snapOff))) (n.qual c)) s

/-- A lane's EST processes the ready snapshot: invalidations and relearns due, the charge inputs, every position, limits
and output block, alarms, registers, records and the plan of balancing, in that order (R197). -/
def State.estLane (s : State) (l : Lane) (n : Snap) : State :=
  let s := s.applyDeferred l n.epoch
  let (s, seen) := s.scan l
  let es := live seen
  let s := if (s.est.get l).last.isNone then s.startAll l es n else s
  let i := s.epIn l n
  let s := s.bleedEpoch l n es (i.ran / 1000)
  let before := (s.est.get l).pos
  let s := s.applyRelearns l es n
  let r := (s.processed l es).foldl (fun (x : State × Nat) pk =>
    let (s, b) := x.1.runPos l es n i before pk.1 pk.2
    (s, x.2 + b2n b)) (s, 0)
  let s := r.1
  let s := if r.2 ≠ 0 then s.evL l 0x0A09 0 (leBytes 4 0 ++ leBytes 2 r.2) else s
  let assoc := (List.range 480).map fun j => (assocTemp es n (j + 1)).map fun a => roundI (100 * a)
  let s := s.mapEst l fun e =>
    { (if i.lull then e else e.through (i.dq.getD 0)) with
      prev := some (n.t, n.q, n.iAvg), last := some n.epoch, upAt := i.up, assoc := assoc }
  let ps := (s.processed l es).filterMap fun pk => (s.estPos l pk.1).map fun x => (pk.1, pk.2, x)
  let lims := ps.map fun x => s.limits l x.2.1 x.2.2
  let lim : Rat × Rat := match lims with
    | [] => (0, 0)
    | a :: as => as.foldl (fun m y => (min m.1 y.1, min m.2 y.2)) a
  let derated := ps.any fun x => x.2.2.unc && x.2.2.tmOk
  let s := s.estRegs l ps lim derated
  let out := s.outBlock l n ps lim derated
  let s := s.mapEst l fun e => { e with out := out }
  let at0 := s.outAddr l n.epoch
  let s := if inDram at0 15432 then s.dramStore l at0 out else s
  let s := s.channels l es n
  let s := seen.foldl (fun s x => s.badEntry l n.epoch x) s
  let every := s.get l F.EST_REP_EVERY
  let s := if every ≠ 0 ∧ n.epoch % every = 0 then s.emit l 4 0x01 0x02 n.epoch out else s
  let s := s.put l ⟨Pg.EST, 0x028, 31, 0⟩ n.epoch
  s.balPlan l n

/-- The EST of every active lane that has the snapshot processes it once (R156, R197). -/
def estEpoch (s : State) : State :=
  match s.snap with
  | none => s
  | some n =>
    ((lanes.filter fun l => s.active l && !s.skipRun.get l && (s.est.get l).last != some n.epoch).foldl
      (fun s l => s.estLane l n) s).balSend

/-! ### The estimator store (R221 to R224) -/

/-- The header of an estimator record. -/
def State.estHeader (s : State) (l : Lane) : List Nat :=
  let e := s.est.get l
  [s.nv.pwrcyc, s.clock.count, s.g F.TIME_STAT_STEPPED, s.get l F.EST_CFG_CELLS_M1] ++
    (List.range 4).map (fun k => s.prof32 k 0x1FFFC) ++
    [(e.last).getD 0, ofSigned 32 ((e.prev.map (·.2.2)).getD 0), e.recv.floor.toNat, e.deliv.floor.toNat]

/-- The rows of a record of a kind. -/
def State.estRowsNow (s : State) (l : Lane) (kind : Nat) : List (Nat × List Nat) :=
  let e := s.est.get l
  if kind = 0 then e.pos.map fun x =>
    (x.1, [ofSigned 16 (roundI (10000 * x.2.soc) + 1000), uField 16 (10000 * rootOf x.2.var),
      min 0xFFFF (x.2.restNs / 60000000000), b2n x.2.rest + 2 * b2n x.2.unc + 4 * b2n x.2.noHist + 8 * b2n x.2.dis,
      ofSigned 8 (clampI (-128) 127 (roundI x.2.tm))])
  else if kind = 1 then e.pos.map fun x =>
    (x.1, [f32Of x.2.cap, f32Of x.2.rho, ofSigned 16 x.2.vtOff, x.2.learned % 2 ^ 16, x.2.rej,
      b2n x.2.susp + 2 * b2n x.2.capPrior])
  else e.table.map fun x => (x.1, [x.2.1, x.2.2])

/-- A record of a kind is written to the slot that does not hold the newest copy, with the next SEQ (R222). -/
def State.estWrite (s : State) (kind : Nat) : State :=
  match s.auth with
  | none => s
  | some l =>
    if (s.est.get l).last.isNone then s
    else
      let u := s.estUnit kind
      let seq := ((u.map (·.seq)).getD 0) + 1
      let slots := estSlots kind
      let off := match u with
        | some u => if u.off = slots.getD 0 0 then slots.getD 1 0 else slots.getD 0 0
        | none => slots.getD 0 0
      let s := s.nvWrite off seq (.est kind (s.estHeader l) (s.estRowsNow l kind)) (estUnits kind)
      if kind = 0 then s.put2 F.EST_NV_SEQ_SEQ seq
      else if kind = 1 then (s.mapEst .a fun e => { e with dirtyL := false }).mapEst .b fun e => { e with dirtyL := false }
      else (s.mapEst .a fun e => { e with dirtyT := false }).mapEst .b fun e => { e with dirtyT := false }

/-- The state record (R223). -/
def execStateRecordWrite (s : State) : Out := s.fin (s.estWrite 0)

/-- Does the newest record of a kind hold other rows than the lane now (R223)? -/
def State.estChanged (s : State) (l : Lane) (kind : Nat) : Bool :=
  decide ((s.estUnit kind).map (·.estRows) ≠ some (s.estRowsNow l kind))

/-- The learned record, where it has changed, or where a learning, a SUSPECT or a relearn asks for it (R223). -/
def learnedWrite (s : State) : State :=
  match s.auth with
  | some l => if (s.est.get l).dirtyL || s.estChanged l 1 then s.estWrite 1 else s
  | none => s

def execLearnedRecordWrite (s : State) : Out := s.fin (learnedWrite s)

/-- The impedance table, where it has changed, or after a relearn (R223). -/
def tableWrite (s : State) : State :=
  match s.auth with
  | some l => if (s.est.get l).dirtyT || s.estChanged l 2 then s.estWrite 2 else s
  | none => s

def execImpedanceTableWrite (s : State) : Out := s.fin (tableWrite s)

/-! ### The EST page (R207, R218) -/

/-- A relearn is scheduled in both lanes (R218). -/
def State.relearnAt (s : State) (first count epoch : Nat) : State :=
  let add (e : Est) : Est := { e with relearn := e.relearn ++ [(first, count, epoch)] }
  let s := { s with est := ⟨add s.est.a, add s.est.b⟩ }
  (s.put2 F.EST_RELEARN_EP_EPOCH epoch).put2 F.EST_STAT_RELEARN_PEND 1

/-- EST_RELEARN (R218). -/
def estRelearn (s : State) (r : Req) (v : Word) : Nat × State :=
  let first := getBits v 8 0
  let m1 := getBits v 24 16
  s.access r Pg.EST 0x088
    [(.auth, !s.isAuth r.lane), (.busy, !(s.est.get r.lane).relearn.isEmpty),
     (.value, first == 0 || decide (480 < first + m1))] fun s => s.relearnAt first (m1 + 1) (s.snapEpoch + 2)

def execEstRelearn (r : Req) (v : Word) (s : State) : Out := s.answered (estRelearn s r v)

/-- EST_EFC_CLR.CLR: both throughput counters return to 0 in both lanes (R207). -/
def estEfcClr (s : State) (r : Req) : Nat × State :=
  s.access r Pg.EST 0x07C [(.presence, s.noPresence r)] fun s =>
    let s := (s.mapEst .a fun e => { e with recv := 0, deliv := 0 }).mapEst .b fun e => { e with recv := 0, deliv := 0 }
    (s.put2 F.EST_EFC_EFC 0).ev 0x0A0D

def execEstEfcClr (r : Req) (s : State) : Out := s.answered (estEfcClr s r)

end Sys2Proof.Machine
end

