-- ==== Sys2Proof/Machine/EisResult.lean ====
section
/-! DEFINITION. The results of an impedance window: quality, result blocks, the impedance table and virtual temperature
(R177, R182 to R187). -/

namespace Sys2Proof.Machine

open Sys2Proof

/-- ZQ bits (R182). -/
def Zq.INVALID : Nat := 0x80
def Zq.TABLE : Nat := 0x40
def Zq.DEPART : Nat := 0x20
def Zq.NO_DATA : Nat := 0x10
def Zq.RANGE : Nat := 0x08
def Zq.GATE_OVF : Nat := 0x04
def Zq.LOW_FILL : Nat := 0x02
def Zq.LOW_EXC : Nat := 0x01

/-- The data of a reply read from a monitor, after WIN_ID and SEL; none where it was not read or holds no data. -/
def readOf (reads : List (Nat × Nat × List Nat)) (k sel : Nat) : Option (List Nat) :=
  match reads.find? (fun x => x.1 == k && x.2.1 == sel) with
  | some (_, _, w) => if w.getD 1 0xFF = sel then some (w.drop 2) else none
  | none => none

/-- Was a monitor read completely, with the module's count of ACCEPTs (R177, R181)? -/
def monRead (w : EisWin) (reads : List (Nat × Nat × List Nat)) (k : Nat) : Bool :=
  (readSels w.fmask).all (fun g => (readOf reads k g).isSome) &&
    ((readOf reads k 4).map fun b => leAt b 0 4 == w.accepted.length).getD false

/-- What a position has of a window: its gate record, its accepted epochs, and whether its monitor was read completely with the
right ACCEPT count. -/
structure PosWin where
  p : Nat
  ng : Nat
  ovf : Bool
  got : Bool
  accepted : List EisEp
  ranged : Bool
deriving DecidableEq, Repr

/-- The gate record of a monitor read for a position (R176, R177). -/
def posWin (w : EisWin) (reads : List (Nat × Nat × List Nat)) (m : MonEis) (k j : Nat) : PosWin :=
  match readOf reads k 4 with
  | some b =>
    let rec1 := gateRec b j
    { p := 12 * (k - 1) + j + 1, ng := rec1.headD 0, ovf := bitAt (leAt b 4 2) j, got := monRead w reads k
      accepted := w.accepted.filter fun a => !locallyGated (rangesOf rec1) a.idx
      ranged := ((m.res.map fun r => r.ranged).getD []).getD j false }
  | none => ⟨12 * (k - 1) + j + 1, 0, false, false, [], false⟩

/-- T_MEAN of a position in 0.01 °C: the mean of its associated temperature over its accepted epochs; none where no
accepted epoch has one (R182). -/
def PosWin.tMean (x : PosWin) : Option Int :=
  (mean (x.accepted.filterMap fun a => (a.temps.getD (x.p - 1) none).map fun (t : Int) => (t : Rat))).map roundI

/-- The current bin of an entry over a set of epochs in A: 2/N × the sum of their partials in the lane's DRAM, over N samples
(R171, R179). -/
def State.currentBin (s : State) (l : Lane) (w : EisWin) (eps : List EisEp) (i : Nat) : Rat × Rat :=
  let part (e : EisEp) (o : Nat) : Rat := f32 (memWord (s.dram.get l) (s.partAddr l w e.idx + 8 * i + o))
  let n : Rat := eps.length * s.eisPerEpoch
  if n = 0 then (0, 0) else (2 * (eps.map fun e => part e 0).sum / n, 2 * (eps.map fun e => part e 4).sum / n)

/-- The module-wide rms current of an entry in A, as binary32 (R182). -/
def State.currentRms (s : State) (l : Lane) (w : EisWin) (i : Nat) : Nat :=
  f32Of (rootOf (norm2 (s.currentBin l w w.accepted i) / 2))

/-- The quality of a bin (R177) and its impedance. The bins are taken as corrected for the calibrated responses
(notes/assumptions/12). -/
def State.binOf (s : State) (l : Lane) (w : EisWin) (reads : List (Nat × Nat × List Nat)) (x : PosWin) (k j i : Nat) :
    Nat × (Rat × Rat) :=
  let noData := !bitAt w.fmask i || !x.got
  let b := (readOf reads k (i / 4)).getD []
  let at0 := 8 * (4 * j + i % 4)
  let v : Rat × Rat := (f32 (leAt b at0 4), f32 (leAt b (at0 + 4) 4))
  let cur := s.currentBin l w x.accepted i
  let exc : Rat := (s.get l F.EIS_QUAL_MIN_EXC : Rat) / 1000
  let lowExc := decide (norm2 cur / 2 < exc * exc)
  let lowFill := decide (x.accepted.length * 100 < s.get l F.EIS_QUAL_MIN_FILL * w.nep)
  let fail := noData || lowExc || lowFill || x.ovf
  let q := qIf fail Zq.INVALID + qIf noData Zq.NO_DATA + qIf x.ranged Zq.RANGE + qIf x.ovf Zq.GATE_OVF +
    qIf lowFill Zq.LOW_FILL + qIf lowExc Zq.LOW_EXC
  (q, if fail then (0, 0) else cdiv v cur)

/-- The table entry of a key, written. -/
def Est.setEntry (e : Est) (key re im : Nat) : Est := { e with table := sins key (re, im) (sdel key e.table) }

/-- The bins of a position against the table: their quality with TABLE or DEPART, the table after them, and how many
depart where the position departs (R184). -/
def tableStep (e : Est) (depart shift : Nat) (write : Bool) (p b : Nat) (bins : List (Nat × (Rat × Rat))) :
    List (Nat × (Rat × Rat)) × Est × Option Nat :=
  let key (i : Nat) := 128 * (p - 1) + 16 * b + i
  let valid := (List.range 16).filter fun i => !bitAt (bins.getD i (0x80, (0, 0))).1 7
  let known := valid.filter fun i => (e.entry (key i)).isSome
  let far := known.filter fun i =>
    match e.entry (key i) with
    | some (re, im) => binDeparts depart (bins.getD i (0, (0, 0))).2 (f32 re, f32 im)
    | none => false
  if known.length < 2 * far.length then
    (bins.zipIdx.map fun x => if valid.contains x.2 then (x.1.1 + Zq.DEPART, x.1.2) else x.1, e, some far.length)
  else if !write then (bins, e, none)
  else
    let e := valid.foldl (fun (e : Est) i =>
      let z := (bins.getD i (0, (0, 0))).2
      let z := match e.entry (key i) with
        | some (re, im) => blend shift z (f32 re, f32 im)
        | none => z
      e.setEntry (key i) (f32Of z.1) (f32Of z.2)) e
    (bins.zipIdx.map fun x => if valid.contains x.2 then (x.1.1 + Zq.TABLE, x.1.2) else x.1, e, none)

/-- Virtual temperature from a result (R187): the offset, VT_W in 0.01 °C, MISMATCH, and r − o for the event. -/
def vtStep (rest learn : Bool) (o tMean limit rise : Int) (tRaw : Rat) : Int × Int × Bool × Int :=
  let raw := roundI tRaw
  let r := raw - tMean
  let d := r - o
  if rest then
    if d.natAbs ≤ limit.natAbs then
      let o' := if learn then clampI (-300) 300 (roundI ((o : Rat) + (d : Rat) / 8)) else o
      (o', raw - o', false, d)
    else (o, raw - o, true, d)
  else
    let v := raw - o
    (o, v, decide (v < tMean - limit) || decide (tMean + rise < v), d)

/-- What a position adds to a result block. -/
structure PosOut where
  head : List Nat
  bins : List (Nat × (Rat × Rat))
  vtw : Option Int
deriving DecidableEq, Repr

/-- The validation limit of a position in 0.01 K: EIS_VT.LIMIT, or its entry's override (R186). -/
def State.vtLimit (s : State) (l : Lane) (es : List (Nat × Chan)) (p : Nat) : Int :=
  match vtEntry es p with
  | some (_, c) => if f32 c.p1 = 0 then 10 * s.get l F.EIS_VT_LIMIT else roundI (100 * f32 c.p1)
  | none => 10 * s.get l F.EIS_VT_LIMIT

/-- A position of a result in a lane: its part of the block; table, offset and virtual temperature move. -/
def State.posResult (s : State) (l : Lane) (es : List (Nat × Chan)) (w : EisWin) (endEp : Nat)
    (reads : List (Nat × Nat × List Nat)) (iMean : Int) (k j : Nat) : State × PosOut :=
  let x := posWin w reads (s.mon k).eis k j
  let y := (s.estPos l x.p).getD EstPos.zero
  let t := x.tMean.getD (toSigned 16 (s.draw x.p))
  let b := s.tbin w.profile t
  let bins := (List.range 16).map fun i => s.binOf l w reads x k j i
  let fresh := match y.relearnEp with
    | some e => decide (w.startEp ≤ e)
    | none => false
  let calm := w.dir == 0 || decide (iMean.natAbs ≤ 10000 * s.get l F.EIS_TBL_CFG_I_TBL)
  let (bins, e, far) := tableStep (s.est.get l) (s.get l F.EIS_TBL_CFG_DEPART) (s.get l F.EIS_TBL_CFG_SHIFT)
    (calm && !fresh) x.p b bins
  let wrote := bins.any fun z => bitAt z.1 6
  let s := s.mapEst l fun _ => { e with dirtyT := e.dirtyT || wrote }
  let s := match far with
    | some n => (s.evL l 0x0904 k (leBytes 2 x.p ++ [n])).suspect l x.p 1
    | none => s
  let vb := bins.getD (s.profByte w.profile 0x42 % 16) (0x80, (0, 0))
  let raw := if bitAt vb.1 7 then none else interp (phaseDeg vb.2.1 vb.2.2) (s.vtCurve w.profile)
  let head := leBytes 2 (ofSigned 16 t) ++ [b, if x.ovf then 0xFF else x.ng] ++ leBytes 4 x.accepted.length
  match raw, s.estPos l x.p with
  | some tr, some z =>
    let (o, v, mis, d) := vtStep (w.dir == 0) (!fresh) z.vtOff t (s.vtLimit l es x.p) (100 * s.get l F.EIS_VT_MAXRISE) tr
    let s := s.setEstPos l x.p { z with
      vtOff := o, vt := some ⟨v - t, mis, s.clock.t0 + endEp * s.clock.p⟩ }
    let s := if o ≠ z.vtOff then s.mapEst l fun e => { e with dirtyL := true } else s
    let s := if mis then s.evL l 0x0905 k (leBytes 2 x.p ++ leBytes 2 (ofSigned 16 d)) else s
    (s, ⟨head, bins, some v⟩)
  | _, _ => (s, ⟨head, bins, none⟩)

/-- The result block of a monitor (R182). -/
def resultBlock (w : EisWin) (endEp k : Nat) (iMean : Int) (iRms : List Nat) (ps : List PosOut) : List Nat :=
  let tbl := ps.any fun x => x.bins.any fun z => bitAt z.1 6
  let flags := b2n w.passive + 2 * b2n w.isLocal + 4 * b2n tbl
  let rms (i : Nat) := if bitAt w.fmask i then iRms.getD i 0 else 0
  let b := leBytes 2 0x4549 ++ leBytes 2 1 ++ leBytes 2 flags ++ [k, w.profile] ++ leBytes 4 w.number ++ leBytes 2 w.fmask ++
    leBytes 2 w.tb ++ leBytes 8 w.startEp ++ leBytes 8 endEp ++ leBytes 4 w.nep ++ leBytes 4 w.accepted.length ++
    leBytes 4 (ofSigned 32 iMean) ++ [w.dir] ++ List.replicate 19 0 ++
    ((List.range 16).flatMap fun i => leBytes 4 (rms i)) ++ ps.flatMap (·.head) ++
    (ps.flatMap fun x => x.bins.flatMap fun z => leBytes 4 (f32Of z.2.1) ++ leBytes 4 (f32Of z.2.2)) ++
    (ps.flatMap fun x => x.bins.map (·.1)) ++
    (ps.flatMap fun x => leBytes 2 (match x.vtw with
      | some v => ofSigned 16 (clampI (-32767) 32767 v)
      | none => 0x8000)) ++ leBytes 4 0
  b ++ leBytes 4 (crc32c b)

/-- STATUS of the impedance bins of a result, with the chain conditions of the closing epoch, kept for every epoch and written
now (R183). -/
def State.binStatus (s : State) (l : Lane) (endEp p : Nat) (bins : List (Nat × (Rat × Rat))) : State :=
  let chain := (s.eis.get l).endQual.getD (p - 1) 0
  let q (z : Nat) := Nat.lor (qIf (bitAt z 7) Q.INVALID + qIf (bitAt z 3) Q.RANGE + qIf (bitAt z 5) Q.MISMATCH) chain
  let ks := (List.range 16).map fun i => ((p - 1) * 16 + i, endEp, q (bins.getD i (0x80, (0, 0))).1)
  s.mapEst l fun e => { e with bins := ks ++ e.bins.filter fun x => x.1 / 16 + 1 != p }

/-- STATUS of every class 0x07 entry of a lane's table. -/
def State.writeBins (s : State) (l : Lane) (es : List (Nat × Chan)) : State :=
  es.foldl (fun s x =>
    match (s.est.get l).bins.find? (fun y => y.1 == (x.2.src - 1) * 16 + x.2.sub) with
    | some (_, ep, q) =>
      if x.2.cls = 7 then
        s.dramStore l (s.entryAddr l x.1 + 0x38)
          (leBytes 4 (statusWord ep q false (sget (fun _ => ChanRun.zero) (s.cdt.get l).runs x.1)))
      else s
    | none => s) s

/-- The chain conditions of the closing epoch of a window in readout, from its snapshot (R183). -/
def State.eisClosing (s : State) (n : Snap) : State :=
  s.eisBoth fun e =>
    if e.out.isSome && e.endEp == n.epoch then
      { e with endQual := (List.range 480).map fun j => chainQual (n.qf (j + 1)) }
    else e

/-- A monitor's result in a lane: block, record, STATUS. -/
def State.monResult (s : State) (l : Lane) (es : List (Nat × Chan)) (w : EisWin) (endEp : Nat)
    (reads : List (Nat × Nat × List Nat)) (iRms : List Nat) (iMean : Int) (k : Nat) : State :=
  let r := (List.range 12).foldl (fun (x : State × List PosOut) j =>
    let (s, o) := x.1.posResult l es w endEp reads iMean k j
    (s.binStatus l endEp (12 * (k - 1) + j + 1) o.bins, x.2 ++ [o])) (s, [])
  let b := resultBlock w endEp k iMean iRms r.2
  let at0 := r.1.get l F.EIS_BASE_BASE * 0x1000 + (k - 1) * 0x800
  let s := if inDram at0 0x7C0 then r.1.dramStore l at0 b else r.1
  s.emit l 6 0x03 0x04 endEp b

/-- A lane's results of a window: every monitor's block and record, then STATUS of its impedance bins. -/
def State.laneResults (s : State) (w : EisWin) (iMean : Int) (l : Lane) : State :=
  let e := s.eisNow
  let (s, es) := s.useTable l
  let iRms := (List.range 16).map (s.currentRms l w)
  (s.ids.foldl (fun s k => s.monResult l es w e.endEp e.reads iRms iMean k) s).writeBins l es

/-- The results of the window in readout are complete in both lanes (R181, R182). -/
def eisResults (s : State) : State :=
  let e := s.eisNow
  match e.out with
  | none => s
  | some w =>
    let n := w.accepted.length
    let iMean : Int := if n = 0 then 0 else roundI (((w.accepted.map EisEp.iAvg).sum : Rat) / n)
    let missing := s.ids.filter fun k => !monRead w e.reads k
    let s := (lanes.filter s.active).foldl (fun s l => s.laneResults w iMean l) s
    let s := missing.foldl (fun s k => s.ev 0x0906 k [k]) s.drawn
    let s := s.eisBoth fun e => { e with out := none, reads := [] }
    let s := (s.put2 F.EIS_LAST_WINDOW w.number).put2 F.EIS_STAT_READOUT 0
    let s := (s.put64 .a F.EIS_LAST_EP_EP_LO e.endEp).put64 .b F.EIS_LAST_EP_EP_LO e.endEp
    let s := (s.bumpSat .a F.EIS_CNT_DONE).bumpSat .b F.EIS_CNT_DONE
    s.ev 0x0902 0 (leBytes 4 w.number ++ leBytes 4 n)

def execEisResultsComplete (s : State) : Out := s.fin (eisResults s)

end Sys2Proof.Machine
end

