-- ==== Sys2Proof/Machine/Prot.lean ====
section
/-! DEFINITION. The protection unit and the Squall path (R241 to R260), and the changes of the module state that many
families share (R100, R101). -/

namespace Sys2Proof.Machine

open Sys2Proof

/-! ### The module state (R100, R101, R189, R223, R237) -/

/-- A change of SYS_STATE.STATE: event 0x0001; leaving OPERATE aborts a running window; CONFIG stops every bleed; entry to
CONFIG or LULL writes the state record. -/
def State.setMode (s : State) (m : Nat) : State :=
  let old := s.mode
  if old = m then s
  else
    let s := (s.p F.SYS_STATE_STATE m).ev 0x0001 0 [old, m]
    let s := if old = St.OPERATE then s.eisAbort 5 else s
    let s := if m = St.CONFIG then s.bleedStop 0 0xFFF 5 else s
    if m = St.CONFIG ∨ m = St.LULL then s.estWrite 0 else s

/-! ### TRIP pairs (R254) -/

/-- TRIP pair states: 0 PASSIVE, 1 NORMAL, 2 TRIP. -/
def State.pairCmd (s : State) : Nat :=
  if s.prot.exhausted then 0
  else if s.gb F.PROT_SQ_STAT_LATCH_POS || s.gb F.PROT_SQ_STAT_LATCH_NEG || s.gb F.SAFE_STAT_BRK_CMD ||
      s.prot.testing.isSome || s.safe.shutTrip then 2
  else if s.gb F.PROT_SQ_STAT_LOADED then 1 else 0

/-- The read-back of both pairs follows each change of their command. -/
def State.pairs (s : State) : State :=
  let c := s.pairCmd
  if c = s.prot.cmd then s
  else
    let s := { s with prot := { s.prot with cmd := c } }
    (s.p F.PROT_SQ_STAT_RB_A (b2n (c == 2))).p F.PROT_SQ_STAT_RB_B (b2n (c == 2))

/-! ### Clamps (R242, R245, R246, R251) -/

/-- A channel of a limit. -/
def ProtCh.zero : ProtCh := ⟨0, 0, 0, false, false, true⟩
def Prot.chan (p : Prot) (k c : Nat) : ProtCh := sget (fun _ => ProtCh.zero) p.ch (512 * k + c)
def Prot.setChan (p : Prot) (k c : Nat) (x : ProtCh) : Prot :=
  { p with ch := sput (fun _ => ProtCh.zero) p.ch (512 * k + c) x }

/-- Has a limit a WARN-active channel? -/
def Prot.warn (p : Prot) (k : Nat) : Bool := p.ch.any fun x => x.1 / 512 == k && x.2.warn

/-- A LIMIT effect is active: WARN with WLIM, or a latched trip (R245). -/
def State.limitOn (s : State) (k : Nat) : Bool :=
  s.gb (F.PROT_Lk_CFG_TACT k) && ((s.gb (F.PROT_Lk_CFG_WLIM k) && s.prot.warn k) || s.gb (F.PROT_Lk_ST_TRIPPED k))

/-- The smaller of two clamps, `none` standing for none. -/
def minClamp (a b : Option Nat) : Option Nat :=
  match a, b with
  | some x, some y => some (min x y)
  | none, b => b
  | a, none => a

/-- What a limit's effect clamps, charge and discharge, in 0.1 A (R242). -/
def State.limitClamp (s : State) (k : Nat) : Option Nat × Option Nat :=
  if k = 0 ∨ k = 2 ∨ k = 8 then (some 0, none)
  else if k = 1 ∨ k = 3 then (none, some 0)
  else if k = 4 then (some (s.g (F.PROT_Lk_THR_WARN k)), none)
  else if k = 5 then (none, some (s.g (F.PROT_Lk_THR_WARN k)))
  else if k = 6 ∨ k = 7 ∨ k = 9 then (some 0, some 0)
  else (none, none)

/-- The plausibility clamp is in force (R251). -/
def State.plausClamp (s : State) : Bool := s.gb F.MEAS_STAT_PLAUS_FAIL || s.gb F.PROT_TRIP_PLAUS

/-- The present clamps of the protection unit in 0.1 A (R246). -/
def State.protClamps (s : State) : Option Nat × Option Nat :=
  let ls := (List.range 11).filterMap fun k => if s.limitOn k then some (s.limitClamp k) else none
  let ls := if s.plausClamp then (some (10 * s.g F.PROT_PLAUS_PLIM), some (10 * s.g F.PROT_PLAUS_PLIM)) :: ls else ls
  let ls := if s.prot.blind.isEmpty then ls else (some 0, some 0) :: ls
  ls.foldl (fun m x => (minClamp m.1 x.1, minClamp m.2 x.2)) (none, none)

/-- The breaker command of the safety channel: an active function with its BRK bit, or a latched trip with TACT 3 (R245,
R254, R269). -/
def State.brkCmd (s : State) : Bool :=
  let sf := s.g F.SAFE_STATE_SF
  (bitAt sf 0 && s.gb F.SAFE_SF_CFG_BRK1) || (bitAt sf 1 && s.gb F.SAFE_SF_CFG_BRK2) ||
    (bitAt sf 2 && s.gb F.SAFE_SF_CFG_BRK3) || (bitAt sf 4 && s.gb F.SAFE_SF_CFG_BRK5) ||
    ((List.range 11).any fun k => s.gb (F.PROT_Lk_ST_TRIPPED k) && s.g (F.PROT_Lk_CFG_TACT k) == 3) ||
    (s.gb F.PROT_TRIP_PLAUS && s.g F.PROT_PLAUS_TACT == 3)

/-- Status bits, clamps and TRIP pairs of the protection unit follow its state; a change of the clamps is event 0x0C05. -/
def State.protSettle (s : State) : State :=
  let c := s.protClamps
  let lim := ((List.range 11).map fun k => if s.gb (F.PROT_Lk_ST_TRIPPED k) then 2 ^ k else 0).sum
  let s := (List.range 11).foldl (fun s k =>
    (s.p (F.PROT_Lk_ST_LIMIT k) (b2n (s.limitOn k))).p (F.PROT_Lk_ST_WARN k) (b2n (s.prot.warn k))) s
  let s := s.p F.PROT_TRIP_LIM lim
  let s := s.p F.PROT_STAT_TRIP_LATCHED (b2n (lim != 0 || s.gb F.PROT_TRIP_PLAUS || s.gb F.PROT_TRIP_RB))
  let s := (s.p F.PROT_STAT_CLAMP_CHG (b2n c.1.isSome)).p F.PROT_STAT_CLAMP_DIS (b2n c.2.isSome)
  let s := s.p F.PROT_STAT_SQUALL (b2n (s.gb F.PROT_SQ_STAT_LATCH_POS || s.gb F.PROT_SQ_STAT_LATCH_NEG))
  let pl := b2n s.plausClamp
  let off := s.g F.MEAS_STAT_HALL_FAULT
  let lim0 := s.g F.PROT_STAT_PLAUS_LIM
  let off0 := s.g F.PROT_STAT_PLAUS_OFF
  let s := ((s.p F.PROT_STAT_PLAUS_LIM pl).evIf (lim0 != pl) 0x0C09 0 [1, pl, 0, 0]).p F.PROT_STAT_PLAUS_OFF off
  let s := s.evIf (off0 != off) 0x0C09 0 [2, off, 0, 0]
  let brk := b2n s.brkCmd
  let s := ((s.p F.PROT_STAT_BRK_CMD brk).p F.SAFE_STAT_BRK_CMD brk).pairs
  let old := (s.rd .a Pg.PROT 0x05C).toNat
  let s := (s.p F.PROT_CLAMP_CHG ((c.1.map (· / 10)).getD 0xFFFF)).p F.PROT_CLAMP_DIS ((c.2.map (· / 10)).getD 0xFFFF)
  let new := (s.rd .a Pg.PROT 0x05C).toNat
  s.evIf (old != new) 0x0C05 0 (leBytes 4 new)

/-! ### Evaluations (R242 to R244) -/

/-- Limits that are beyond when below. -/
def isLow (k : Nat) : Bool := k == 1 || k == 3 || k == 7 || k == 8

/-- Limits whose thresholds are signed (R242). -/
def isSignedLim (k : Nat) : Bool := k == 6 || k == 7 || k == 8 || k == 9

/-- A threshold of a limit. -/
def State.warnThr (s : State) (k : Nat) : Int :=
  if isSignedLim k then toSigned 16 (s.g (F.PROT_Lk_THR_WARN k)) else s.g (F.PROT_Lk_THR_WARN k)
def State.tripThr (s : State) (k : Nat) : Int :=
  if isSignedLim k then toSigned 16 (s.g (F.PROT_Lk_THR_TRIP k)) else s.g (F.PROT_Lk_THR_TRIP k)

/-- Is a value beyond a threshold? -/
def beyond (low : Bool) (thr v : Rat) : Bool := if low then decide (v < thr) else decide (thr < v)

/-- An evaluation of a channel: `force` forces it beyond both thresholds (R243). -/
def ProtCh.eval (c : ProtCh) (warn trip inside : Bool) (setN clrN : Nat) : ProtCh :=
  let warnN := if warn || trip then c.warnN + 1 else 0
  let tripN := if trip then c.tripN + 1 else 0
  let clr := if inside then c.clrN + 1 else 0
  { warnN := warnN, tripN := tripN, clrN := clr
    warn := (c.warn && !decide (clrN ≤ clr)) || decide (setN ≤ warnN), tripped := c.tripped || decide (setN ≤ tripN)
    inside := inside }

/-- A value as PROT_Lk_ST.WORST and an event show it, in threshold units. -/
def asUnits (v : Rat) : Nat := ofSigned 16 (clampI (-32768) 65535 (roundI v))

/-- The most extreme value of a limit since SRESET. -/
def State.worst (s : State) (k c : Nat) (v : Rat) : State :=
  let w := s.g (F.PROT_Lk_ST_WORST k)
  let old : Int := if isSignedLim k then toSigned 16 w else w
  let more := if isLow k then decide (v < old) else decide ((old : Rat) < v)
  if more || !s.prot.worst.contains k then
    let s := { s with prot := { s.prot with worst := k :: s.prot.worst.filter (· != k) } }
    (s.p (F.PROT_Lk_ST_WORST k) (asUnits v)).p (F.PROT_Lk_ST_WORST_CH k) c
  else s

/-- One evaluation of channel `c` of limit `k` (R243): WARN and trip with their events. -/
def State.evaluate (s : State) (k c : Nat) (v : Rat) (force : Bool) : State :=
  if s.g (F.PROT_Lk_CFG_TACT k) = 0 then s
  else
    let low := isLow k
    let hys : Rat := s.g (F.PROT_Lk_HYS_HYS k)
    let wt : Rat := s.warnThr k
    let x := s.prot.chan k c
    let inside := !force && !beyond low (if low then wt + hys else wt - hys) v
    let y := x.eval (force || beyond low wt v) (force || beyond low (s.tripThr k) v) inside (s.g (F.PROT_Lk_CFG_SET_N k))
      (s.g (F.PROT_Lk_CFG_CLR_N k))
    let s := ({ s with prot := s.prot.setChan k c y } : State).worst k c v
    let s := s.evIf (!x.warn && y.warn) 0x0C03 0 (k :: leBytes 2 c ++ leBytes 2 (asUnits v))
    let s := s.evIf (x.warn && !y.warn) 0x0C04 0 (k :: leBytes 2 c)
    if !x.tripped && y.tripped then
      let s := (s.p (F.PROT_Lk_ST_TRIPPED k) 1).bumpSat .a F.PROT_CNT_TRIPS
      s.ev 0x0C06 0 (k :: leBytes 2 c ++ leBytes 4 s.snapEpoch)
    else s

/-- CELL_HI and CELL_LO of a position, on the more extreme of fine and coarse where they conflict (R244). -/
def State.evalCell (s : State) (n : Snap) (p : Nat) : State :=
  let q := n.qf p
  if qHas q Q.INVALID then s
  else
    let f := 10000 * n.fineV p
    let c := 10000 * n.coarseV p
    let mis := qHas q Q.MISMATCH
    (s.evaluate 0 p (if mis then max f c else f) false).evaluate 1 p (if mis then min f c else f) false

/-- STR_HI and STR_LO (R244). -/
def State.evalString (s : State) (n : Snap) : State :=
  let q := n.qs.getD 2 0x80
  if qHas q Q.INVALID then s
  else
    let v : Rat := (n.v : Rat) / 100
    let sum : Rat := (((n.mons.take s.monCount).map (·.stack)).sum : Rat) / 5
    let mis := qHas q Q.MISMATCH
    (s.evaluate 2 0 (if mis then max v sum else v) false).evaluate 3 0 (if mis then min v sum else v) false

/-- Limits 6 to 8 of an NTC input: `c` counts the inputs of the string from 1. -/
def State.evalNtc (s : State) (n : Snap) (k j : Nat) : State :=
  if qHas (n.qt k j) Q.INVALID then s
  else
    let v := 10 * n.ntcC k j
    let c := 8 * (k - 1) + j
    ((s.evaluate 6 c v false).evaluate 7 c v false).evaluate 8 c v false

/-- T_SHUNT. -/
def State.evalShunt (s : State) (n : Snap) : State :=
  if qHas (n.qs.getD 4 0x80) Q.INVALID then s else s.evaluate 9 0 ((n.temps.getD 0 0 : Rat) / 10) false

/-- CELL_SPREAD force the valid fine voltages. -/
def State.evalSpread (s : State) (n : Snap) (ps : List Nat) : State :=
  let vs := (ps.filter fun p => !qHas (n.qf p) Q.INVALID).map fun p => 10000 * n.fineV p
  match vs with
  | [] => s
  | v :: l => s.evaluate 10 0 (l.foldl max v - l.foldl min v) false

/-- A blind monitor shows a valid NTC value again (R251). -/
def State.unblind (s : State) (n : Snap) : State :=
  (s.prot.blind.filter fun k => !(n.ntcs k).isEmpty).foldl (fun s k =>
    let s := { s with prot := { s.prot with blind := s.prot.blind.filter (· != k) } }
    s.ev 0x0C09 0 ([3, 0] ++ leBytes 2 k)) s

/-- The time base of the blind inputs: each monitor's latest valid NTC value, and the first snapshot since the reset or wake
(R251). -/
def State.seeNtcs (s : State) (n : Snap) : State :=
  let up := s.up - (s.clock.count - n.t)
  let at1 (k : Nat) (m : List (Nat × Nat)) : List (Nat × Nat) :=
    if (n.ntcs k).isEmpty then m else (k, up) :: m.filter fun x => x.1 != k
  { s with prot := { s.prot with firstAt := some (s.prot.firstAt.getD up), ntcAt := s.ids.foldl (fun m k => at1 k m) s.prot.ntcAt } }

/-- The protection unit evaluates every per-epoch limit on a new snapshot (R243, R248). -/
def State.protEpoch (s : State) (n : Snap) : State :=
  let s := s.seeNtcs n
  let ps := (List.range (12 * s.monCount)).map (· + 1)
  let s := ps.foldl (fun s p => s.evalCell n p) s
  let s := s.evalString n
  let s := s.ids.foldl (fun s k => (List.range 8).foldl (fun s j => s.evalNtc n k (j + 1)) s) s
  ((((s.evalShunt n).evalSpread n ps).unblind n).p ⟨Pg.PROT, 0x028, 31, 0⟩ n.epoch).protSettle

/-- The current limits on a 10 kHz shunt result in 100 µA; a result that carries RANGE counts as beyond (R243, R248). -/
def State.protCurrent (s : State) (i : Int) (q : Nat) : State :=
  if qHas q Q.INVALID && !qHas q Q.RANGE then s
  else
    let force := qHas q Q.RANGE
    let a : Rat := (i : Rat) / 1000
    let s := s.evaluate 4 0 (if 0 ≤ a then a else 0) (force && decide (0 ≤ i))
    (s.evaluate 5 0 (if a ≤ 0 then -a else 0) (force && decide (i < 0))).protSettle

/-! ### Other trips (R251) -/

/-- PLAUS_FAIL has lasted T_S: a latched trip with cause PLAUS, where it still holds and T_S is not 0. -/
def plausTrip (s : State) : State :=
  if s.gb F.MEAS_STAT_PLAUS_FAIL && s.gb F.PROT_PLAUS_T_S && !s.gb F.PROT_TRIP_PLAUS then
    let s := s.runTo (s.prot.plausAt.getD s.up + 1000000000 * s.g F.PROT_PLAUS_T_S)
    let s := (s.p F.PROT_TRIP_PLAUS 1).bumpSat .a F.PROT_CNT_TRIPS
    (s.ev 0x0C06 0 (16 :: leBytes 2 0 ++ leBytes 4 s.snapEpoch)).protSettle
  else s

def execPlausTripTimeout (s : State) : Out := s.fin (plausTrip s)

/-- When a monitor's inputs count as blind: TBLIND after the later of its latest valid NTC value and the first snapshot since
the reset or wake; none before that snapshot (R251). -/
def State.blindAt (s : State) (k : Nat) : Option Nat :=
  s.prot.firstAt.map fun x =>
    max x (((s.prot.ntcAt.find? fun y => y.1 == k).map (·.2)).getD 0) + 1000000000 * s.g F.PROT_PLAUS_TBLIND

/-- A monitor has had no valid NTC value for TBLIND seconds. -/
def ntcBlind (s : State) (k : Nat) : State :=
  match s.blindAt k with
  | none => s
  | some t =>
  if s.prot.blind.contains k then s
  else
    let s := s.runTo t
    let s := { s with prot := { s.prot with blind := k :: s.prot.blind } }
    (s.ev 0x0C09 0 ([3, 1] ++ leBytes 2 k)).protSettle

def execNtcBlindTimeout (k : Nat) (s : State) : Out := s.fin (ntcBlind s k)

/-- A TRIP pair reads back other than commanded: RB_FAULT and a latched trip with TACT 2. `trip` is what pair A or B
reads. -/
def tripReadback (s : State) (pairB trip : Bool) : State :=
  let s := s.p (if pairB then F.PROT_SQ_STAT_RB_B else F.PROT_SQ_STAT_RB_A) (b2n trip)
  let s := (s.p F.PROT_STAT_RB_FAULT 1).ev 0x0C08 0 [b2n pairB]
  if s.gb F.PROT_TRIP_RB then s
  else
    let s := (s.p F.PROT_TRIP_RB 1).bumpSat .a F.PROT_CNT_TRIPS
    let s := s.ev 0x0C06 0 (17 :: leBytes 2 0 ++ leBytes 4 s.snapEpoch)
    s.p F.PROT_STAT_TRIP_LATCHED 1

def execTripReadbackFault (pairB trip : Bool) (s : State) : Out := s.fin (tripReadback s pairB trip)

/-- Every latched trip whose channel is back inside its WARN threshold less HYS is cleared (R247). The PLAUS trip clears
once PLAUS_FAIL has, the read-back trip once both pairs read as commanded. -/
def State.clearTrips (s : State) : State :=
  let before := (s.rd .a Pg.PROT 0x058).toNat
  let ch : List (Nat × ProtCh) :=
    s.prot.ch.map fun (x : Nat × ProtCh) => if x.2.inside then (x.1, { x.2 with tripped := false }) else x
  let s := { s with prot := { s.prot with ch := ch } }
  let s := (List.range 11).foldl (fun s k =>
    s.p (F.PROT_Lk_ST_TRIPPED k) (b2n (s.prot.ch.any fun x => x.1 / 512 == k && x.2.tripped))) s
  let s := if s.gb F.MEAS_STAT_PLAUS_FAIL then s else s.p F.PROT_TRIP_PLAUS 0
  let t := b2n (s.pairCmd == 2)
  let s := if s.g F.PROT_SQ_STAT_RB_A = t ∧ s.g F.PROT_SQ_STAT_RB_B = t then s.p F.PROT_TRIP_RB 0 else s
  (s.ev 0x0C07 0 (leBytes 4 before)).protSettle

/-- PROT_CTRL.CLR_TRIP (R247, R259). -/
def clrTrip (s : State) (r : Req) : Nat × State :=
  s.access r Pg.PROT 0x008 [(.auth, !s.isAuth r.lane)] State.clearTrips

def execClrTrip (r : Req) (s : State) : Out := s.answered (clrTrip s r)

/-! ### The limit blocks (R249, R250) -/

/-- Does a TRIP threshold lie on the safe side of its WARN threshold? -/
def thrBad (k : Nat) (v : Word) : Bool :=
  let w : Int := if isSignedLim k then toSigned 16 (getBits v 31 16) else getBits v 31 16
  let t : Int := if isSignedLim k then toSigned 16 (getBits v 15 0) else getBits v 15 0
  if isLow k then decide (w < t) else decide (t < w)

/-- Would a TRIP threshold of CELL_HI or CELL_LO break its relation to the coarse limits (R250)? -/
def State.cellThrBad (s : State) (k : Nat) (v : Word) : Bool :=
  (k == 0 && decide (20 * s.g F.PROT_CCELL_VHI < getBits v 15 0)) ||
    (k == 1 && decide (getBits v 15 0 < 20 * s.g F.PROT_CCELL_VLO))

/-- The value rules of a word of a limit block: `w` is 0 THR, 1 CFG, 2 HYS. -/
def State.limitBad (s : State) (k w : Nat) (v : Word) : Bool :=
  (w == 0 && (thrBad k v || s.cellThrBad k v)) || (w == 1 && decide (k ≤ 6) && decide (getBits v 7 6 < 2))

/-- A word of a limit block is written; `skipLock` for a LIMITS order (R249, R321). -/
def protLimitWrite (s : State) (r : Req) (skipLock : Bool) (k w : Nat) (v : Word) : Nat × State :=
  let off := 0x080 + 0x10 * k + 4 * w
  let change := (rowsAt Pg.PROT off).any fun x => x.changes (s.rd r.lane Pg.PROT off) v
  s.access r Pg.PROT off
    ((.auth, change && !s.isAuth r.lane) :: (.value, decide (k ≤ 10) && s.limitBad k w v) ::
      regChecks s r skipLock Pg.PROT off v) fun s => (s.store r Pg.PROT off v).protSettle

def execProtLimitWrite (r : Req) (k w : Nat) (v : Word) (s : State) : Out := s.answered (protLimitWrite s r false k (w % 3) v)

/-- PROT_CCELL (R250). -/
def protCcellWrite (s : State) (r : Req) (v : Word) : Nat × State :=
  let bad := decide (20 * getBits v 27 16 < s.g (F.PROT_Lk_THR_TRIP 0)) ||
    decide (s.g (F.PROT_Lk_THR_TRIP 1) < 20 * getBits v 11 0)
  s.access r Pg.PROT 0x040 ((.value, bad) :: regChecks s r false Pg.PROT 0x040 v) fun s => s.store r Pg.PROT 0x040 v

def execProtCcellWrite (r : Req) (v : Word) (s : State) : Out := s.answered (protCcellWrite s r v)

/-! ### The Squall path (R252 to R258) -/

/-- The latch field and the comparator field of a polarity: 0 positive, 1 negative. -/
def latchFld (pol : Nat) : Fld := if pol = 0 then F.PROT_SQ_STAT_LATCH_POS else F.PROT_SQ_STAT_LATCH_NEG
def cmpFld (pol : Nat) : Fld := if pol = 0 then F.PROT_SQ_STAT_CMP_POS else F.PROT_SQ_STAT_CMP_NEG

/-- The event of a latch, with the captured time (R255). -/
def State.squallEvent (s : State) (pol : Nat) : State :=
  s.ev 0x0C01 0 (pol :: leBytes 8 (s.get64 .a F.PROT_SQ_T_T_LO))

/-- A polarity latches: TRIP pairs at TRIP, the time captured, the event raised; a running window aborts. While the clocks
are stopped the time reads 0 and the event waits (R189, R253, R255). -/
def State.squallLatch (s : State) (pol t : Nat) : State :=
  let stopped := s.mode == St.LULL || !s.gb F.CLK_STAT_PLL_LOCK
  let s := (s.p (latchFld pol) 1).bumpSat .a F.PROT_CNT_SQUALL
  let s := (s.put64 .a F.PROT_SQ_T_T_LO (if stopped then 0 else t)).p F.PROT_STAT_SQUALL 1
  let s := s.pairs
  if stopped then { s with prot := { s.prot with unraised := s.prot.unraised ++ [pol] } }
  else (s.squallEvent pol).eisAbort 6

/-- A comparator crossing (R253): `t` is the time counter at the latch. The path is armed once the thresholds are loaded
(R257). -/
def squallTrip (s : State) (pol t : Nat) : State :=
  if s.gb F.PROT_SQ_STAT_LOADED && !s.prot.exhausted then (s.p (cmpFld pol) 1).squallLatch pol t else s

def execSquallTrip (negative : Bool) (t : Nat) (s : State) : Out := s.fin (squallTrip s (b2n negative) t)

/-- The current has fallen below 95 % of a threshold: its comparator releases (R252). -/
def execSquallCmpRelease (negative : Bool) (s : State) : Out := s.fin (s.p (cmpFld (b2n negative)) 0)

/-- The compensated shunt resistance in units of 10⁻⁸ nΩ (R145): `R_NOM × (1 + TCR × (T − 25 °C))`. -/
def State.shuntR (s : State) : Int :=
  let t : Int := if s.gb F.MEAS_STAT_TCOMP_OFF then 2500 else s.front.ntc.getD 0 2500
  let tcr : Int := toSigned 16 (s.g F.MEAS_SHUNT_TCR)
  (s.g F.MEAS_SHUNT_R_NOM : Int) * (10 ^ 10 + tcr * (t - 2500))

/-- A DAC voltage in nV: threshold × R (R252). -/
def State.dacOf (s : State) (thr : Nat) : Nat := (thr * 10 * s.shuntR / 10 ^ 10).toNat

/-- Each DAC is set to its threshold × R (R252). -/
def squallDac (s : State) : State :=
  if s.gb F.PROT_SQ_STAT_LOADED then
    { s with prot := { s.prot with dac := (s.dacOf s.prot.thr.1, s.dacOf s.prot.thr.2) } }
  else s

def execSquallDacUpdate (s : State) : Out := s.fin (squallDac s)

/-- PROT_SQ_THR: each comparator runs on the smaller of its old and new threshold until the DAC has settled (R256). -/
def squallThrWrite (s : State) (r : Req) (v : Word) : Nat × State :=
  let old := s.rd .a Pg.PROT 0x044
  s.access r Pg.PROT 0x044 ((.auth, s.changesReg r Pg.PROT 0x044 v && !s.isAuth r.lane) :: regChecks s r false Pg.PROT 0x044 v) fun s =>
    let s := s.store r Pg.PROT 0x044 v
    let new := s.rd .a Pg.PROT 0x044
    let s := { s with prot := { s.prot with
      thr := (min s.prot.thr.1 (s.g F.PROT_SQ_THR_POS), min s.prot.thr.2 (s.g F.PROT_SQ_THR_NEG)), settling := true } }
    (squallDac s).evIf (old != new) 0x0C0A 0 (leBytes 4 old.toNat ++ leBytes 4 new.toNat)

def execSquallThrWrite (r : Req) (v : Word) (s : State) : Out := s.answered (squallThrWrite s r v)

/-- The DAC has settled: each comparator moves to the new threshold (R256). -/
def squallSettled (s : State) : State :=
  if s.prot.settling then
    squallDac { s with prot := { s.prot with thr := (s.g F.PROT_SQ_THR_POS, s.g F.PROT_SQ_THR_NEG), settling := false } }
  else s

def execSquallDacSettled (s : State) : Out := s.fin (squallSettled s)

/-- The thresholds are loaded from the configuration at power-up: the path is armed and the pairs go NORMAL (R46, R257). -/
def State.squallLoad (s : State) : State :=
  let s := { s with prot := { s.prot with thr := (s.g F.PROT_SQ_THR_POS, s.g F.PROT_SQ_THR_NEG), settling := false } }
  (squallDac ((s.p F.PROT_SQ_STAT_LOADED 1).p F.PROT_STAT_ARMED 1)).pairs

/-- The latches of a mask that can be cleared are cleared: bit 0 positive, bit 1 negative. -/
def State.clearLatches (s : State) (mask : Nat) : State :=
  let s := (List.range 2).foldl (fun s pol => if bitAt mask pol then s.p (latchFld pol) 0 else s) s
  ((s.ev 0x0C02 0 [mask]).p F.PROT_STAT_SQUALL
    (b2n (s.gb F.PROT_SQ_STAT_LATCH_POS || s.gb F.PROT_SQ_STAT_LATCH_NEG))).pairs

/-- A write of PROT_SQ_STAT: 1 to LATCH_POS or LATCH_NEG clears that latch (R255). `mask`: bit 0 positive, bit 1 negative. -/
def squallClear (s : State) (r : Req) (mask : Nat) : Nat × State :=
  let held := (List.range 2).any fun pol => bitAt mask pol && s.gb (cmpFld pol)
  s.access r Pg.PROT 0x048 [(.auth, mask != 0 && !s.isAuth r.lane), (.state, held)] fun s =>
    if (List.range 2).any fun pol => bitAt mask pol && s.gb (latchFld pol) then s.clearLatches mask else s

def execSquallLatchClear (r : Req) (pos neg : Bool) (s : State) : Out := s.answered (squallClear s r (b2n pos + 2 * b2n neg))

/-- PROT_SQ_TEST: GO injects a test signal that latches the polarity POL (R258). -/
def squallTest (s : State) (r : Req) (go : Bool) (pol : Nat) : Nat × State :=
  let change := go || pol != s.g F.PROT_SQ_TEST_POL
  s.access r Pg.PROT 0x054 [(.auth, change && !s.isAuth r.lane), (.state, go && s.inMotion)] fun s =>
    let s := s.p F.PROT_SQ_TEST_POL pol
    if go then
      let s := (s.p F.PROT_SQ_TEST_DONE 0).p F.PROT_SQ_TEST_LAT_NS 0
      ({ s with prot := { s.prot with testing := some pol } } : State).squallLatch pol s.clock.count
    else s

def execSquallTest (r : Req) (negative : Bool) (s : State) : Out := s.answered (squallTest s r true (b2n negative))

/-- The TRIP read-back transition of a test is seen after `ns` (R258). -/
def squallTestDone (s : State) (ns : Nat) : State :=
  match s.prot.testing with
  | none => s
  | some pol =>
    let s := { s with prot := { s.prot with testing := none } }
    let s := (s.p F.PROT_SQ_TEST_LAT_NS (ns / 4 * 4)).p F.PROT_SQ_TEST_DONE 1
    let s := s.ev 0x0C0B 0 (pol :: leBytes 2 (ns / 4 * 4))
    let s := if 180 < ns / 4 * 4 then (s.p F.PROT_STAT_RB_FAULT 1).ev 0x0C08 0 [2] else s
    s.pairs

def execSquallTestDone (ns : Nat) (s : State) : Out := s.fin (squallTestDone s ns)

/-- Latches whose event could not be raised raise it once the management firmware runs (R255). -/
def State.raiseLatches (s : State) : State :=
  let l := s.prot.unraised
  l.foldl State.squallEvent { s with prot := { s.prot with unraised := [] } }

/-- |I| of the measured current is at most a limit in 0.1 A. -/
def State.currentBelow (s : State) (lim : Nat) : Bool :=
  match s.stringCurrent with
  | some i => decide (i.natAbs ≤ 1000 * lim)
  | none => false

/-- A shunt result reaches the channel: it keeps since when |I| is at most I_END in PRECHARGE. -/
def State.preCurrent (s : State) : State :=
  let low := s.g F.SAFE_STATE_SEQ == 2 && s.currentBelow (s.g F.SAFE_PRE_I_END)
  { s with safe := { s.safe with lowAt := if low then some (s.safe.lowAt.getD s.up) else none } }

end Sys2Proof.Machine
end

