-- ==== Sys2Proof/Machine/Safe.lean ====
section
/-! DEFINITION. The safety channel: its inputs and their tests, its safety functions, the lock-out, and the contactor
sequences (R261 to R280). -/

namespace Sys2Proof.Machine

open Sys2Proof

/-! ### Outputs and status -/

/-- Safety output `n` (1 to 4) is commanded on. -/
def State.outOn (s : State) (n : Nat) : Bool := bitAt (s.g F.SAFE_STATE_OUT_CMD) (n - 1)

/-- Output `n` is commanded. A switching of SO1 to SO3 waits for its mirror contact (R268). -/
def State.setOut (s : State) (n : Nat) (on : Bool) : State :=
  let moved := s.outOn n != on && n != 4
  let s := if moved then { s with safe := { s.safe with fbAt := (n, s.up) :: s.safe.fbAt.filter fun x => x.1 != n } } else s
  s.p F.SAFE_STATE_OUT_CMD (putBit (s.g F.SAFE_STATE_OUT_CMD) (n - 1) on)

/-- The sequence state moves, with event 0x0D0B. -/
def State.setSeq (s : State) (q : Nat) : State :=
  let old := s.g F.SAFE_STATE_SEQ
  if old = q then s
  else
    let s := { s with safe := { s.safe with seqAt := s.up, lowAt := none } }
    (s.p F.SAFE_STATE_SEQ q).ev 0x0D0B 0 [q]

/-- Contactor outputs SO1 to SO3 switch off, the sequence returns to OPEN; a contactor that opens aborts a running window
(R189). -/
def State.mainOff (s : State) : State :=
  let closed := s.outOn 1 || s.outOn 2 || s.outOn 3
  let s := (((s.setOut 1 false).setOut 2 false).setOut 3 false).setSeq 0
  s.eisAbortIf closed 6

/-- All four outputs switch off at once (R269, R273). -/
def State.outputsOff (s : State) : State := s.mainOff.setOut 4 false

/-- A function k (1 to 5) is active. -/
def State.sfOn (s : State) (k : Nat) : Bool := bitAt (s.g F.SAFE_STATE_SF) (k - 1)

/-- A demand makes a function active: outputs off, the breaker as configured, counted, event 0x0D01 (R269). -/
def State.demand (s : State) (k : Nat) (detail : List Nat) : State :=
  if s.sfOn k then s
  else
    let s := (s.p F.SAFE_STATE_SF (putBit (s.g F.SAFE_STATE_SF) (k - 1) true)).bumpSat .a F.SAFE_CNT_DEMANDS
    ((s.ev 0x0D01 0 (k :: detail)).outputsOff.eisAbort 6).protSettle

/-- A function clears, with event 0x0D02. -/
def State.clearSf (s : State) (k : Nat) : State :=
  if s.sfOn k then
    ((s.p F.SAFE_STATE_SF (putBit (s.g F.SAFE_STATE_SF) (k - 1) false)).ev 0x0D02 0 [k]).protSettle
  else s

/-! ### The lock-out (R274) -/

/-- The MRAM offset of the lock-out unit (R102). -/
def lockoutOff : Nat := 0x7D0000

/-- The lock-out unit as SAFE_LOCKOUT and its companions show it. -/
def State.lockoutBody (s : State) : NvBody :=
  .lockout (s.gb F.SAFE_LOCKOUT_LATCHED) (s.g F.SAFE_LOCKOUT_CAUSE) (s.g F.SAFE_LOCKOUT_COUNT) (s.g F.SAFE_LO_T_OPSEC)
    s.nv.pwrcyc (s.g F.SAFE_LO_EP_EPOCH)

/-- The lock-out state goes to both MRAMs as one unit; it stays held until it is written. -/
def State.writeLockout (s : State) : State :=
  (s.p F.SAFE_LOCKOUT_NV_PEND 1).nvWrite lockoutOff (s.nv.next lockoutOff) s.lockoutBody

/-- An SF5 cause latches the lock-out: outputs off, BRK5, the record with cause and count, event 0x0D03. A lock-out that
is already latched keeps its first cause. -/
def State.lockout (s : State) (cause : Nat) : State :=
  if s.gb F.SAFE_LOCKOUT_LATCHED then s.outputsOff
  else
    let s := (s.p F.SAFE_LOCKOUT_LATCHED 1).p F.SAFE_LOCKOUT_CAUSE cause
    let s := (s.bumpSat .a F.SAFE_LOCKOUT_COUNT).p F.SAFE_LO_T_OPSEC s.nv.opsec
    let s := s.p F.SAFE_LO_EP_EPOCH s.sampleEpoch
    let s := ((s.demand 5 [cause]).outputsOff).writeLockout
    s.ev 0x0D03 0 (cause :: leBytes 4 s.sampleEpoch)

/-- A lock-out where a condition holds. -/
def State.lockoutIf (s : State) (c : Bool) (cause : Nat) : State := if c then s.lockout cause else s

/-- A self-test result: SAFE_STEST shows it, a failure is an SF5 cause (R263). -/
def State.stest (s : State) (bit : Nat) (ok : Bool) (cause : Nat) : State :=
  (s.p F.SAFE_STEST_PASS (putBit (s.g F.SAFE_STEST_PASS) bit ok)).lockoutIf (!ok) cause

/-! ### Inputs (R264 to R266) -/

/-- One sample of a filter: the settled state and the running run; a pulse sample only lets the run's time pass. Twelve
grid periods are 3 ms. -/
def filterStep (st : Nat) (run : Option Nat) (level pulse : Bool) : Nat × Option Nat :=
  let run := run.map (· + 1)
  let long := decide (12 ≤ run.getD 0)
  if pulse then (st, run)
  else if st = 1 ∨ st = 2 then
    if level == (st == 2) then (if long then (3 - st, none) else (st, some (run.getD 0))) else (st, none)
  else if level == (st == 3) then (if long then (if level then (1, none) else (2, none)) else (st, some (run.getD 0)))
  else (if level then 3 else 0, some 0)

/-- The pulse source of input `k` (1 to 8): 1 TP1, 2 TP2 (R264). -/
def sourceOf (k : Nat) : Nat := if k % 2 = 1 then 1 else 2

/-- Is input `k` tested against its pulses? SI8 is not while it is static. -/
def State.tested (s : State) (k : Nat) : Bool := k != 8 || !s.gb F.SAFE_IN_CFG_SI8_STATIC

/-- An input fault: SAFE_IN.FAULT marks the inputs of a mask, event 0x0D06 names the first and the cause. -/
def State.inputFault (s : State) (mask k cause : Nat) : State :=
  if Nat.land (s.g F.SAFE_IN_FAULT) mask = mask then s
  else
    ((s.p F.SAFE_IN_FAULT (Nat.lor (s.g F.SAFE_IN_FAULT) mask)).ev 0x0D06 0 [k, cause]).lockout cause

/-- One sample of input `k`: filter, own-source test, cross-short test. `pulse` is 0 outside pulses, else the source whose
pulse the sample falls into. -/
def State.inputSample (s : State) (level : Bool) (pulse k : Nat) : State :=
  let x := s.safe
  let own := s.tested k && pulse == sourceOf k
  let other := s.tested k && pulse != 0 && pulse != sourceOf k
  let f := filterStep (x.settled.getD (k - 1) 0) (x.runs.getD (k - 1) none) level own
  let o := x.own.getD (k - 1) 0
  let c := x.cross.getD (k - 1) 0
  let o := if own then (if level then min 2 (o + 1) else 0) else o
  let c := if other then (if level then 0 else min 2 (c + 1)) else if !own && !level then 0 else c
  let s := { s with safe := { x with
    settled := x.settled.set (k - 1) f.1, runs := x.runs.set (k - 1) f.2, own := x.own.set (k - 1) o
    cross := x.cross.set (k - 1) c } }
  if o = 2 ∨ c = 2 then s.inputFault (2 ^ (k - 1)) k 0x0A else s

/-- A discrepancy of a pair of channels runs, in sample periods. -/
def State.discrepancy (s : State) (k run : Nat) : Nat :=
  let a := s.safe.settled.getD (k - 1) 0
  let b := s.safe.settled.getD k 0
  if (a = 1 ∧ b = 2) ∨ (a = 2 ∧ b = 1) then run + 1 else 0

/-- RESET_IN: filtered as the inputs are. A press that was there before the input had read off, or that shows no pulses,
cannot count; a static level is told once (R266, R275). -/
def State.resetSample (s : State) (level : Bool) (pulse : Nat) : State :=
  let x := s.safe
  let own := pulse == 2
  let f := filterStep x.resetSettled x.resetRun level own
  let o := if own then (if level then min 2 (x.resetOwn + 1) else 0) else x.resetOwn
  let pressed := f.1 == 1 && x.resetSettled != 1
  let dead := (if pressed then x.resetSettled != 2 else x.resetTold) || o == 2
  let tell := o == 2 && x.resetOwn != 2
  let s := { s with safe := { x with resetSettled := f.1, resetRun := f.2, resetOwn := o, resetTold := dead } }
  (s.p F.SAFE_IN_RESET (b2n (f.1 == 1))).evIf tell 0x0D05 0 [5]

/-- A sample of every safety input, on the grid of the pulse sources (R265). -/
def safetySample (s : State) (raw : Nat) (reset : Bool) (pulse : Nat) : State :=
  let s := s.p F.SAFE_IN_RAW raw
  let s := (List.range 8).foldl (fun s j => s.inputSample (bitAt raw j) pulse (j + 1)) s
  let filt := ((List.range 8).map fun j => if s.safe.settled.getD j 0 = 1 then 2 ^ j else 0).sum
  let s := s.p F.SAFE_IN_FILT filt
  let d := (s.discrepancy 1 s.safe.disc.1, s.discrepancy 3 s.safe.disc.2)
  let clean := s.safe.own.all (fun n => n == 0) && s.safe.cross.all (fun n => n == 0)
  let run := if pulse = 0 then s.safe.followed else if clean then min 4 (s.safe.followed + 1) else 0
  let s := { s with safe := { s.safe with disc := d, followed := run } }
  let lim := 4 * s.g F.SAFE_IN_CFG_DISC_MS
  let s := if lim < d.1 then s.inputFault 3 1 0x0B else s
  let s := if lim < d.2 then s.inputFault 12 3 0x0B else s
  s.resetSample reset pulse

def execSafetyInputSample (raw : Nat) (reset : Bool) (pulse : Nat) (s : State) : Out :=
  s.fin (safetySample s (raw % 256) reset (pulse % 3))

/-- A pulse of TP1 or TP2: the source must reach 15 V when high and 5 V when low (R266). -/
def testPulse (s : State) (tp2 highOk lowOk : Bool) : State :=
  let ok := highOk && lowOk
  let b := s.safe.srcBad
  let n := if ok then (if tp2 then b.2 else b.1) - 1 else 2
  let s := { s with safe := { s.safe with srcBad := if tp2 then (b.1, n) else (n, b.2) } }
  s.stest 7 ok 0x0C

def execTestPulse (tp2 highOk lowOk : Bool) (s : State) : Out := s.fin (testPulse s tp2 highOk lowOk)

/-! ### Verdicts and ticks (R271, R263) -/

/-- SF3 disarms (R271). -/
def State.disarm (s : State) : State :=
  { s.p F.SAFE_STAT_SF3_ARMED 0 with safe := { s.safe with badRun := List.replicate 480 0, allIn := 0, sf3 := none } }

/-- A change of MON_COUNT disarms SF3. -/
def State.checkCount (s : State) : State :=
  if s.safe.monCount = s.monCount then s
  else ({ s with safe := { s.safe with monCount := s.monCount } } : State).disarm

/-- The epoch tick reaches the safety channel. -/
def State.safeTick (s : State) (epoch : Nat) : State :=
  { s with safe := { s.safe with
    awaiting := s.safe.awaiting ++ [(epoch, s.up)], tickRun := min 10 (s.safe.tickRun + 1), tickAt := s.up } }

/-- The verdicts of one epoch are counted: arming, and the demand for the next cycle. -/
def State.judge (s : State) (vs : List Nat) : State :=
  let s := s.checkCount
  let n := 12 * s.monCount
  let vs := (vs ++ List.replicate 480 3).take n
  let runs := (s.safe.badRun.take n).zipWith (fun r v => if v = 0 then 0 else min 2 (r + 1)) vs
  let all := vs.all (fun v => v == 0) && n != 0
  let armed := s.gb F.SAFE_STAT_SF3_ARMED
  let first := runs.findIdx? (fun r => r == 2)
  let s := { s with safe := { s.safe with
    badRun := runs ++ List.replicate (480 - n) 0, verdicts := vs, allIn := if all then min 2 (s.safe.allIn + 1) else 0
    sf3 := if armed then (match first with
      | some j => some (j + 1, vs.getD j 3)
      | none => s.safe.sf3) else none } }
  if all then s.p F.SAFE_STAT_SF3_ARMED 1 else s

/-- The verdict set that the chain master formed at the end of the sweep (R124) arrives, for the oldest tick that awaits one;
with a bad CRC or another epoch every position counts INVALID. -/
def verdictSet (s : State) (crcOk : Bool) : State :=
  match s.safe.awaiting, s.chain.verdicts with
  | (e, _) :: l, some (ep16, vs) =>
    ({ s with safe := { s.safe with awaiting := l }, chain := { s.chain with verdicts := none } } : State).judge
      (if crcOk && ep16 == e % 2 ^ 16 then vs else [])
  | _, _ => s

def execVerdictSetRx (crcOk : Bool) (s : State) : Out := s.fin (verdictSet s crcOk)

/-- No valid set 2.5 ms after its tick: every position counts INVALID. -/
def verdictTimeout (s : State) : State :=
  match s.safe.awaiting with
  | [] => s
  | (_, t) :: l => ({ s.runTo (t + 2500000) with safe := { s.safe with awaiting := l } } : State).judge []

def execVerdictTimeout (s : State) : Out := s.fin (verdictTimeout s)

/-- No epoch tick for 2.2 × P + 3 ms; the watchdog is suspended while the stop line is asserted and in SHUTDOWN. After its
release in LULL a tick must come within 1 s (R51, R263). -/
def tickWatchdog (s : State) : State :=
  if s.lane.stopLine ∨ s.mode = St.SHUTDOWN then s
  else
    let s := s.runTo (s.safe.tickAt + (if s.mode = St.LULL then 1000000000 else s.periodReg * 11 / 5 + 3000000))
    ({ s with safe := { s.safe with tickRun := 0 } } : State).lockout 0x0E

def execTickWatchdogExpire (s : State) : Out := s.fin (tickWatchdog s)

/-! ### The sequences (R268, R276, R277) -/

/-- A welded contactor: event 0x0D08 and cause 0x0D. -/
def State.welded (s : State) (n : Nat) : State := (s.ev 0x0D08 0 [n + 4]).lockout 0x0D

/-- A closing sequence aborts: SO1 to SO3 off, OPEN, event 0x0D09; no fault (R276). -/
def State.abortSeq (s : State) : State :=
  let q := s.g F.SAFE_STATE_SEQ
  (s.mainOff.bumpSat .a F.SAFE_CNT_ABORTS).ev 0x0D09 0 [0, q]

/-- The bank is full and no dip runs, so that an output may be granted (R41, R47). -/
def State.bankReady (s : State) : Bool := s.gb F.PWR_STAT_HOLDUP_FULL && !s.bo

/-- What holds every output off: an active function, the lock-out, a latched Squall, a protection trip, R40, R44, LULL, and in
a running sequence also SHUTDOWN (R15, R273). -/
def State.offCond (s : State) : Bool :=
  s.g F.SAFE_STATE_SF != 0 || s.gb F.SAFE_LOCKOUT_LATCHED || s.gb F.PROT_STAT_SQUALL || s.protTrip || s.safe.actLow ||
    s.safe.powerOff || s.mode == St.LULL ||
    (s.mode == St.SHUTDOWN && s.g F.SAFE_STATE_SEQ != 0 && s.g F.SAFE_STATE_SEQ != 4)

/-- Output `n` switches on in a sequence: not where a condition holds every output off (R15, R273), nor where the permissive
or the grant of the bank is gone (R47, R276), nor with a mirror contact that does not read closed (R268). -/
def State.switchOn (s : State) (n seq : Nat) : State :=
  if s.offCond then s.outputsOff
  else if !s.safe.main || !s.bankReady then s.abortSeq
  else if s.fbUsed n && !s.fbClosed n then s.welded n
  else (s.setOut n true).setSeq seq

/-- The instant `n` × 10 ms after the latest step of the sequence has come. -/
def State.stepEnd (s : State) (n : Nat) : State := s.runTo (s.safe.seqAt + 10000000 * n)

/-- A switched-on output whose mirror contact still reads closed: FB, at most CLOSE, has passed (R268, R276). -/
def State.notOpened (s : State) : Bool := [1, 2, 3].any fun n => s.outOn n && s.fbUsed n && s.fbClosed n

/-- CLOSE has passed since the latest step: PRECHARGE begins, CLOSED is reached, or an opening ends (R276, R277). -/
def closingStep (s : State) : State :=
  let q := s.g F.SAFE_STATE_SEQ
  if q = 1 ∨ q = 3 ∨ (q = 5 ∧ s.outOn 1 = false) then
    let s := s.stepEnd (s.g F.SAFE_SEQ_CLOSE)
    if q = 5 then s.mainOff
    else if s.notOpened then s.abortSeq
    else if q = 1 then s.switchOn 3 2
    else (s.setOut 3 false).setSeq 4
  else s

def execClosingStep (s : State) : Out := s.fin (closingStep s)

/-- When PRECHARGE may end: T_MIN after its start, and |I| ≤ I_END for 10 ms on end. -/
def State.preDue (s : State) : Option Nat :=
  s.safe.lowAt.map fun t => max (t + 10000000) (s.safe.seqAt + 10000000 * s.g F.SAFE_PRE_T_MIN)

/-- Precharge has lasted T_MIN with |I| ≤ I_END for 10 ms, T_MAX not passed: SO1 on. -/
def prechargeEnd (s : State) : State :=
  match s.preDue with
  | some t =>
    if s.g F.SAFE_STATE_SEQ = 2 ∧ s.currentBelow (s.g F.SAFE_PRE_I_END) ∧
        max s.up t ≤ s.safe.seqAt + 10000000 * s.g F.SAFE_PRE_T_MAX then
      let s := s.runTo t
      if s.notOpened then s.abortSeq else s.switchOn 1 3
    else s
  | none => s

def execPrechargeEnd (s : State) : Out := s.fin (prechargeEnd s)

/-- Precharge does not end within T_MAX: the sequence aborts. -/
def execPrechargeTimeout (s : State) : Out :=
  s.fin (if s.g F.SAFE_STATE_SEQ = 2 then (s.stepEnd (s.g F.SAFE_PRE_T_MAX)).abortSeq else s)

/-- FB has passed since output `n` switched: on, its contact must read open; off, it must read closed (R268). -/
def feedbackTimeout (s : State) (n : Nat) : State :=
  match s.safe.fbAt.lookup n with
  | none => s
  | some t =>
    let s := s.runTo (t + 10000000 * s.g F.SAFE_SEQ_FB)
    let s := { s with safe := { s.safe with fbAt := s.safe.fbAt.filter fun x => x.1 != n } }
    if !s.fbUsed n || s.outOn n != s.fbClosed n then s
    else if s.outOn n then s.abortSeq
    else s.welded n

def execFeedbackTimeout (n : Nat) (s : State) : Out := s.fin (feedbackTimeout s (n % 3 + 1))

/-- SO1 opens (R277). -/
def State.openMain (s : State) : State :=
  let s := s.setOut 1 false
  ({ s with safe := { s.safe with seqAt := s.up } } : State).eisAbort 6

/-- OPEN_TO has passed without |I| ≤ I_OPEN: SO1 opens under load. -/
def openTimeout (s : State) : State :=
  if s.g F.SAFE_STATE_SEQ = 5 && s.outOn 1 then ((s.stepEnd (s.g F.SAFE_SEQ_OPEN_TO)).ev 0x0D09 0 [1, 5]).openMain else s

def execOpenTimeout (s : State) : Out := s.fin (openTimeout s)

/-! ### The cycle (R263, R269, R273) -/

/-- What makes a MAIN permissive ignored (R273), the full test run at power-up among it (R263). -/
def State.mainBlock (s : State) : Bool :=
  s.offCond || !s.bankReady || !s.gb F.SAFE_STAT_SF3_ARMED ||
    s.mode == St.SHUTDOWN || !s.safe.tested

/-- The latches of SF2 without SF2_MAN and of SF4 clear by themselves. -/
def State.selfClear (s : State) : State :=
  let on (k : Nat) : Bool := s.safe.settled.getD (k - 1) 0 == 1
  let s := if !s.gb F.SAFE_SF_CFG_SF2_MAN && on 3 && on 4 then s.clearSf 2 else s
  if s.gb F.PROT_STAT_SQUALL then s else s.clearSf 4

/-- The demands of SF1 to SF4. -/
def State.demands (s : State) : State :=
  let off (k : Nat) : Bool := s.safe.settled.getD (k - 1) 0 == 2
  let s := if off 1 || off 2 then s.demand 1 [b2n (off 1) + 2 * b2n (off 2)] else s
  let s := if off 3 || off 4 then s.demand 2 [b2n (off 3) + 2 * b2n (off 4)] else s
  let s := match s.safe.sf3 with
    | some (p, v) =>
      let s := (s.p F.SAFE_SF3_POS p).p F.SAFE_SF3_VERDICT v
      ({ s with safe := { s.safe with sf3 := none } } : State).demand 3 (leBytes 2 p ++ [v])
    | none => s
  if s.gb F.PROT_STAT_SQUALL then
    s.demand 4 [s.g F.PROT_SQ_STAT_LATCH_POS + 2 * s.g F.PROT_SQ_STAT_LATCH_NEG]
  else s

/-- The read-back of every switch against its command: `bad` has bit 2(n − 1) for the high and 2(n − 1) + 1 for the low
switch of SOn (R267). -/
def State.readBack (s : State) (rb bad : Nat) : State :=
  let twice := Nat.land bad s.safe.rbBad
  let s := s.p F.SAFE_STATE_OUT_RB rb
  let s := { s with safe := { s.safe with rbBad := bad, rbRun := if bad = 0 then min 10 (s.safe.rbRun + 1) else 0 } }
  match (List.range 8).find? (bitAt twice) with
  | some j => (s.ev 0x0D07 0 [j / 2 + 1, j % 2]).stest 6 false 0x09
  | none => if bad = 0 then s.stest 6 true 0x09 else s

/-- The permissives: AUX drives SO4, MAIN starts and ends the sequences (R273, R276, R277). -/
def State.permissives (s : State) : State :=
  let x := s.safe
  let s := (s.p F.SAFE_STATE_PERM_MAIN (b2n x.main)).p F.SAFE_STATE_PERM_AUX (b2n x.aux)
  let s := { s with safe := { s.safe with
    blocked := x.main && (x.blocked || s.mainBlock)
    auxBlocked := x.aux && (x.auxBlocked || x.actLow || x.powerOff) } }
  let s := if s.offCond then s.outputsOff else s
  let auxNow := x.aux && !s.safe.auxBlocked && !s.offCond &&
    (s.outOn 4 || (s.bankReady && x.tested && s.mode != St.SHUTDOWN))
  let s := s.setOut 4 auxNow
  let q := s.g F.SAFE_STATE_SEQ
  if q = 0 then
    if x.main && !s.safe.blocked then
      (match s.notClosed with
        | some n => s.welded n
        | none => (s.setOut 2 true).setSeq 1)
    else s
  else if q = 5 then
    (if s.outOn 1 && s.currentBelow (10 * s.g F.SAFE_SEQ_I_OPEN) then s.openMain else s)
  else if x.main then s
  else if q = 4 then
    let s := s.setSeq 5
    if s.currentBelow (10 * s.g F.SAFE_SEQ_I_OPEN) then s.openMain else s
  else s.abortSeq

/-- One cycle of the safety channel: read-back, self-tests, causes, demands, permissives. -/
def safetyCycle (s : State) (rb bad : Nat) (cpuOk eccOk : Bool) : State :=
  let s := (s.p F.SAFE_STAT_RUNNING 1).checkCount.readBack rb bad
  let s := s.stest 1 cpuOk 0x01
  let s := if eccOk then s else s.stest 2 false 0x02
  let s := s.lockoutIf (s.gb F.MEAS_STAT_I_FAULT) 0x07
  let s := s.lockoutIf (s.gb F.MEAS_STAT_V_FAULT) 0x08
  s.selfClear.demands.protSettle.permissives

def execSafetyCycle (rb bad : Nat) (cpuOk eccOk : Bool) (s : State) : Out :=
  s.fin (safetyCycle s (rb % 16) (bad % 256) cpuOk eccOk)

/-! ### Self-tests (R263, R267) -/

/-- A dark test opens one switch of an output that is on, and checks that it opened. -/
def darkTest (s : State) (n : Nat) (low ok : Bool) : State :=
  if s.outOn n && !ok then (s.ev 0x0D07 0 [n, b2n low]).stest 6 false 0x09 else s

def execDarkTest (n : Nat) (low ok : Bool) (s : State) : Out := s.fin (darkTest s (n % 4 + 1) low ok)

def execRamMarchDone (ok : Bool) (s : State) : Out := s.fin (s.stest 2 ok 0x02)
def execRomCrcCheck (ok : Bool) (s : State) : Out := s.fin (s.stest 3 ok 0x03)

/-- The window watchdog misses its cycle: hardware forces every output off, cause 0x04. -/
def execSafetyWatchdogExpire (s : State) : Out := s.fin (s.outputsOff.stest 4 false 0x04)

/-- The logic supply leaves ±5 %. -/
def execSafetySupplyFault (s : State) : Out := s.fin (s.stest 5 false 0x05)

/-! ### The reset of the lock-out (R275) -/

/-- A demand that the next cycle makes active: a reset at its cycle is refused (R273). -/
def State.demanded (s : State) : Bool :=
  let off (k : Nat) : Bool := s.safe.settled.getD (k - 1) 0 == 2
  ((off 1 || off 2) && !s.sfOn 1) || ((off 3 || off 4) && !s.sfOn 2) || s.safe.sf3.isSome ||
    (s.gb F.PROT_STAT_SQUALL && !s.sfOn 4)

/-- A press of RESET_IN of `ms` milliseconds is released and checked; a valid one starts a full test run. The reasons of
0x0D05: 1 too short, 2 too long, 3 PWR_BO, 4 cause not cleared, 5 static or present at power-up, 6 test run not passed,
7 a demand in the same cycle. -/
def resetRelease (s : State) (ms : Nat) : State :=
  let why := if s.safe.resetTold then 5 else if ms < 200 then 1 else if 5000 < ms then 2 else if s.bo then 3
    else if !s.causeCleared then 4 else if s.demanded then 7 else 0
  if why = 0 then { s.p F.SAFE_STAT_STEST_RUN 1 with safe := { s.safe with press := true } }
  else s.ev 0x0D05 0 [why]

def execResetInRelease (ms : Nat) (s : State) : Out := s.fin (resetRelease s ms)

/-- A valid reset: the lock-out is cleared in both MRAMs, the latches where their inputs or verdicts allow it. -/
def State.resetLockout (s : State) : State :=
  let on (k : Nat) : Bool := s.safe.settled.getD (k - 1) 0 == 1
  let s := if s.gb F.SAFE_LOCKOUT_LATCHED then
      ((s.p F.SAFE_LOCKOUT_LATCHED 0).p F.SAFE_LOCKOUT_CAUSE 0).writeLockout
    else s
  let s := ((s.p F.SAFE_IN_FAULT 0).clearSf 5).ev 0x0D04
  let s := if on 1 && on 2 then s.clearSf 1 else s
  let s := if on 3 && on 4 then s.clearSf 2 else s
  if 2 ≤ s.safe.allIn then s.clearSf 3 else s

/-- The SF5 cause of a test, by its bit of SAFE_STEST. -/
def stestCause (bit : Nat) : Nat := [0x06, 0x01, 0x02, 0x03, 0x04, 0x05, 0x09, 0x0C].getD bit 0

/-- A full test run ends with `mask` of SAFE_STEST: a failed test is an SF5 cause; passed after a valid press, the lock-out
and the latches reset. -/
def selfTestDone (s : State) (mask : Nat) : State :=
  if !s.gb F.SAFE_STAT_STEST_RUN then s
  else
  let press := s.safe.press
  let ok := mask == 255
  let s := (s.p F.SAFE_STEST_PASS mask).p F.SAFE_STAT_STEST_RUN 0
  let s := { s with safe := { s.safe with press := false, tested := s.safe.tested || ok } }
  if ok then (if press && s.causeCleared && !s.bo then s.resetLockout else s.evIf press 0x0D05 0 [4])
  else
    let bit := ((List.range 8).find? fun k => !bitAt mask k).getD 0
    (s.evIf press 0x0D05 0 [6]).lockout (stestCause bit)

def execSelfTestRunDone (mask : Nat) (s : State) : Out := s.fin (selfTestDone s (mask % 256))

/-- SAFE_CTRL.CLR_SF clears SF3 once every position has had 2 IN epochs (R269, R279). -/
def clrSf (s : State) (r : Req) : Nat × State :=
  s.access r Pg.SAFE 0x008 [(.auth, !s.isAuth r.lane), (.state, decide (s.safe.allIn < 2))] fun s => s.clearSf 3

def execClrSf (r : Req) (s : State) : Out := s.answered (clrSf s r)

/-- SAFE_IN_CFG, SAFE_SF_CFG, SAFE_SEQ and SAFE_PRE: CONFIG, the lock, the authority lane; FB above CLOSE and T_MAX below
T_MIN are refused (R279). -/
def safeCfgWrite (s : State) (r : Req) (off : Nat) (v : Word) : Nat × State :=
  let bad := (off == 0x05C && decide (getBits v 31 24 < getBits v 23 16)) ||
    (off == 0x060 && decide (getBits v 23 12 < getBits v 31 24))
  s.access r Pg.SAFE off
    ((.auth, s.changesReg r Pg.SAFE off v && !s.isAuth r.lane) :: (.value, bad) :: regChecks s r false Pg.SAFE off v) fun s =>
      s.store r Pg.SAFE off v

end Sys2Proof.Machine
end

