-- ==== Sys2Proof/Machine/Cle.lean ====
section
/-! DEFINITION. The closed-loop control engine and the converter link (R281 to R304): a loop sample in binary32, the
reference and return frames, the trace buffers, and the commands of the CLE page. -/

namespace Sys2Proof.Machine

open Sys2Proof

/-! ### Binary32 (R282) -/

/-- The number of a binary32 word; the manual states none for infinities and NaNs. -/
def val32 (w : Nat) : Rat := (f32Rat w).getD (Config.special w)

/-- A result rounded to binary32. -/
def r32 (q : Rat) : Rat := val32 (f32Of q)

/-- A value register of loop `k`, by its offset in the block. -/
def loopOff (k o : Nat) : Nat := 0x100 + 0x80 * k + o
def State.cv (s : State) (l : Lane) (k o : Nat) : Rat := val32 (s.rd l Pg.CLE (loopOff k o)).toNat

/-- A value goes into a register of loop `k`. -/
def State.setCv (s : State) (l : Lane) (k o : Nat) (v : Rat) : State :=
  s.wr l Pg.CLE (loopOff k o) (BitVec.ofNat 32 (f32Of v))

/-! ### Loops -/

/-- A lane's loop `k`, replaced. -/
def State.setLoop (s : State) (l : Lane) (k : Nat) (x : Loop) : State :=
  let c := s.cle.get l
  { s with cle := s.cle.set l { c with loops := sput (fun _ => Loop.zero) c.loops k x } }

/-- A lane's CLE, changed. -/
def State.mapCle (s : State) (l : Lane) (f : Cle → Cle) : State := { s with cle := s.cle.set l (f (s.cle.get l)) }

/-- The gain at an error: linear between breakpoints, end values held (R283). -/
def Loop.gain (x : Loop) (e : Rat) : Rat := r32 (interpHold e ((gtOf x.gt).map fun p => (val32 p.1, val32 p.2)))

/-- The period of a rate code in ns, and in s as binary32. -/
def tsNs (rate : Nat) : Nat := [50000, 100000, 200000, 1000000, 10000000, 100000000].getD rate 50000
def tsOf (rate : Nat) : Rat := r32 ((tsNs rate : Rat) / 1000000000)

/-- Does a loop run (R281)? -/
def State.loopOn (s : State) (l : Lane) (k : Nat) : Bool :=
  s.getB l (F.CLE_Lk_CFG_EN k) || (k == 0 && s.mode != St.CONFIG)

/-! ### The set-point path (R285 to R288) -/

/-- The most restrictive clamp of R246, charge and discharge, in A. -/
def State.clamps (s : State) (l : Lane) : Rat × Rat :=
  let chg : Rat := (s.get l F.EST_LIM_LIM_CHG : Rat) / 10
  let dis : Rat := (s.get l F.EST_LIM_LIM_DIS : Rat) / 10
  let c := s.protClamps
  ((c.1.map fun (x : Nat) => min chg ((x : Rat) / 10)).getD chg, (c.2.map fun (x : Nat) => min dis ((x : Rat) / 10)).getD dis)

/-- The rate limiter of R286: `up` and `dn` are the largest moves of a sample. -/
def rateStep (up dn s target : Rat) : Rat :=
  let away := if 0 ≤ target then min (s + up) target else max (s - up) target
  if s = 0 then away
  else if s * target ≤ 0 then (if s < 0 then min 0 (s + dn) else max 0 (s - dn))
  else if |s| < |target| then away
  else if s < 0 then min target (s + dn) else max target (s - dn)

/-- A bound of R287: it falls at RATE_DN and rises at once. -/
def boundStep (dn b clamp : Rat) : Rat := if b ≤ clamp then clamp else max clamp (b - dn)

/-- The forced-zero causes of a lane's loop 0 as a mask: 0 STATE, 1 BO, 2 SEQ, 3 PLAUS, 4 LINK, 5 CONV (R288). -/
def State.zeroCauses (s : State) (l : Lane) : Nat :=
  b2n (s.mode != St.OPERATE) + 2 * b2n s.bo + 4 * b2n (s.g F.SAFE_STATE_SEQ != 4) +
    8 * b2n (s.getB l (F.CLE_Lk_STAT_PLAUS 0)) + 16 * b2n (s.gb F.CLINK_STAT_LOST) + 32 * b2n (s.gb F.CLINK_STAT_CONV_FAULT)

/-- The causes of a lane's loop 0 take effect, each start and end with its event. -/
def State.takeCauses (s : State) (l : Lane) : State :=
  let x := s.loop l 0
  let m := s.zeroCauses l
  let s := s.setLoop l 0 { x with causes := m }
  let s := (List.range 6).foldl (fun s b =>
    if bitAt m b == bitAt x.causes b then s else s.evL l 0x0E05 0 [b, b2n (bitAt m b)]) s
  s.put l (F.CLE_Lk_STAT_FORCED_ZERO 0) (b2n (m != 0))

/-- The measured power in kW (R281). -/
def State.power (s : State) : Rat :=
  r32 ((s.g F.MEAS_V_V : Rat) / 1000 * ((toSigned 32 (s.g F.MEAS_I_I) : Rat) / 10000) / 1000)

/-- A change of CLE_MODE takes effect at a sample of loop 0: on entry to POWER, loop 1 starts from the measured power so
that its output equals loop 0's rate-limited set-point (R285). -/
def State.takeMode (s : State) (l : Lane) : State :=
  let want := s.getB l F.CLE_MODE_POWER
  let c := s.cle.get l
  if want = c.power then s
  else
    let s := s.mapCle l fun c => { c with power := want }
    if want then
      let p := s.power
      let s0 := s.cv l 0 0x18
      let s := (s.setCv l 1 0x18 p).setCv l 1 0x20 s0
      s.setLoop l 1 { s.loop l 1 with integ := f32Of (s0 - r32 (s.cv l 1 0x30 * p)) }
    else s

/-! ### Feedback (R281, R289) -/

/-- The entries that a loop sample reads: entry INDEX, or every entry of the table, since GROUP stands in the entries
(R94, R281). -/
def State.fbEntries (s : State) (l : Lane) (k : Nat) : List Nat :=
  let n := s.get l F.CDT_COUNT_COUNT
  let idx := s.get l (F.CLE_Lk_SRC_INDEX k)
  if !s.getB l F.CDT_CTRL_ENABLE || !s.getB l F.CDT_STAT_READY then []
  else if s.get l (F.CLE_Lk_SRC_MODE k) = 0 then (if idx < n then [idx] else [])
  else List.range n

/-- The channel table feedback of a loop: entry INDEX, or maximum or mean over the entries with GROUP; lost where an entry
it takes carries INVALID, also one whose check fails in this sample (R95, R281). -/
def State.tableFb (s : State) (l : Lane) (k : Nat) : State × Option Rat :=
  let mode := s.get l (F.CLE_Lk_SRC_MODE k)
  let idx := s.get l (F.CLE_Lk_SRC_INDEX k)
  let (s, failed) := (s.fbEntries l k).foldl (fun (x : State × List Nat) i =>
    let (s, c) := x.1.useEntry l i
    (s, if c.isNone then i :: x.2 else x.2)) (s, [])
  let es := (s.cdt.get l).vals.filter fun x => if mode = 0 then x.1 == idx else x.2.1 == idx
  if es.isEmpty || (s.fbEntries l k).isEmpty || es.any (fun x => qHas x.2.2.2 Q.INVALID || failed.contains x.1) then (s, none)
  else
    let vs := es.map fun x => x.2.2.1
    (s, some (r32 (if mode = 2 then vs.sum / vs.length else vs.foldl max (vs.headD 0))))

/-- The feedback of a loop at a sample. -/
def State.feedback (s : State) (l : Lane) (k : Nat) : State × Option Rat :=
  if k = 0 then (s, s.link.fb.map fun (i : Int) => r32 ((i : Rat) / 1000))
  else if k = 1 then (s, some s.power)
  else s.tableFb l k

/-! ### The excitation (R167) -/

/-- The excitation of loop 0 in A at an instant: the sum of the selected tones, scaled so that its largest absolute value is the
effective peak, in the fade's amplitude. -/
def State.excite (s : State) (l : Lane) (t : Nat) : Rat :=
  let e := s.eis.get l
  let a := s.envelope e t
  if a = 0 then 0
  else
    let peak := (s.effPeak (getBits (e.cur.word 0x048) 11 0) : Rat) / 10
    if e.cur.peak = 0 then 0 else a * peak * toneSum (s.tones e.cur) (t - e.cur.origin) / e.cur.peak

/-! ### Trace buffers (R293, R294) -/

/-- A crossing of the level between two recorded samples. -/
def crosses (edge : Nat) (level p c : Rat) : Bool :=
  (edge != 1 && decide (p ≤ level) && decide (level < c)) || (edge != 0 && decide (level ≤ p) && decide (c < level))

/-- The eight words of a sample go into the trace window. -/
def traceStore (m : List (Nat × Nat)) (k idx : Nat) (nodes : List Nat) : List (Nat × Nat) :=
  (nodes.zip (List.range 8)).foldl (fun m x => sput (fun _ => 0) m (k * 0x10000 + x.2 * 0x2000 + idx) x.1) m

/-- The payload of a TRACE record (R415). -/
def State.tracePayload (s : State) (l : Lane) (k node chunk : Nat) : List Nat :=
  [k, node, chunk, 0] ++ leBytes 2 (s.get l (F.CLE_Lk_TRC_STAT_TRIG_IDX k)) ++ leBytes 2 (s.get l (F.CLE_Lk_TRC_CFG_PRE k)) ++
    leBytes 2 (s.get l (F.CLE_Lk_TRC_DEC_DEC k)) ++ List.replicate 6 0 ++
    (List.range 1024).flatMap fun i =>
      leBytes 4 (sget (fun _ => 0) (s.cle.get l).traces (k * 0x10000 + node * 0x2000 + chunk * 1024 + i))

/-- The trace is done: event 0x0E03, and its records where PLNK_TRC.AUTO asks for them. -/
def State.traceDone (s : State) (l : Lane) (k : Nat) : State :=
  let x := s.loop l k
  let s := s.setLoop l k { x with trace := { x.trace with on := false, left := none } }
  let s := s.put l (F.CLE_Lk_TRC_STAT_DONE k) 1
  let s := s.evL l 0x0E03 0 (k :: leBytes 2 (s.get l (F.CLE_Lk_TRC_STAT_TRIG_IDX k)))
  if bitAt (s.get l F.PLNK_TRC_AUTO) k then
    (List.range 64).foldl (fun s j => s.emit l 7 0x0B 0x08 x.trace.epoch (s.tracePayload l k (j / 8) (j % 8))) s
  else s

/-- Does the trigger source hold at a recorded sample? -/
def State.traceSource (s : State) (l : Lane) (k : Nat) (x : Trace) (c : Nat) : Bool :=
  let src := s.get l (F.CLE_Lk_TRC_CFG_SRC k)
  x.force ||
    (src == 0 && match x.prev with
      | some p => crosses (s.get l (F.CLE_Lk_TRC_CFG_EDGE k)) (s.cv l k 0x54) (val32 p) (val32 c)
      | none => false) ||
    (src == 1 && s.getB l (F.CLE_Lk_STAT_PLAUS k)) || (src == 2 && s.gb F.CLINK_STAT_LOST) ||
    (src == 3 && (s.icu.get l).trace.contains k)

/-- A loop sample reaches the trace buffer. -/
def State.traceSample (s : State) (l : Lane) (k : Nat) (nodes : List Nat) : State :=
  let x := s.loop l k
  let t := x.trace
  if !t.on then s
  else if t.dec ≠ 0 then s.setLoop l k { x with trace := { t with dec := t.dec - 1 } }
  else
    let pre := s.get l (F.CLE_Lk_TRC_CFG_PRE k)
    let c := nodes.getD (s.get l (F.CLE_Lk_TRC_CFG_NODE k)) 0
    let fire := t.left.isNone && decide (pre ≤ t.n) && s.traceSource l k t c
    let left := if fire then some (8191 - pre) else t.left.map (· - 1)
    let t' : Trace := { t with
      idx := (t.idx + 1) % 8192, n := min 8192 (t.n + 1), dec := s.get l (F.CLE_Lk_TRC_DEC_DEC k) - 1, prev := some c
      left := left, force := t.force && !fire, epoch := if fire then s.snapEpoch else t.epoch }
    let s := s.setLoop l k { x with trace := t' }
    let s := s.mapCle l fun c => { c with traces := traceStore c.traces k t.idx nodes }
    let i := s.icu.get l
    let s := { s with icu := s.icu.set l { i with trace := i.trace.filter (· != k) } }
    let s := s.put l (F.CLE_Lk_TRC_STAT_ARMED k) (b2n (left.isNone && decide (pre ≤ t'.n)))
    let s := if fire then (s.put l (F.CLE_Lk_TRC_STAT_TRIGGERED k) 1).put l (F.CLE_Lk_TRC_STAT_TRIG_IDX k) t.idx else s
    if left = some 0 then s.traceDone l k else s

/-! ### One sample of a loop (R283 to R291) -/

/-- A committed gain table becomes active (R284). -/
def State.takeTable (s : State) (l : Lane) (k : Nat) : State :=
  let x := s.loop l k
  match x.commit with
  | some g => (s.setLoop l k { x with gt := g, commit := none }).evL l 0x0E04 0 [k]
  | none => s

/-- ŷ(k) from ŷ(k − 1) and an output (R289). -/
def State.forecast (s : State) (l : Lane) (k : Nat) (ts yHat u : Rat) : Rat :=
  if s.get l (F.CLE_Lk_CFG_FC_N k) = 0 then yHat
  else
    let a := r32 (ts / r32 (s.cv l k 0x48 + ts))
    r32 (yHat + r32 (a * r32 (r32 (s.cv l k 0x44 * u) - yHat)))

/-- Full cooling of loops 2 and 3 (R291). -/
def State.fullCooling (s : State) (l : Lane) (k : Nat) : Bool :=
  (k == 2 || k == 3) &&
    (s.getB l (F.CLE_Lk_STAT_PLAUS k) || s.limitOn 6 || s.getB l (F.CLE_Lk_CTRL_FULL k))

/-- The range of a loop's output and, for loop 0, its bounds b_chg and b_dis (R285, R287). -/
def State.outRange (s : State) (l : Lane) (k : Nat) (dn : Rat) : (Rat × Rat) × Rat × Rat :=
  let c := s.clamps l
  if k = 0 then
    let b := s.cle.get l
    let chg := r32 (boundStep dn (val32 b.bChg) c.1)
    let dis := r32 (boundStep dn (val32 b.bDis) c.2)
    let rated : Rat := s.g F.CLINK_RATED_I_RATED
    ((-(min (min dis rated) ((s.g F.CLINK_AVAIL_DIS : Rat) / 10)), min (min chg rated) ((s.g F.CLINK_AVAIL_CHG : Rat) / 10)),
      chg, dis)
  else
    let lo := s.cv l k 0x3C
    let hi := s.cv l k 0x40
    (if k = 1 then (max lo (-c.2), min hi c.1) else (lo, hi), 0, 0)

/-- What a sample of the control law gives (R283): e, g, the integrator, the clamped output, the direction of the clamp. -/
structure Law where
  e : Rat
  g : Rat
  integ : Rat
  u : Rat
  dir : Int
  hold : Bool

/-- The control law. Under PLAUS, LINK and CONV the reference of loop 0 is its feedforward alone (R288). -/
def State.law (s : State) (l : Lane) (k : Nat) (x : Loop) (ts sp y exc : Rat) (valid : Bool) (range : Rat × Rat) : Law :=
  let e := r32 (if s.getB l (F.CLE_Lk_CFG_INV k) then y - sp else sp - y)
  let g := x.gain e
  let blind := k == 0 && Nat.land x.causes 0x38 != 0
  let hold := s.getB l (F.CLE_Lk_CTRL_HOLD k) || !valid || blind || (k == 0 && bitAt x.causes 2)
  let into := x.clampDir != 0 && (if 0 < e then x.clampDir == 1 else if e < 0 then x.clampDir == -1 else false)
  let i0 := val32 x.integ
  let integ := if k == 0 && bitAt x.causes 2 then 0
    else if hold || into then i0 else r32 (i0 + r32 (r32 (r32 (s.cv l k 0x38 * g) * e) * ts))
  let ff := r32 (s.cv l k 0x30 * sp)
  let u := if blind then r32 (ff + exc)
    else r32 (r32 (r32 (ff + r32 (r32 (s.cv l k 0x34 * g) * e)) + integ) + exc)
  let v := max range.1 (min range.2 u)
  ⟨e, g, integ, v, if v < u then 1 else if u < v then -1 else 0, hold⟩

/-- The residual of a sample with valid feedback: the runs of R289, and PLAUS with event 0x0E01. -/
def State.residual (s : State) (l : Lane) (k : Nat) (r : Rat) : State :=
  let n := s.get l (F.CLE_Lk_CFG_FC_N k)
  let x := s.loop l k
  let beyond := decide (s.cv l k 0x4C < |r|)
  let bad := if beyond then min 255 (x.bad + 1) else 0
  let good := if beyond then 0 else min 255 (x.good + 1)
  let s := s.setLoop l k { x with bad := bad, good := good }
  if n ≠ 0 ∧ n ≤ bad ∧ !s.getB l (F.CLE_Lk_STAT_PLAUS k) then
    let s := (s.put l (F.CLE_Lk_STAT_PLAUS k) 1).evL l 0x0E01 0 (k :: leBytes 4 (f32Of r))
    if k = 0 then s.eisAbort 4 else s
  else s

/-- The output that a loop drives: full cooling and its way back, or the last value while a general loop carries PLAUS
(R290, R291). -/
def State.drive (s : State) (l : Lane) (k : Nat) (x : Loop) (up dn u : Rat) : Rat × Option Nat × Bool :=
  if s.fullCooling l k then (s.cv l k 0x40, some (f32Of (s.cv l k 0x40)), true)
  else if 4 ≤ k ∧ s.getB l (F.CLE_Lk_STAT_PLAUS k) then (s.cv l k 0x20, none, false)
  else match x.back with
    | some b =>
      let v := r32 (rateStep up dn (val32 b) u)
      (v, if v = u then none else some (f32Of v), false)
    | none => (u, none, false)

/-- Gates of the impedance window that loop 0 of the authority lane sees (R174): DIR, SLEW, CLIP and PLAUS. -/
def State.loopGates (s : State) (l : Lane) (ts s0 s1 : Rat) (clip : Bool) : State :=
  if s.isAuth l then
    s.eisGate (s.eisDir l s1 != s.eisNow.cur.dir || decide ((s.get l F.EIS_GATE_RAMP_MAX : Rat) * ts < |s1 - s0|) || clip ||
      s.getB l (F.CLE_Lk_STAT_PLAUS 0))
  else s

/-- A lane's loop samples at an instant. -/
def State.loopSample (s : State) (l : Lane) (k t : Nat) : State :=
  let s := s.takeTable l k
  let s := if k = 0 then (s.takeCauses l).takeMode l else s
  let x := s.loop l k
  let ts := tsOf (s.get l (F.CLE_Lk_CFG_RATE k))
  let up := r32 (s.cv l k 0x28 * ts)
  let dn := r32 (s.cv l k 0x2C * ts)
  let c := s.clamps l
  let want := if k = 0 then (if x.causes != 0 then 0 else if (s.cle.get l).power then s.cv l 1 0x20 else s.cv l 0 0x14)
    else s.cv l k 0x14
  let target := r32 (if k = 0 then max (-c.2) (min c.1 want) else want)
  let s0 := s.cv l k 0x18
  let sp := r32 (rateStep up dn s0 target)
  let exc := if k = 0 then r32 (s.excite l t) else 0
  let d := s.get l (F.CLE_Lk_CFG_FC_D k)
  let y0 := val32 x.yHat
  let pre := s.forecast l k ts y0 (val32 (x.hist.getD (d - 1) 0))
  let (s, fb) := s.feedback l k
  let y := fb.getD pre
  let range := s.outRange l k dn
  let w := s.law l k x ts sp y exc fb.isSome range.1
  let o := s.drive l k x up dn w.u
  let u := o.1
  let yHat := if d = 0 then s.forecast l k ts y0 u else pre
  let r := r32 (y - yHat)
  let s := if k = 0 then s.mapCle l fun b => { b with bChg := f32Of range.2.1, bDis := f32Of range.2.2 } else s
  let s := s.setLoop l k { x with
    integ := f32Of w.integ, yHat := f32Of yHat, hist := (f32Of u :: x.hist).take 16, clampDir := w.dir, back := o.2.1
    full := o.2.2 }
  let s := (((s.setCv l k 0x18 sp).setCv l k 0x1C y).setCv l k 0x20 u).setCv l k 0x24 (if fb.isSome then r else 0)
  let s := ((s.put l (F.CLE_Lk_STAT_CLIP k) (b2n (w.dir != 0))).put l (F.CLE_Lk_STAT_AT_SP k) (b2n (decide (sp = target)))).put l
    (F.CLE_Lk_STAT_RAMP_DN k) (b2n (decide (|sp| < |s0|)))
  let s := (s.put l (F.CLE_Lk_STAT_RAMP_UP k) (b2n (decide (|s0| < |sp|)))).put l (F.CLE_Lk_STAT_INT_HOLD k)
    (b2n w.hold)
  let s := if fb.isSome then s.residual l k r else s
  let s := if k = 0 then s.loopGates l ts s0 sp (w.dir != 0) else s
  s.traceSample l k ([target, sp, exc, y, w.e, w.g, u, if fb.isSome then r else 0].map f32Of)

/-! ### The reference frame (R292, R296, R363) -/

/-- RUN of the reference frame. -/
def State.runFlag (s : State) : Bool := s.g F.SAFE_STATE_SEQ == 4 && s.gb F.CLINK_CTRL_ENABLE

/-- A lane's reference in mA. -/
def State.laneRef (s : State) (l : Lane) : Int := roundI (1000 * s.cv l 0 0x20)

/-- The value of smaller magnitude; equal magnitudes of opposite sign give 0. -/
def smaller (a b : Int) : Int :=
  if a.natAbs < b.natAbs then a else if b.natAbs < a.natAbs then b else if a = b then a else 0

/-- I_REF as the arbiter forwards it: the authority lane's, the smaller one during a merge, and without an owner the last
one ramping to 0 at the last RATE_DN. -/
def State.iRef (s : State) : Int :=
  match s.auth with
  | some l => if s.gb F.LANE_AUTH_MERGE then smaller (s.laneRef .a) (s.laneRef .b) else s.laneRef l
  | none =>
    let i := toSigned 32 (s.g F.CLINK_REF_I_REF)
    roundI (rateStep 0 (1000 * val32 s.link.rateDn * tsOf s.link.rate) i 0)

/-- FLAGS of the reference frame. -/
def State.refFlags (s : State) : Nat :=
  let zero := match s.auth with
    | some l => (s.loop l 0).causes != 0
    | none => true
  let exc := match s.auth with
    | some l => s.envelope (s.eis.get l) s.clock.count != 0
    | none => false
  b2n s.runFlag + 2 * b2n exc + 4 * b2n zero + 8 * s.g F.LANE_AUTH_MERGE + 16 * s.g F.CLINK_STAT_LOST

/-- A reference frame leaves at a sample of loop 0; its answer is awaited. With ENABLE 0 only K28.5 is sent. -/
def State.sendRef (s : State) (t : Nat) : State :=
  if s.gb F.CLINK_CTRL_ENABLE then
    let s := match s.auth with
      | some l => { s with link := { s.link with
          rateDn := (s.rd l Pg.CLE (loopOff 0 0x2C)).toNat, rate := s.get l (F.CLE_Lk_CFG_RATE 0) } }
      | none => s
    let i := s.iRef
    let s := { s with link := { s.link with
      fb := none, seq := (s.link.seq + 1) % 2 ^ 16, flags := s.refFlags, tk := t % 2 ^ 32, awaiting := true
      sentAt := s.up
      runAt := if s.runFlag && !bitAt (s.g F.CLINK_RXSTAT_STATUS) 1 then some (s.link.runAt.getD s.up) else none } }
    ((s.p F.CLINK_REF_I_REF (ofSigned 32 i)).p F.CLINK_STAT_RUNNING 1).p F.CLINK_STAT_MERGE (s.g F.LANE_AUTH_MERGE)
  else { s.p F.CLINK_STAT_RUNNING 0 with link := { s.link with fb := none, awaiting := false, runAt := none } }

/-- The bytes of the last reference frame after its K27.7, CRC-32C at the end (R295, R296). -/
def State.refFrame (s : State) : List Nat :=
  let bs := 0x52 :: leBytes 2 s.link.seq ++ leBytes 2 s.link.flags ++ leBytes 4 (s.g F.CLINK_REF_I_REF) ++ leBytes 4 s.link.tk ++
    leBytes 2 (s.g F.CLINK_RATED_I_RATED)
  bs ++ leBytes 4 (crc32c bs)

/-- Does an instant lie on the grid of a period (R282)? -/
def State.onGrid (s : State) (t period : Nat) : Bool := decide (s.clock.origin ≤ t) && (t - s.clock.origin) % period == 0

/-- A sample lacks valid feedback; after LOSS_N of them the link is lost. -/
def State.lacksFeedback (s : State) : State :=
  let n := min 255 (s.link.loss + 1)
  let s := { s with link := { s.link with awaiting := false, fb := none, loss := n, regain := 0, clean := 0 } }
  let s := (s.p F.CLINK_STAT_RX_OK 0).eisGate true
  if s.g F.CLINK_CFG_LOSS_N ≤ n ∧ !s.gb F.CLINK_STAT_LOST then
    (((s.p F.CLINK_STAT_LOST 1).bumpSat .a F.CLINK_LOSTCNT_LOST).ev 0x0F01).eisAbort 4
  else s

/-- No return frame is complete by t_k + 30 µs (R299). -/
def State.unanswered (s : State) : State := if s.link.awaiting then (s.bumpSat .a F.CLINK_ERR_MISSING).lacksFeedback else s

/-- Loop `k` samples at the grid instant `t` in every active lane; loop 0 sends its reference frame. -/
def loopInstant (s : State) (k t : Nat) : State :=
  if s.mode = St.LULL then s
  else
    let due := (lanes.filter fun l => s.active l && s.loopOn l k && s.onGrid t (tsNs (s.get l (F.CLE_Lk_CFG_RATE k))))
    let alone := k == 0 && s.auth.isNone && s.onGrid t (tsNs s.link.rate)
    if due.isEmpty && !alone then s
    else
      let s := s.reach t
      let s := if k = 0 then s.unanswered else s
      let s := due.foldl (fun s l => s.loopSample l k t) s
      if k = 0 then s.sendRef t else s

/-! ### The return frame (R297 to R300) -/

/-- The link is regained: the integrator of loop 0 starts from 0. -/
def State.regained (s : State) : State :=
  let s := (s.p F.CLINK_STAT_LOST 0).ev 0x0F02
  lanes.foldl (fun s l => s.setLoop l 0 { s.loop l 0 with integ := 0 }) s

/-- A valid return frame in a row of them. -/
def State.countValid (s : State) : State :=
  let n := if s.gb F.CLINK_STAT_LOST then s.link.regain + 1 else 0
  let s := { s with link := { s.link with loss := 0, regain := n } }
  if s.gb F.CLINK_STAT_LOST ∧ s.g F.CLINK_CFG_REGAIN_N ≤ n then s.regained else s

/-- The converter's own fault, and the end of cause CONV after 100 good frames. -/
def State.converterState (s : State) (status fault : Nat) : State :=
  let bad := bitAt status 4
  let good := !bad && (!s.runFlag || bitAt status 1)
  let n := if good then min 100 (s.link.clean + 1) else 0
  let was := s.gb F.CLINK_STAT_CONV_FAULT
  let told := bitAt (s.g F.CLINK_RXSTAT_STATUS) 4
  let s := { s with link := { s.link with clean := n } }
  let s := (s.p F.CLINK_RXSTAT_STATUS status).p F.CLINK_CONV_FAULT fault
  let s := s.evIf (bad && !told) 0x0F03 0 (leBytes 2 status ++ [fault])
  s.p F.CLINK_STAT_CONV_FAULT (b2n (bad || (was && decide (n < 100))))

/-- A return frame, its bytes after the K27.7: complete later than t_k + 30 µs it is missing; a wrong length, TYPE, CRC or
SEQ_ECHO makes it invalid (R297, R299). -/
def returnFrame (s : State) (frame : List Nat) : State :=
  let fld (off n : Nat) : Nat := leAt frame (off - 1) n
  if !s.link.awaiting then s
  else if s.link.sentAt + 30000 < s.up then s.unanswered
  else if frame.length != 23 || fld 1 1 != 0x4D || crc32c (frame.take 19) != fld 20 4 || fld 2 2 != s.link.seq then
    (s.bumpSat .a F.CLINK_ERR_CRC).lacksFeedback
  else
    let i := toSigned 32 (fld 6 4)
    let s := { s with link := { s.link with
      awaiting := false, fb := some i, runAt := if bitAt (fld 4 2) 1 then none else s.link.runAt } }
    let s := (s.p F.CLINK_MEAS_I_MEAS (fld 6 4)).p F.CLINK_CONV_V_LINK (fld 10 2)
    let s := (s.p F.CLINK_CONV_T_CONV (fld 18 1)).p F.CLINK_AVAIL_CHG (fld 14 2)
    ((s.p F.CLINK_AVAIL_DIS (fld 16 2)).p F.CLINK_STAT_RX_OK 1).countValid.converterState (fld 4 2) (fld 19 1)

def execConverterReturnFrame (frame : List Nat) (s : State) : Out := s.fin (returnFrame s (frame.map (· % 256)))

/-- No return frame by t_k + 30 µs. -/
def returnTimeout (s : State) : State := if s.link.awaiting then (s.runTo (s.link.sentAt + 30000)).unanswered else s

def execReturnFrameTimeout (s : State) : Out := s.fin (returnTimeout s)

/-- RUNNING has stayed 0 for 100 ms of RUN. -/
def convRunTimeout (s : State) : State :=
  match s.link.runAt with
  | some t =>
    let s := s.runTo (t + 100000000)
    { s.p F.CLINK_STAT_CONV_FAULT 1 with link := { s.link with clean := 0 } }
  | none => s

def execConvRunTimeout (s : State) : Out := s.fin (convRunTimeout s)

/-! ### Thermal outputs (R291, R292, R363) -/

/-- Output `n` in % as a lane's loops give it: 0 to 3 AO1 to AO4, 4 to 7 PWM1 to PWM4. -/
def State.laneOut (s : State) (l : Lane) (n : Nat) : Rat :=
  match (List.range 8).find? (fun k => decide (2 ≤ k) && bitAt (s.rd l Pg.CLE (loopOff k 0x08)).toNat n) with
  | some k => s.cv l k 0x20
  | none => 0

/-- Output `n` in % as it is driven. -/
def State.thermalOut (s : State) (n : Nat) : Rat :=
  let en (l : Lane) : Bool := bitAt (s.get l F.TALLY_Q_Q) (n + 2)
  match s.auth with
  | some l =>
    if s.gb F.LANE_AUTH_MERGE then (if en .a || en .b then max (s.laneOut .a n) (s.laneOut .b n) else 0)
    else if en l then s.laneOut l n else 0
  | none => if bitAt s.link.enables (n + 2) then 100 else 0

/-! ### The CLE page (R281, R284, R285, R290, R291, R294, R302) -/

/-- CLE_MODE is the management firmware's. -/
def cleModeWrite (s : State) (r : Req) (v : Word) : Nat × State :=
  let p := getBits v 0 0
  let change := p != s.get r.lane F.CLE_MODE_POWER
  s.access r Pg.CLE 0x040 [(.rights, change && r.path != .mgmt)] fun s =>
    let s := s.put r.lane F.CLE_MODE_POWER p
    if change then s.evL r.lane 0x0E06 else s

def execCleModeWrite (r : Req) (v : Word) (s : State) : Out := s.answered (cleModeWrite s r v)

/-- A gain table that COMMIT refuses: errors not strictly ascending, a negative gain, a value that is not finite. -/
def gtBad (t : List (Nat × Nat)) : Bool :=
  (t.any fun p => !f32Finite p.1 || !f32Finite p.2) || (t.any fun p => decide (f32 p.2 < 0)) ||
    ((t.zip t.tail).any fun p => decide (f32 p.2.1 ≤ f32 p.1.1))

/-- CLE_GT_SEL, with or without COMMIT. -/
def gtSelWrite (s : State) (r : Req) (v : Word) : Nat × State :=
  let k := getBits v 26 24
  let commit := getBits v 31 31 == 1
  let x := s.loop r.lane k
  s.access r Pg.CLE 0x044 [(.value, commit && gtBad (gtOf x.shadow))] fun s =>
    let s := (s.put r.lane F.CLE_GT_SEL_LOOP k).put r.lane F.CLE_GT_SEL_IDX (getBits v 5 0)
    if commit then s.setLoop r.lane k { x with commit := some (gtOf x.shadow) } else s

def execGainTableCommit (r : Req) (v : Word) (s : State) : Out := s.answered (gtSelWrite s r (setBits v 31 31 1))

/-- CLE_GT_ERR or CLE_GT_GAIN: a value of the shadow. -/
def gtWrite (s : State) (r : Req) (gain : Bool) (v : Word) : Nat × State :=
  s.access r Pg.CLE (if gain then 0x04C else 0x048) [] fun s =>
    let k := s.get r.lane F.CLE_GT_SEL_LOOP
    let i := s.get r.lane F.CLE_GT_SEL_IDX
    let x := s.loop r.lane k
    let p := (gtOf x.shadow).getD i (0, 0)
    s.setLoop r.lane k { x with shadow := (gtOf x.shadow).set i (if gain then (p.1, v.toNat) else (v.toNat, p.2)) }

/-- CLE_Lk_CTRL.CLR_PLAUS: PLAUS clears in both lanes once the last FC_N residuals lay within FC_LIM (R290). -/
def State.clearPlaus (s : State) (k : Nat) : State :=
  lanes.foldl (fun s l =>
    if s.getB l (F.CLE_Lk_STAT_PLAUS k) && decide (s.get l (F.CLE_Lk_CFG_FC_N k) ≤ (s.loop l k).good) then
      (s.put l (F.CLE_Lk_STAT_PLAUS k) 0).evL l 0x0E02 0 [k]
    else s) s

/-- May PLAUS of a loop not be cleared now? -/
def State.plausHeld (s : State) (l : Lane) (k : Nat) : Bool :=
  decide ((s.loop l k).good < s.get l (F.CLE_Lk_CFG_FC_N k))

/-- CLE_Lk_CTRL. -/
def cleCtrlWrite (s : State) (r : Req) (k : Nat) (v : Word) : Nat × State :=
  let clr := getBits v 1 1 == 1
  s.access r Pg.CLE (loopOff k 0x0C) [(.auth, clr && !s.isAuth r.lane), (.state, clr && s.plausHeld r.lane k)] fun s =>
    let s := (s.put r.lane (F.CLE_Lk_CTRL_FULL k) (getBits v 2 2)).put r.lane (F.CLE_Lk_CTRL_HOLD k) (getBits v 0 0)
    if clr then s.clearPlaus k else s

/-- CLR_PLAUS alone: HOLD and FULL are written as they stand. -/
def execClrPlaus (r : Req) (k : Nat) (s : State) : Out :=
  s.answered (cleCtrlWrite s r (k % 8) (setBits (s.rd r.lane Pg.CLE (loopOff (k % 8) 0x0C)) 1 1 1))

/-- The rates that a loop permits (R281). -/
def rateOk (k rate : Nat) : Bool :=
  if k = 0 then decide (rate ≤ 2) else if k = 1 then rate == 3
  else if k ≤ 3 then rate == 4 || rate == 5 else decide (3 ≤ rate) && decide (rate ≤ 5)

/-- CLE_Lk_CFG, SRC, DST and the value registers, by their offset in the block. -/
def cleLoopWrite (s : State) (r : Req) (k o : Nat) (v : Word) : Nat × State :=
  let x := v.toNat
  let bits := x % 256
  let neg := !f32Finite x && x == 0xFF800000 || f32Finite x && decide (f32 x < 0)
  let zero := f32Finite x && decide (f32 x = 0)
  let bad :=
    (o == 0x00 && (!rateOk k (getBits v 28 26) || (k == 0 && getBits v 23 16 == 0))) ||
    (o == 0x08 && (List.range 8).any fun j => decide (2 ≤ k) && decide (2 ≤ j) && j != k &&
      Nat.land (s.rd r.lane Pg.CLE (loopOff j 0x08)).toNat bits != 0) ||
    ((o == 0x28 || o == 0x2C) && (neg || zero)) || (o == 0x48 && neg) ||
    (o == 0x40 && decide (val32 x < s.cv r.lane k 0x3C))
  let off0 := o == 0x00 && k == 0 && getBits v 31 31 == 0 && s.mode != St.CONFIG
  let app := o == 0x14 && (r.path == .app0 || r.path == .app1) && !s.getB r.lane (F.CLE_Lk_CFG_APP_SP k) &&
    s.changesReg r Pg.CLE (loopOff k o) v
  s.access r Pg.CLE (loopOff k o)
    ((.rights, app) :: (.state, off0) :: (.value, bad) :: regChecks s r false Pg.CLE (loopOff k o) v) fun s =>
      s.store r Pg.CLE (loopOff k o) (if o == 0x08 && decide (k ≤ 1) then 0 else v)

/-- CLE_Lk_TRC_CFG: ARM starts recording, FORCE triggers now. -/
def trcCfgWrite (s : State) (r : Req) (k : Nat) (v : Word) : Nat × State :=
  let l := r.lane
  let arm := getBits v 31 31 == 1
  let busy := s.getB l (F.CLE_Lk_TRC_STAT_TRIGGERED k) && !s.getB l (F.CLE_Lk_TRC_STAT_DONE k)
  s.access r Pg.CLE (loopOff k 0x50) ((.busy, arm && busy) :: regChecks s r false Pg.CLE (loopOff k 0x50) v) fun s =>
    let s := s.store r Pg.CLE (loopOff k 0x50) v
    let s := if arm then
        let s := s.setLoop l k { s.loop l k with trace := { Trace.zero with on := true } }
        s.wr l Pg.CLE (loopOff k 0x5C) (BitVec.ofNat 32 (b2n (getBits v 12 0 == 0) * 2 ^ 31))
      else s
    let x := s.loop l k
    if getBits v 30 30 == 1 && x.trace.on && x.trace.left.isNone then
      s.setLoop l k { x with trace := { x.trace with force := true } }
    else s

def execTraceArm (r : Req) (k : Nat) (v : Word) (s : State) : Out := s.answered (trcCfgWrite s r (k % 8) (setBits v 31 31 1))
def execTraceForce (r : Req) (k : Nat) (v : Word) (s : State) : Out :=
  s.answered (trcCfgWrite s r (k % 8) (setBits v 31 30 1))

/-- CLE_CTRL.SRESET stops every trace and clears TRIGGERED and DONE (R302). -/
def State.cleReset (s : State) (l : Lane) : State :=
  (List.range 8).foldl (fun s k =>
    let s := s.setLoop l k { s.loop l k with trace := Trace.zero }
    s.wr l Pg.CLE (loopOff k 0x5C) (setBits (s.rd l Pg.CLE (loopOff k 0x5C)) 31 29 0)) s

end Sys2Proof.Machine
end

