-- ==== Sys2Proof/Machine/Cbus.lean ====
section
/-! DEFINITION. The container bus (R374 to R401): transmit buffers and station queue, shadowing, reception and filters,
barriers, error confinement, and the transmit role. -/

namespace Sys2Proof

/-! ### Frames (R379, R380) -/

/-- The identifier format, the 29-bit identifier (an 11-bit one stands in bits 28 to 18), and its fields. -/
def CanFrame.ide (f : CanFrame) : Bool := decide (2 ^ 31 ≤ f.id)
def CanFrame.ident (f : CanFrame) : Nat := f.id % 2 ^ 29
def CanFrame.std (f : CanFrame) : Nat := f.ident / 2 ^ 18
def CanFrame.prio (f : CanFrame) : Nat := f.ident / 2 ^ 26
def CanFrame.type (f : CanFrame) : Nat := f.ident / 2 ^ 18 % 256
def CanFrame.src (f : CanFrame) : Nat := f.ident / 2 ^ 12 % 64
def CanFrame.rem (f : CanFrame) : Nat := f.ident % 2 ^ 12

/-- The arbitration order: the lower value wins; an 11-bit frame wins against a 29-bit one with the same leading bits. -/
def CanFrame.arb (f : CanFrame) : Nat :=
  if f.ide then 2 * f.ident + 1 else f.std * 2 ^ 19

/-- Two frames with the same identifier, DLC and data (R395). -/
def CanFrame.same (f g : CanFrame) : Bool := f.id == g.id && f.dlc == g.dlc && f.data == g.data

end Sys2Proof

namespace Sys2Proof.Machine

open Sys2Proof

/-- The data bytes of a DLC. -/
def dlcBytes (fdf : Bool) (dlc : Nat) : Nat :=
  if fdf then [0, 1, 2, 3, 4, 5, 6, 7, 8, 12, 16, 20, 24, 32, 48, 64].getD dlc 64 else min 8 dlc

/-- A reserved TYPE (R379). -/
def reservedType (t : Nat) : Bool :=
  !(t == 0x01 || t == 0x08 || t == 0x10 || t == 0x11 || (decide (0x40 ≤ t) && decide (t ≤ 0xBF)) || decide (0xE0 ≤ t))

/-- An 11-bit identifier that no foreign node may use (R380). -/
def reservedStd (i : Nat) : Bool := decide (i < 0x400) || decide (0x7EF < i)

/-! ### Registers -/

/-- A lane's controller, changed. -/
def State.mapCbus (s : State) (l : Lane) (f : Cbus → Cbus) : State := { s with cbus := s.cbus.set l (f (s.cbus.get l)) }

/-- TXSTAT of buffer `n`: 0 EMPTY, 1 PENDING, 2 SENDING, 3 DONE, 4 CANCELLED, 5 HELD, 6 MATCHED, 7 DROPPED. -/
def State.txSt (s : State) (l : Lane) (n : Nat) : Nat := s.get l ⟨Pg.CBUS, 0x060, 4 * n + 3, 4 * n⟩
def State.setTx (s : State) (l : Lane) (n v : Nat) : State := s.put l ⟨Pg.CBUS, 0x060, 4 * n + 3, 4 * n⟩ v

/-- The frame of transmit buffer `n`; its bit rate is switched only where CBUS_FDCFG.BRS_EN permits it. -/
def State.txFrame (s : State) (l : Lane) (n : Nat) : CanFrame :=
  let c := s.rd l Pg.CBUS (0x104 + 0x80 * n)
  let fdf := getBits c 7 7 == 1
  let dlc := getBits c 3 0
  { id := (s.rd l Pg.CBUS (0x100 + 0x80 * n)).toNat, fdf := fdf, brs := getBits c 6 6 == 1 && s.getB l F.CBUS_FDCFG_BRS_EN, esi := false, dlc := dlc
    data := ((List.range 16).flatMap fun i => leBytes 4 (s.rd l Pg.CBUS (0x10C + 0x80 * n + 4 * i)).toNat).take
      (dlcBytes fdf dlc) }

/-- The 19 words of a received frame, as the FIFO window and the dedicated buffers show it. -/
def rxWords (x : CanRx) (new : Bool) : List Nat :=
  let f := x.frame
  let d := padTo 64 f.data
  [f.id, x.filter * 2 ^ 16 + b2n new * 2 ^ 8 + b2n f.fdf * 2 ^ 7 + b2n f.brs * 2 ^ 6 + b2n f.esi * 2 ^ 5 + f.dlc,
    x.ts % 2 ^ 32] ++ (List.range 16).map fun i => leAt d (4 * i) 4

/-- Words stored from a register offset upwards. -/
def State.wrWords (s : State) (l : Lane) (page off : Nat) (ws : List Nat) : State :=
  (ws.zip (List.range ws.length)).foldl (fun s x => s.wr l page (off + 4 * x.2) (BitVec.ofNat 32 x.1)) s

/-- The window, the level and the flags of the FIFO. -/
def State.showFifo (s : State) (l : Lane) : State :=
  let q := (s.cbus.get l).fifo
  let s := s.wrWords l Pg.CBUS 0x280 (match q with
    | x :: _ => rxWords x false
    | [] => List.replicate 19 0)
  (s.put l F.CBUS_RXSTAT_FIFO_LVL q.length).put l F.CBUS_STAT_RXF_NE (b2n (!q.isEmpty))

/-- The levels of the station queue. -/
def State.showStaq (s : State) (l : Lane) : State := s.put l F.CBUS_STAQ_LEVEL (s.cbus.get l).staq.length

/-- The locks and pending frames of the dedicated buffers. -/
def State.showRx (s : State) (l : Lane) : State :=
  let c := s.cbus.get l
  let on (k : Nat) : Nat := b2n (c.locked.getD k none).isSome
  let w (k : Nat) : Nat := b2n (c.waiting.getD k none).isSome
  (((s.put l F.CBUS_RXSTAT_B0_LOCK (on 0)).put l F.CBUS_RXSTAT_B1_LOCK (on 1)).put l F.CBUS_RXSTAT_B0_PEND (w 0)).put l
    F.CBUS_RXSTAT_B1_PEND (w 1)

/-! ### Starting a frame (R384) -/

/-- What waits to be sent: buffers 0 to 2, 3 the station queue's head, 4 the BARRIER frame. -/
def State.txWaiting (s : State) (l : Lane) : List (Nat × Nat) :=
  let c := s.cbus.get l
  ((List.range 3).filterMap fun n => if s.txSt l n = 1 then some ((s.txFrame l n).arb, n) else none) ++
    (match c.staq with
      | x :: _ => [(x.2.arb, 3)]
      | [] => []) ++
    (match c.bar with
      | some (f, false) => [(f.arb, 4)]
      | _ => [])

/-- The frame that goes first: by identifier, or with MODE 1 by buffer number; the BARRIER frame first. -/
def firstOf (mode : Nat) : List (Nat × Nat) → Option Nat
  | [] => none
  | (a, n) :: l =>
    if mode = 1 then (if n = 4 then some 4 else match firstOf 1 l with
      | some 4 => some 4
      | _ => some n)
    else some ((l.foldl (fun (m : Nat × Nat) x => if x.1 < m.1 then x else m) (a, n)).2)

/-- A free bus takes the next frame of the controller that holds the transmit role. -/
def State.txKick (s : State) (l : Lane) : State :=
  let c := s.cbus.get l
  if !s.getB l F.CBUS_STAT_TX_ROLE || !s.getB l F.CBUS_STAT_ON || s.get l F.CBUS_STAT_FSTATE == 2 ||
      !s.getB l F.CBUS_CTRL_ENABLE || c.sending.isSome || (s.cbus.get l.other).sending.isSome then s
  else
    match firstOf (s.get l F.CBUS_TXCFG_MODE) (s.txWaiting l) with
    | none => s
    | some n =>
      let s := s.mapCbus l fun c => { c with sending := some n }
      (if n < 3 then s.setTx l n 2 else s).put l F.CBUS_STAT_IDLE 0

/-! ### Barriers (R398) -/

/-- The 64-bit member mask and SEEN. -/
def State.barMask (s : State) (l : Lane) : Nat := s.get64 l F.CBUS_BAR_MASK_MASK_LO
def State.barSeen (s : State) (l : Lane) : Nat := s.get64 l F.CBUS_BAR_SEEN_SEEN_LO

/-- The barrier is done once every mask bit is seen. -/
def State.barDone (s : State) (l : Lane) : State :=
  let m := s.barMask l
  if s.getB l F.CBUS_BAR_BUSY ∧ Nat.land (s.barSeen l) m = m then
    let us := (s.up - ((s.cbus.get l).arrived.getD s.up)) / 1000
    let s := ((s.put l F.CBUS_BAR_BUSY 0).put l F.CBUS_BAR_DONE 1).put l F.CBUS_BAR_T_T_US us
    (s.mapCbus l fun c => { c with arrived := none }).evL l 0x1308 0
      (leBytes 2 (s.get l F.CBUS_BAR_NUM) ++ leBytes 4 us)
  else s

/-- A member is seen. -/
def State.barSee (s : State) (l : Lane) (num node : Nat) : State :=
  if s.get l F.CBUS_BAR_NUM = num then
    (s.put64 l F.CBUS_BAR_SEEN_SEEN_LO (putBit (s.barSeen l) node true)).barDone l
  else s

/-! ### Shadowing (R395) -/

/-- The log of a lane without the frames older than SHADOW_US. -/
def State.shadowLog (s : State) (l : Lane) : List (CanFrame × Nat × Nat) :=
  (s.cbus.get l).log.filter fun x => decide (s.up ≤ x.2.1 + 1000 * s.get l F.CBUS_TXCFG_SHADOW_US)

/-- A matched buffer: MATCHED, with the frame's SOF time where it asked for one. -/
def State.matched (s : State) (l : Lane) (n sof : Nat) : State :=
  let s := s.setTx l n 6
  if s.getB l (F.CBUS_TXn_CTRL_TS_REQ n) then s.tsqPush l true (s.get l (F.CBUS_TXn_CTRL_TAG n)) sof else s

/-- A frame with SRC = CBUS_NODE is heard by the lane without the transmit role. -/
def State.shadowHear (s : State) (l : Lane) (f : CanFrame) (sof : Nat) : State :=
  let s := s.mapCbus l fun c => { c with log := s.shadowLog l ++ [(f, s.up, sof)] }
  let s := (List.range 3).foldl (fun s n => if s.txSt l n = 5 ∧ (s.txFrame l n).same f then s.matched l n sof else s) s
  if f.ide && f.type == 0x08 then
    (s.mapCbus l fun c => { c with bar := c.bar.filter fun b => !(b.2 && b.1.id == f.id) }).barSee l f.rem f.src
  else s

/-! ### Requests (R381, R384, R385) -/

/-- The checks of a request to send buffer `n`. -/
def txChecks (s : State) (l : Lane) (n : Nat) : List Chk :=
  let f := s.txFrame l n
  let st := s.txSt l n
  [(.rights, f.ide && (f.type == 0x08 || f.type == 0x10 || f.type == 0x11)),
   (.busy, st == 1 || st == 2 || st == 5),
   (.value, if f.ide then f.src != s.get l F.CBUS_NODE_NODE || reservedType f.type ||
      (decide (0x40 ≤ f.type) && decide (f.type ≤ 0xBF) && decide (f.prio < 4)) else reservedStd f.std),
   (.value, !f.fdf && decide (8 < f.dlc))]

/-- A request is queued, or shadowed in the lane without the transmit role. -/
def State.txRequest (s : State) (l : Lane) (n : Nat) : State :=
  let s := s.mapCbus l fun c => { c with since := c.since.set n s.up, cancel := c.cancel.set n false }
  if s.getB l F.CBUS_STAT_TX_ROLE then (s.setTx l n 1).txKick l
  else match (s.shadowLog l).find? fun x => x.1.same (s.txFrame l n) with
    | some x => s.matched l n x.2.2
    | none => s.setTx l n 5

/-- A cancel: a buffer not yet started is cancelled at once, one being sent after its attempt. -/
def State.txCancel (s : State) (l : Lane) (n : Nat) : State :=
  let st := s.txSt l n
  if st = 1 ∨ st = 5 then s.setTx l n 4
  else if st = 2 then s.mapCbus l fun c => { c with cancel := c.cancel.set n true }
  else s

/-- A write of CBUS_TXREQ: REQ in bits 2 to 0, CAN in bits 18 to 16. -/
def cbusTxreqWrite (s : State) (r : Req) (v : Word) : Nat × State :=
  let req := (List.range 3).filter (bitAt (getBits v 2 0))
  let can := (List.range 3).filter (bitAt (getBits v 18 16))
  s.access r Pg.CBUS 0x05C (req.flatMap (txChecks s r.lane)) fun s =>
    let s := can.foldl (fun s n => s.txCancel r.lane n) s
    req.foldl (fun s n => s.txRequest r.lane n) s

def execCbusTxreq (r : Req) (n : Nat) (s : State) : Out := s.answered (cbusTxreqWrite s r (BitVec.ofNat 32 (2 ^ (n % 3))))
def execCbusTxCancel (r : Req) (n : Nat) (s : State) : Out :=
  s.answered (cbusTxreqWrite s r (BitVec.ofNat 32 (2 ^ (16 + n % 3))))

/-- Is a register part of a transmit buffer whose state refuses a write (R384)? -/
def txBufBusy (s : State) (l : Lane) (off : Nat) : Bool :=
  decide (0x100 ≤ off) && decide (off < 0x280) &&
    (let st := s.txSt l ((off - 0x100) / 0x80)
     st == 1 || st == 2 || st == 5)

/-! ### Error confinement (R391) -/

/-- The error state of the counters: 0 active, 1 passive, 2 bus-off. -/
def errState (tec rx : Nat) : Nat := if 255 < tec then 2 else if 127 < tec ∨ 127 < rx then 1 else 0

/-- The counters show in the registers, with the events of R391; bus-off starts its recovery where AUTO_REC asks for it. -/
def State.setErr (s : State) (l : Lane) (tec rx : Nat) : State :=
  let c := s.cbus.get l
  let old := s.get l F.CBUS_STAT_FSTATE
  let now := errState tec rx
  let warned := decide (96 ≤ c.tec) || decide (96 ≤ c.rxErr)
  let warn := decide (96 ≤ tec) || decide (96 ≤ rx)
  let s := s.mapCbus l fun c => { c with tec := tec, rxErr := rx }
  let s := ((s.put l F.CBUS_ERR_TEC (min 255 tec)).put l F.CBUS_ERR_REC (rx % 128)).put l F.CBUS_ERR_REC_P (b2n (decide (128 ≤ rx)))
  let s := (s.put l F.CBUS_STAT_WARN (b2n warn)).put l F.CBUS_STAT_FSTATE now
  let s := if warn && !warned then s.evL l 0x130E else s
  let s := if now = old then s else s.evL l 0x1301 0 [old, now, min 255 tec, min 255 rx]
  if now = 2 ∧ old ≠ 2 then
    (s.put l F.CBUS_STAT_BO_RECOVERING (s.get l F.CBUS_CTRL_AUTO_REC)).evL l 0x1302
  else s

/-! ### The end of an attempt (R384 to R387) -/

/-- The frame of an attempt. -/
def State.sentFrame (s : State) (l : Lane) (n : Nat) : Option CanFrame :=
  let c := s.cbus.get l
  if n < 3 then some (s.txFrame l n) else if n = 3 then c.staq.head?.map (·.2) else c.bar.map (·.1)

/-- A frame has been sent: its source is done, the other lane hears it, a timestamp is kept, TEC falls. -/
def State.sentOk (s : State) (l : Lane) (n sof : Nat) : State :=
  match s.sentFrame l n with
  | none => s
  | some f =>
    let s := (s.bump l F.CBUS_CNT_TX).setErr l ((s.cbus.get l).tec - 1) (s.cbus.get l).rxErr
    let s := if n < 3 then
        (let s := s.setTx l n 3
         if s.getB l (F.CBUS_TXn_CTRL_TS_REQ n) then s.tsqPush l true (s.get l (F.CBUS_TXn_CTRL_TAG n)) sof else s)
      else if n = 3 then (s.mapCbus l fun c => { c with staq := c.staq.drop 1 }).showStaq l
      else (s.mapCbus l fun c => { c with bar := none }).barSee l f.rem f.src
    s.shadowHear l.other f sof

/-- An attempt ends: `outcome` 0 success, 1 lost arbitration, 2 an error; `sof` is the time counter at the SOF. -/
def cbusTxDone (s : State) (l : Lane) (outcome sof : Nat) : State :=
  match (s.cbus.get l).sending with
  | none => s
  | some n =>
    let stop := (s.cbus.get l).cancel.getD n false
    let s := (s.mapCbus l fun c => { c with sending := none, cancel := c.cancel.set n false }).put l F.CBUS_STAT_IDLE 1
    let s := if outcome = 0 then s.sentOk l n sof
      else if n < 3 then s.setTx l n (if stop || !s.getB l F.CBUS_STAT_TX_ROLE then 4 else 1) else s
    (s.txKick l).txKick l.other

def execCbusTxDone (l : Lane) (outcome sof : Nat) (s : State) : Out := s.fin (cbusTxDone s l outcome sof)

/-! ### Station frames (R343, R386) -/

/-- A STATION_OUT frame enters the station queue of the lane with the transmit role, or is discarded at write. -/
def State.stationOut (s : State) (l : Lane) (node bits ctl : Nat) : State :=
  if !s.getB l F.CBUS_STAT_TX_ROLE then s
  else
    let f : CanFrame := { id := 2 ^ 31 + 2 * 2 ^ 26 + 0x10 * 2 ^ 18 + s.get l F.CBUS_NODE_NODE * 2 ^ 12 + node * 2 ^ 6
                          fdf := true, brs := s.getB l F.CBUS_FDCFG_BRS_EN, esi := false, dlc := 9
                          data := leBytes 8 bits ++ [ctl, 0, 0, 0] }
    let c := s.cbus.get l
    let hot := c.sending == some 3
    let fixed := if hot then c.staq.take 1 else []
    let rest := if hot then c.staq.drop 1 else c.staq
    let there := rest.any fun x => x.1 == node
    let q := fixed ++ (if there then rest.map fun x => if x.1 = node then (node, f) else x else rest ++ [(node, f)])
    let s := (s.mapCbus l fun c => { c with staq := q.take 16 }).showStaq l
    let s := if there then (s.bumpSat l F.CBUS_STAQ_OVERTAKEN).evL l 0x130C node [node] else s
    s.txKick l

/-- The stations of a lane's loaded program with their numbers. -/
def State.stations (s : State) (l : Lane) : List (Nat × TallySta) :=
  match (s.tally.get l).prog with
  | some p => ((List.range 16).zip p.stations).filter fun x => x.2.on
  | none => []

/-- A station input frame: fresh when its ALIVE differs from that of the previous accepted frame (R343). -/
def stationIn (s : State) (l : Lane) (node alive bits : Nat) : State :=
  match (s.stations l).find? fun x => x.2.node == node with
  | none => s
  | some (k, _) =>
    let t := s.tally.get l
    let x := t.io.getD k ⟨none, none, 0, false, 0, 2, 0⟩
    let fresh := x.alive != some (alive % 16)
    let y := if fresh then { x with
        alive := some (alive % 16), seen := some s.up, bits := bits % 2 ^ 64, since := true } else x
    { s with tally := s.tally.set l { t with io := t.io.set k y } }

def execStationInRx (l : Lane) (node alive bits : Nat) (s : State) : Out := s.fin (stationIn s l node alive bits)

/-! ### Reception (R388 to R390, R397) -/

/-- A frame enters the FIFO, or is dropped at a full one. -/
def State.fifoPush (s : State) (l : Lane) (x : CanRx) : State :=
  if (s.cbus.get l).fifo.length < 16 then (s.mapCbus l fun c => { c with fifo := c.fifo ++ [x] }).showFifo l
  else
    let first := s.get l F.CBUS_RXLOST_FIFO == 0
    let s := s.bumpSat l F.CBUS_RXLOST_FIFO
    if first then s.evL l 0x1304 else s

/-- A frame enters dedicated buffer `k`, or its pending register while the buffer is locked. -/
def State.rxBuf (s : State) (l : Lane) (k : Nat) (x : CanRx) : State :=
  let c := s.cbus.get l
  if (c.locked.getD k none).isNone then s.wrWords l Pg.CBUS (0x300 + 0x80 * k) (rxWords x true)
  else
    let over2 := (c.waiting.getD k none).isSome
    let s := (s.mapCbus l fun c => { c with waiting := c.waiting.set k (some x) }).showRx l
    if over2 then (s.bumpSat l F.CBUS_RXLOST_OVW).evL l 0x1305 0 [k] else s

/-- A frame meets the filters in index order. -/
def State.filterRx (s : State) (l : Lane) (f : CanFrame) (ts : Nat) : State :=
  let hit := (List.range 32).find? fun k =>
    s.getB l (F.CBUS_FLT_CFG_EN k) && s.getB l (F.CBUS_FLT_ID_IDE k) == f.ide &&
      Nat.land (Nat.xor f.ident (s.get l (F.CBUS_FLT_ID_ID k))) (s.get l (F.CBUS_FLT_MASK_MASK k)) == 0
  match hit with
  | some k =>
    let d := s.get l (F.CBUS_FLT_CFG_DEST k)
    if d = 0 then s
    else if d = 1 then s.fifoPush l ⟨f, k, ts⟩
    else s.rxBuf l (d - 2) ⟨f, k, ts⟩
  | none => if s.getB l F.CBUS_RXCFG_ACC_ALL then s.fifoPush l ⟨f, 0xFFFF, ts⟩ else s

/-- A disturbance is counted, with its event at most once a minute for each kind and lane. -/
def State.stranger (s : State) (l : Lane) (c : Bool) (cnt : Fld) (kind code : Nat) (data : List Nat) : State :=
  if c then
    let s := s.bumpSat l cnt
    let key := code + 0x10000 * kind + 0x100000 * l.idx
    if s.minuteOver key then (s.mark key).evL l code 0 data else s
  else s

/-- What a frame shows of foreign nodes (R397). -/
def State.strangers (s : State) (l : Lane) (f : CanFrame) : State :=
  let s := s.stranger l (!f.ide && reservedStd f.std) F.CBUS_STR_RES11 1 0x1309 (leBytes 4 f.id)
  let s := s.stranger l (f.ide && (reservedType f.type || (decide (f.prio < 4) && f.type != [0x01, 0x08, 0x10, 0x11].getD f.prio 0)))
    F.CBUS_STR_RESTYPE 2 0x1309 (leBytes 4 f.id)
  s.stranger l (f.ide && f.src == s.get l F.CBUS_NODE_NODE) F.CBUS_STR_CLASH 3 0x130A (leBytes 4 f.id)

/-- A frame that passes its CRC reaches a lane's controller. `ts` is the time counter at its SOF edge. -/
def cbusFrameRx (s : State) (l : Lane) (f : CanFrame) (ts : Nat) : State :=
  if !s.getB l F.CBUS_STAT_ON || !s.getB l F.CBUS_CTRL_ENABLE then s
  else
    let s := (s.bump l F.CBUS_CNT_RX).strangers l f
    let own := f.ide && f.src == s.get l F.CBUS_NODE_NODE
    let s := if own && !s.getB l F.CBUS_STAT_TX_ROLE then s.shadowHear l f ts else s
    let c := s.cbus.get l
    let s := s.setErr l c.tec (if 127 < c.rxErr then 127 else c.rxErr - 1)
    let s := if f.ide && f.type == 0x08 then s.barSee l f.rem f.src else s
    let station := f.ide && f.type == 0x11 && (s.stations l).any fun x => x.2.node == f.src
    let s := if station then stationIn s l f.src (leAt f.data 8 1) (leAt f.data 0 8) else s
    if station && !s.getB l F.CBUS_RXCFG_STA_COPY then s else s.filterRx l f ts

def execCbusFrameRx (l : Lane) (f : CanFrame) (ts : Nat) (s : State) : Out := s.fin (cbusFrameRx s l f ts)

/-- A read of the FIFO window's last word pops the head (R389). -/
def fifoPop (s : State) (l : Lane) : Nat × State :=
  ((s.rd l Pg.CBUS 0x2C8).toNat, (s.mapCbus l fun c => { c with fifo := c.fifo.drop 1 }).showFifo l)

def execCbusFifoPop (r : Req) (s : State) : Out := s.readBy r Pg.CBUS 0x2C8 (fifoPop s r.lane)

/-- A read of a dedicated buffer's ID word locks it (R390). -/
def rxLock (s : State) (l : Lane) (k : Nat) : Nat × State :=
  ((s.rd l Pg.CBUS (0x300 + 0x80 * k)).toNat,
    (s.mapCbus l fun c => { c with locked := c.locked.set k (some ((c.locked.getD k none).getD s.up)) }).showRx l)

def execCbusRxbufLock (r : Req) (k : Nat) (s : State) : Out := s.readBy r Pg.CBUS (0x300 + k % 2 * 0x80) (rxLock s r.lane (k % 2))

/-- A dedicated buffer is released: it counts as read, and a pending frame moves in. -/
def State.rxFree (s : State) (l : Lane) (k : Nat) : State :=
  let c := s.cbus.get l
  let ctrl : Fld := ⟨Pg.CBUS, 0x304 + 0x80 * k, 8, 8⟩
  let s := (s.mapCbus l fun c => { c with locked := c.locked.set k none, waiting := c.waiting.set k none }).put l ctrl 0
  (match c.waiting.getD k none with
    | some x => s.wrWords l Pg.CBUS (0x300 + 0x80 * k) (rxWords x true)
    | none => s).showRx l

/-- A read of a dedicated buffer's DATA15 releases it. -/
def rxRelease (s : State) (l : Lane) (k : Nat) : Nat × State :=
  ((s.rd l Pg.CBUS (0x348 + 0x80 * k)).toNat, s.rxFree l k)

def execCbusRxbufRelease (r : Req) (k : Nat) (s : State) : Out := s.readBy r Pg.CBUS (0x348 + k % 2 * 0x80) (rxRelease s r.lane (k % 2))

/-- A lock not released within 1 ms is released by the module. -/
def rxLockTimeout (s : State) (l : Lane) (k : Nat) : State :=
  match (s.cbus.get l).locked.getD k none with
  | none => s
  | some t => ((s.runTo (t + 1000000)).rxFree l k).evL l 0x130D 0 [k]

def execCbusRxbufLockTimeout (l : Lane) (k : Nat) (s : State) : Out := s.fin (rxLockTimeout s l (k % 2))

/-- CBUS_RXLOST is returned and cleared. -/
def rxlostRead (s : State) (l : Lane) : Nat × State := ((s.rd l Pg.CBUS 0x08C).toNat, s.wr l Pg.CBUS 0x08C 0)

def execCbusRxlostRead (r : Req) (s : State) : Out := s.readBy r Pg.CBUS 0x08C (rxlostRead s r.lane)

/-- CBUS_ERR is returned; its last error codes are cleared. -/
def cbusErrRead (s : State) (l : Lane) : Nat × State :=
  ((s.rd l Pg.CBUS 0x050).toNat, (s.put l F.CBUS_ERR_DLEC 0).put l F.CBUS_ERR_LEC 0)

def execCbusErrRead (r : Req) (s : State) : Out := s.readBy r Pg.CBUS 0x050 (cbusErrRead s r.lane)

/-! ### Errors and recovery (R391 to R393) -/

/-- A bus error: `tx` as transmitter, `fd` in the data phase, `code` as LEC gives it, `heavy` for the errors that count 8
in REC. The lane without the transmit role keeps its counters at 0. -/
def cbusError (s : State) (l : Lane) (tx fd heavy : Bool) (code : Nat) : State :=
  let s := s.put l (if fd then F.CBUS_ERR_DLEC else F.CBUS_ERR_LEC) code
  if !s.getB l F.CBUS_STAT_TX_ROLE || s.get l F.CBUS_STAT_FSTATE == 2 then s
  else
    let c := s.cbus.get l
    if tx then (if s.get l F.CBUS_STAT_FSTATE = 1 ∧ code = 3 then s else s.setErr l (c.tec + 8) c.rxErr)
    else s.setErr l c.tec (min 255 (c.rxErr + if heavy then 8 else 1))

def execCbusError (l : Lane) (tx fd heavy : Bool) (code : Nat) (s : State) : Out :=
  s.fin (cbusError s l tx fd heavy (code % 7))

/-- CBUS_CTRL.BO_REC starts the recovery of a bus-off controller. -/
def boRec (s : State) (r : Req) : Nat × State :=
  s.access r Pg.CBUS 0x008 [] fun s =>
    if s.get r.lane F.CBUS_STAT_FSTATE = 2 then s.put r.lane F.CBUS_STAT_BO_RECOVERING 1 else s

def execBoRec (r : Req) (s : State) : Out := s.answered (boRec s r)

/-- The recovery ends: error active with both counters at 0; pending frames go out. -/
def busoffRecovered (s : State) (l : Lane) : State :=
  if s.get l F.CBUS_STAT_FSTATE = 2 ∧ s.getB l F.CBUS_STAT_BO_RECOVERING then
    (((s.put l F.CBUS_STAT_BO_RECOVERING 0).setErr l 0 0).evL l 0x1303).txKick l
  else s

def execCbusBusoffRecovered (l : Lane) (s : State) : Out := s.fin (busoffRecovered s l)

/-- A driver that held the pair dominant for more than 50 µs is released. -/
def execDominantTimeout (l : Lane) (s : State) : Out := s.fin (s.evL l 0x130B)

/-- A HELD request unmatched after SHADOW_US is dropped (R395). -/
def shadowDrop (s : State) (l : Lane) (n : Nat) : State :=
  if s.txSt l n = 5 then
    let s := s.runTo ((s.cbus.get l).since.getD n 0 + 1000 * s.get l F.CBUS_TXCFG_SHADOW_US)
    (s.setTx l n 7).evL l 0x1306 0 (n :: leBytes 4 (s.txFrame l n).id)
  else s

def execShadowDrop (l : Lane) (n : Nat) (s : State) : Out := s.fin (shadowDrop s l (n % 3))

/-- A controller joins the bus after 11 recessive bits, once a lane runs its firmware (R399). -/
def busIntegration (s : State) (l : Lane) : State :=
  if s.laneState l < 2 ∨ s.mode = St.LULL ∨ s.mode = St.SHUTDOWN ∨ !s.getB l F.CBUS_CTRL_ENABLE then s
  else ((s.put l F.CBUS_STAT_ON 1).put l F.CBUS_STAT_IDLE 1).txKick l

def execCbusBusIntegration (l : Lane) (s : State) : Out := s.fin (busIntegration s l)

/-! ### Barrier commands (R398) -/

/-- The module's BARRIER frame. -/
def State.barFrame (s : State) (l : Lane) : CanFrame :=
  { id := 2 ^ 31 + 2 ^ 26 + 0x08 * 2 ^ 18 + s.get l F.CBUS_NODE_NODE * 2 ^ 12 + s.get l F.CBUS_BAR_NUM, fdf := true
    brs := s.getB l F.CBUS_FDCFG_BRS_EN, esi := false, dlc := 8, data := leBytes 4 s.snapEpoch ++ [0, 0, 0, 0] }

/-- The module arrives: BUSY, and its frame is sent or shadowed. -/
def State.barArrive (s : State) (l : Lane) : State :=
  let f := s.barFrame l
  let s := ((s.put l F.CBUS_BAR_BUSY 1).put l F.CBUS_BAR_DONE 0).mapCbus l fun c => { c with arrived := some s.up }
  if s.getB l F.CBUS_STAT_TX_ROLE then (s.mapCbus l fun c => { c with bar := some (f, false) }).txKick l
  else if (s.shadowLog l).any fun x => x.1.id == f.id then s.barSee l f.rem f.src
  else s.mapCbus l fun c => { c with bar := some (f, true) }

/-- A write of CBUS_BAR. -/
def cbusBarWrite (s : State) (r : Req) (v : Word) : Nat × State :=
  let l := r.lane
  let arrive := getBits v 31 31 == 1
  let busy := s.getB l F.CBUS_BAR_BUSY
  s.access r Pg.CBUS 0x070
    [(.state, arrive && !bitAt (s.barMask l) (s.get l F.CBUS_NODE_NODE)),
     (.busy, busy && (arrive || getBits v 11 0 != s.get l F.CBUS_BAR_NUM)), (.value, getBits v 28 16 == 0)] fun s =>
    let s := (s.put l F.CBUS_BAR_TO_MS (getBits v 28 16)).put l F.CBUS_BAR_NUM (getBits v 11 0)
    if arrive then s.barArrive l else s

def execArrive (r : Req) (v : Word) (s : State) : Out := s.answered (cbusBarWrite s r (setBits v 31 31 1))

/-- A write of CBUS_BAR_MASK commits the mask; SEEN counts from then on. -/
def cbusMaskWrite (s : State) (r : Req) (lo : Word) : Nat × State :=
  let l := r.lane
  let hi := s.stagedWord r Pg.CBUS 0x078
  let x := s.access r Pg.CBUS 0x074 [(.busy, s.getB l F.CBUS_BAR_BUSY)] fun s =>
    ((s.put64 l F.CBUS_BAR_MASK_MASK_LO (lo.toNat + 2 ^ 32 * hi)).put64 l F.CBUS_BAR_SEEN_SEEN_LO 0).put l F.CBUS_BAR_DONE 0
  (x.1, x.2.unstage r Pg.CBUS [0x078])

/-- A barrier not done within TO_MS reports the missing members. -/
def barrierTimeout (s : State) (l : Lane) : State :=
  match (s.cbus.get l).arrived with
  | none => s
  | some t =>
    let s := s.runTo (t + 1000000 * s.get l F.CBUS_BAR_TO_MS)
    let m := s.barMask l
    let missing := Nat.xor m (Nat.land m (s.barSeen l))
    let s := (s.put l F.CBUS_BAR_BUSY 0).mapCbus l fun c => { c with arrived := none }
    s.evL l 0x1308 0 (leBytes 2 (s.get l F.CBUS_BAR_NUM) ++ leBytes 4 ((s.up - t) / 1000) ++ leBytes 8 missing)

def execBarrierTimeout (l : Lane) (s : State) : Out := s.fin (barrierTimeout s l)

/-! ### Bit timing (R378) -/

/-- A write of CBUS_NBT or CBUS_DBT: the rates, sample points and relations of R378. -/
def cbusTimingWrite (s : State) (r : Req) (off : Nat) (v : Word) : Nat × State :=
  let n := if off = 0x044 then v else s.rd r.lane Pg.CBUS 0x044
  let d := if off = 0x044 then s.rd r.lane Pg.CBUS 0x048 else v
  let nbit := (getBits n 31 28 + 1) * (1 + getBits n 27 21 + getBits n 20 14 + getBits n 13 7)
  let dbit := (getBits d 31 28 + 1) * (1 + getBits d 27 23 + getBits d 22 18 + getBits d 17 13)
  let bad := if off = 0x044 then nbit != 160 && nbit != 80 || decide (getBits n 13 7 < 2) ||
      decide (min (getBits n 20 14) (getBits n 13 7) < getBits n 6 0)
    else (dbit != 40 && dbit != 20 && dbit != 10) || getBits d 31 28 != getBits n 31 28 || decide (getBits d 17 13 < 2) ||
      decide (min (getBits d 22 18) (getBits d 17 13) < getBits d 12 8) || (getBits d 7 7 == 0 && dbit != 40)
  s.access r Pg.CBUS off ((.value, bad) :: regChecks s r false Pg.CBUS off v) fun s => s.store r Pg.CBUS off v

/-! ### The transmit role (R394, R396) -/

/-- A lane's controller loses the role: what has not begun is cancelled; its counters stand at 0. `cut`: its transmitter is
disabled, so that a running attempt ends too. -/
def State.roleLost (s : State) (l : Lane) (cut : Bool) : State :=
  if !s.getB l F.CBUS_STAT_TX_ROLE then s
  else
    let hot := (s.cbus.get l).sending == some 3 && !cut
    let s := s.put l F.CBUS_STAT_TX_ROLE 0
    let s := (List.range 3).foldl (fun s n =>
      if s.txSt l n = 1 ∨ (cut ∧ s.txSt l n = 2) then s.setTx l n 4 else s) s
    let s := s.mapCbus l fun c => { c with
      staq := if hot then c.staq.take 1 else [], bar := if c.sending == some 4 && !cut then c.bar else none
      tec := 0, rxErr := 0, sending := if cut then none else c.sending }
    let s := ((s.put l F.CBUS_ERR_TEC 0).put l F.CBUS_ERR_REC 0).put l F.CBUS_ERR_REC_P 0
    ((s.put l F.CBUS_STAT_WARN 0).put l F.CBUS_STAT_FSTATE 0).showStaq l

/-- A lane's controller takes the role: its held buffers become pending. -/
def State.roleTaken (s : State) (l : Lane) : State :=
  if s.getB l F.CBUS_STAT_TX_ROLE then s
  else
    let s := s.put l F.CBUS_STAT_TX_ROLE 1
    let s := (List.range 3).foldl (fun s n => if s.txSt l n = 5 then s.setTx l n 1 else s) s
    (s.mapCbus l fun c => { c with bar := c.bar.map fun b => (b.1, false), log := [] }).txKick l

/-- The role moves to a lane, or to none, with event 0x1307 in both lanes. -/
def State.moveRole (s : State) (taker : Option Lane) (cut : Bool) : State :=
  let had (l : Lane) : Bool := s.getB l F.CBUS_STAT_TX_ROLE
  let want (l : Lane) : Bool := taker == some l
  if had .a == want .a && had .b == want .b then s
  else
    let s := lanes.foldl (fun s l => if want l then s else s.roleLost l cut) s
    let s := lanes.foldl (fun s l => if want l then s.roleTaken l else s) s
    s.ev 0x1307

end Sys2Proof.Machine
end

