-- ==== Sys2Proof/Machine/Tally.lean ====
section
/-! DEFINITION. Tally (R331 to R353): its inputs, its instructions, the cycle, stations, program load and states; and the
output arbiter's permissives and thermal enables (R18, R331, R363). -/

namespace Sys2Proof.Machine

open Sys2Proof

/-- A lane's Tally, changed. -/
def State.mapTally (s : State) (l : Lane) (f : Tally → Tally) : State := { s with tally := s.tally.set l (f (s.tally.get l)) }

/-! ### The output arbiter (R18, R101, R331, R363) -/

/-- The permissives and the thermal enables follow the lane in authority, or both lanes during a merge. In CONFIG, before
the first OPERATE and without an owner the permissives are withheld; without an owner the enables stay. -/
def State.arbitrate (s : State) : State :=
  let q (l : Lane) : Nat := s.get l F.TALLY_Q_Q
  match s.auth with
  | none => { s with safe := { s.safe with main := false, aux := false } }
  | some l =>
    let both := s.gb F.LANE_AUTH_MERGE
    let grant (k : Nat) : Bool := if both then bitAt (q .a) k && bitAt (q .b) k else bitAt (q l) k
    let held := s.mode == St.CONFIG || !s.lane.operated
    { s with
      safe := { s.safe with main := grant 0 && !held, aux := grant 1 && !held }
      link := { s.link with enables := if both then Nat.lor (q .a) (q .b) else q l } }

/-! ### Comparison of the lanes (R371) -/

/-- One lane is in AUTHORITY and the other in STANDBY, with no merge and no sync. -/
def State.compared (s : State) : Bool :=
  (match s.auth with
    | some l => s.laneState l == 5 && s.laneState l.other == 4
    | none => false) && s.lane.merge.isNone && s.lane.sync.isNone

/-- A difference of kind `k` (0 EST, 1 TALLY, 2 CLE) in the running epoch. -/
def State.diverge (s : State) (differ : Bool) (k : Nat) : State :=
  if differ && s.compared then { s with lane := { s.lane with divKinds := putBit s.lane.divKinds k true } } else s

/-! ### Tally states (R347) -/

/-- A change of TALLY_STAT.STATE: 0 STOP, 1 RUN_PEND, 2 RUN, 3 SUSPENDED. In STOP and SUSPENDED the outputs are 0. -/
def State.tallyTo (s : State) (l : Lane) (st : Nat) : State :=
  let old := s.get l F.TALLY_STAT_STATE
  if old = st then s
  else
    let s := (s.put l F.TALLY_STAT_STATE st).evL l 0x1101 0 [old, st]
    if st = 0 ∨ st = 3 then (s.put l F.TALLY_Q_Q 0).arbitrate else s

/-- The distance from one sequence number to another, modulo 2³² (R309). -/
def seqDist (a b : Nat) : Nat := (b + 2 ^ 32 - a % 2 ^ 32) % 2 ^ 32

/-- The order that would execute next is held in another state than OPERATE (R319). -/
def Orders.markHeld (o : Orders) : Orders :=
  { o with flight := o.flight.map fun e => if e.unit.seq = o.front then { e with held := true } else e }

/-- A change of SYS_STATE.STATE with its effect on both lanes' Tally, on the permissives and on the order that executes
next. -/
def State.changeMode (s : State) (m : Nat) : State :=
  let still (x : Nat) : Bool := x == St.LULL || x == St.SHUTDOWN || x == St.BOOT
  let left := still s.mode && !still m
  let s := s.setMode m
  let s := { s with lane := { s.lane with operated := s.lane.operated || m == St.OPERATE } }
  let s := lanes.foldl (fun s l =>
    let s := if left then s.mapTally l fun t => { t with left := some s.sampleEpoch } else s
    if still m && s.get l F.TALLY_STAT_STATE == 2 then s.tallyTo l 3 else s) s
  let s := if m = St.OPERATE then s else { s with orders := s.orders.markHeld }
  s.arbitrate

/-- Has the sample instant of an epoch, by its low 32 bits, passed? -/
def State.epochPassed (s : State) (ep : Nat) : Bool := decide ((s.sampleEpoch + 2 ^ 32 - ep % 2 ^ 32) % 2 ^ 32 < 2 ^ 31)

/-- Entry to RUN: timers idle, edges and counter inputs to be primed, markers and counts kept; no station has sent a fresh
frame yet (R344, R347, R349). -/
def State.tallyRun (s : State) (l : Lane) : State :=
  let s := s.tallyTo l 2
  (s.mapTally l fun t => { t with
    timers := [], edges := [], counters := t.counters.map fun x => (x.1, { x.2 with mem := none }), first := true, skip := none
    io := t.io.map fun x => { x with since := false, absent := 256, phase := 0 } }).put l F.TALLY_CYC_CYC 0

/-! ### Inputs (R333, R334) -/

/-- A channel flag by its map word: STATUS of the entry in the lane's table. -/
def State.tallyFlag (s : State) (l : Lane) (w : Nat) : Bool :=
  let a := s.entryAddr l (w % 2 ^ 14)
  let sel := w / 2 ^ 16 % 32
  let m := s.dram.get l
  bitAt w 31 && bitAt (memWord m a) 23 &&
    (let st := memWord m (a + 0x38)
     if sel < 3 then bitAt st sel else bitAt (st / 2 ^ 8) (sel - 8))

/-- A list of bits as a number, bit 0 first. -/
def ofBits : List Bool → Nat
  | [] => 0
  | b :: l => b2n b + 2 * ofBits l

/-- The channel flags, and above them the epoch inputs by their index of R333, as the EST and the CLE now give them. -/
def State.tallyEpoch (s : State) (l : Lane) : Nat :=
  let map := match (s.tally.get l).prog with
    | some p => p.cmap
    | none => []
  ofBits ((List.range 256).map fun j => s.tallyFlag l (map.getD j 0)) +
    2 ^ 256 * (2 ^ 56 * s.get l F.EST_STAT_UNCERTAIN_ANY + 2 ^ 57 * s.get l F.EST_STAT_DISAGREE_ANY +
      2 ^ 58 * s.get l F.EST_STAT_SUSPECT_ANY + 2 ^ 59 * s.get l F.EST_STAT_DERATED +
      2 ^ 62 * s.get l (F.CLE_Lk_STAT_PLAUS 0) + 2 ^ 63 * s.get l (F.CLE_Lk_STAT_FORCED_ZERO 0))

/-- What the EST wrote for an epoch waits until t_n + 3.0 ms and the shift of R121. -/
def State.tallyCapture (s : State) (l : Lane) (t : Nat) : State :=
  let due := t + 3000000 + 46500 * (max s.chain.mE s.chain.mW - 20)
  s.mapTally l fun y => { y with epNext := y.epNext ++ [(due, s.tallyEpoch l)] }

/-- A cycle that starts at `t` takes over the latest epoch whose instant has come. -/
def Tally.takeEpoch (y : Tally) (t : Nat) : Tally :=
  let due := y.epNext.filter fun x => decide (x.1 ≤ t)
  { y with
    epIn := ((due.getLast?).map (·.2)).getD y.epIn
    epNext := y.epNext.filter fun x => decide (t < x.1) }

/-- A bit of SAFE_STAT as it reads. -/
def State.statBit (s : State) (k : Nat) : Bool := bitAt ((s.safeView 0x00C).getD 0) k

/-- The shared system inputs with indices below 64, and FIRST and ONE. -/
def State.sysInput (s : State) (l : Lane) (i : Nat) : Bool :=
  if i < 8 then bitAt (s.g F.SAFE_IN_FILT) i
  else if 16 ≤ i ∧ i ≤ 20 then bitAt (s.g F.SAFE_STATE_SF) (i - 16)
  else match i with
    | 8 => s.gb F.SAFE_IN_RESET
    | 21 => s.gb F.SAFE_LOCKOUT_LATCHED
    | 22 => s.statBit 1
    | 23 => s.g F.SAFE_STATE_SEQ == 0
    | 24 => s.g F.SAFE_STATE_SEQ == 4
    | 25 => s.gb F.SAFE_STAT_SF3_ARMED
    | 26 => s.statBit 6
    | 27 => s.statBit 7
    | 32 => s.getB l F.ORD_CONTACT_MAIN_REQ
    | 33 => s.getB l F.ORD_CONTACT_AUX_REQ
    | 34 => s.mode == St.OPERATE
    | 35 => s.inMotion
    | 36 => s.bo
    | 37 => s.throttled
    | 38 => s.g F.TIME_STAT_QUAL == 2
    | 40 => s.gb F.PROT_STAT_CLAMP_CHG
    | 41 => s.gb F.PROT_STAT_CLAMP_DIS
    | 42 => s.gb F.PROT_STAT_PLAUS_LIM
    | 43 => s.gb F.PROT_STAT_SQUALL
    | 48 => s.gb F.CHAIN_STAT_RING_CLOSED
    | 49 => s.gb F.CHAIN_STAT_COUNT_OK
    | 50 => s.gb F.CHAIN_MISS_MAP_LO || s.gb F.CHAIN_MISS_HI_MAP_HI
    | 51 => s.gb F.CHAIN_OW_OPEN_COUNT
    | 60 => s.gb F.CLINK_STAT_LOST
    | 61 => s.gb F.CLINK_STAT_CONV_FAULT
    | 64 => (s.tally.get l).first
    | 65 => true
    | _ => false

/-- Area I at a cycle start; reserved indices read 0. -/
def State.areaI (s : State) (l : Lane) : Nat :=
  let y := s.tally.get l
  let epoch (i : Nat) : Bool := i == 56 || i == 57 || i == 58 || i == 59 || i == 62 || i == 63
  ofBits (((List.range 96).map fun i => if epoch i then bitAt y.epIn (256 + i) else s.sysInput l i)) +
    2 ^ 96 * s.get l F.TALLY_UIN_UIN +
    2 ^ 128 * ofBits ((s.stations l).foldl (fun bs x =>
      ((bs.set (4 * x.1) ((y.io.map TallyIo.phase).getD x.1 3 == 0)).set (4 * x.1 + 1)
        ((y.io.map TallyIo.phase).getD x.1 3 == 1)).set (4 * x.1 + 2) ((y.io.map TallyIo.phase).getD x.1 3 == 2))
      (List.replicate 64 false))

/-- Area RI: the station's latest bits, or SAFE_IN while it is substituted. -/
def State.areaRi (s : State) (l : Lane) : Nat :=
  let y := s.tally.get l
  ((s.stations l).map fun x =>
    let io := y.io.getD x.1 ⟨none, none, 0, false, 0, 2, 0⟩
    2 ^ (64 * x.1) * (if io.phase = 2 then x.2.safeIn else io.bits)).sum

/-! ### Instructions (R332, R336, R338, R339) -/

/-- Tally while a program runs: the cycle's inputs and start, the accumulator, the block stack (AND: true), the areas
that the program writes, and its timers, edges and counters. -/
structure TallyVm where
  i : Nat
  c : Nat
  ri : Nat
  t : Nat
  acc : Bool
  stack : List (Bool × Bool)
  q : Nat
  rq : Nat
  m : Nat
  timers : List (Nat × TallyTimer)
  edges : List (Nat × Bool)
  counters : List (Nat × TallyCounter)
deriving DecidableEq, Repr

def TallyTimer.idle : TallyTimer := ⟨none, false, none⟩
def TallyCounter.zero : TallyCounter := ⟨0, none, false⟩

/-- A bit of the image. -/
def TallyVm.bit (v : TallyVm) (a : Nat) : Bool :=
  let k := a % 2 ^ 12
  match a / 2 ^ 12 with
  | 0 => bitAt v.i k
  | 1 => bitAt v.c k
  | 2 => bitAt v.ri k
  | 3 => bitAt v.q k
  | 4 => bitAt v.rq k
  | 5 => bitAt v.m k
  | 6 => (sget (fun _ => TallyTimer.idle) v.timers k).q
  | 7 => (sget (fun _ => TallyCounter.zero) v.counters k).out
  | _ => false

/-- A bit of a writable area is written. -/
def TallyVm.store (v : TallyVm) (a : Nat) (b : Bool) : TallyVm :=
  let k := a % 2 ^ 12
  match a / 2 ^ 12 with
  | 3 => { v with q := putBit v.q k b }
  | 4 => { v with rq := putBit v.rq k b }
  | 5 => { v with m := putBit v.m k b }
  | _ => v

/-- A timer instruction: 0x20 TON, 0x21 TOF, 0x22 TP. `ns` is its preset. -/
def TallyTimer.step (x : TallyTimer) (op : Nat) (input : Bool) (t ns : Nat) : TallyTimer :=
  let over2 (st : Nat) : Bool := decide (ns ≤ t - st)
  if op = 0x20 then
    (if input then (let st := x.start.getD t
                    { x with start := some st, q := over2 st })
     else { x with start := none, q := false })
  else if op = 0x21 then
    (if input then { x with start := none, q := true }
     else match x.start with
       | some st => if over2 st then { x with start := none, q := false } else x
       | none => if x.q then { x with start := some t } else x)
  else
    let rise := input && x.mem == some false
    let y := match x.start with
      | some st =>
        if over2 st then (if input then { x with q := false } else { x with q := false, start := none }) else x
      | none => if rise then { x with q := true, start := some t } else x
    { y with mem := some input }

/-- A function instruction on timers, edges or counters. -/
def TallyVm.func (v : TallyVm) (p : TallyProg) (op n : Nat) : TallyVm :=
  if op ≤ 0x22 then
    let x := (sget (fun _ => TallyTimer.idle) v.timers n).step op v.acc v.t (1000000 * p.tpre.getD n 0)
    { v with timers := sput (fun _ => TallyTimer.idle) v.timers n x, acc := x.q }
  else if op ≤ 0x29 then
    let m := (v.edges.find? fun x => x.1 == n).map (·.2)
    let out := match m with
      | none => false
      | some m => if op = 0x28 then v.acc && !m else !v.acc && m
    { v with edges := sins n v.acc (sdel n v.edges), acc := out }
  else
    let x := sget (fun _ => TallyCounter.zero) v.counters n
    let pre := p.cpre.getD n 0
    let rise := v.acc && x.mem == some false
    let put (y : TallyCounter) (a : Bool) : TallyVm :=
      { v with counters := sput (fun _ => TallyCounter.zero) v.counters n y, acc := a }
    if op = 0x30 then
      let k := if rise then satInc 0xFFFFFFFF x.count else x.count
      put ⟨k, some v.acc, decide (pre ≤ k)⟩ (decide (pre ≤ k))
    else if op = 0x31 then
      let k := if rise then x.count - 1 else x.count
      put ⟨k, some v.acc, k == 0⟩ (k == 0)
    else if v.acc then put { x with count := if op = 0x32 then 0 else pre } v.acc
    else v

/-- One instruction word, and whether and where it jumps (none ends the cycle). -/
def TallyVm.step (v : TallyVm) (p : TallyProg) (pc w : Nat) : TallyVm × Option Nat :=
  let op := w / 2 ^ 24
  let a := w % 2 ^ 16
  let go (v : TallyVm) : TallyVm × Option Nat := (v, some (pc + 1))
  match op with
  | 0x01 => go { v with acc := v.bit a }
  | 0x02 => go { v with acc := !v.bit a }
  | 0x03 => go { v with acc := v.acc && v.bit a }
  | 0x04 => go { v with acc := v.acc && !v.bit a }
  | 0x05 => go { v with acc := v.acc || v.bit a }
  | 0x06 => go { v with acc := v.acc || !v.bit a }
  | 0x07 => go { v with acc := v.acc != v.bit a }
  | 0x08 => go (v.store a v.acc)
  | 0x09 => go (v.store a (!v.acc))
  | 0x0A => go (if v.acc then v.store a true else v)
  | 0x0B => go (if v.acc then v.store a false else v)
  | 0x0C => go { v with acc := !v.acc }
  | 0x10 => go { v with stack := (v.acc, true) :: v.stack, acc := true }
  | 0x11 => go { v with stack := (v.acc, false) :: v.stack, acc := false }
  | 0x12 =>
    match v.stack with
    | (x, isAnd) :: l => go { v with stack := l, acc := if isAnd then x && v.acc else x || v.acc }
    | [] => go v
  | 0x18 => (v, some (a % 2 ^ 13))
  | 0x19 => (v, some (if v.acc then a % 2 ^ 13 else pc + 1))
  | 0x1A => (v, some (if v.acc then pc + 1 else a % 2 ^ 13))
  | 0x3F => (v, none)
  | _ => if 0x20 ≤ op then go (v.func p op a) else go v

/-- A program from instruction `pc` to END. Jumps go forward only, so `fuel` instructions suffice. -/
def TallyVm.run (p : TallyProg) : Nat → Nat → TallyVm → TallyVm
  | 0, _, v => v
  | n + 1, pc, v =>
    match v.step p pc (p.code.getD pc 0x3F000000) with
    | (v, some pc) => TallyVm.run p n pc v
    | (v, none) => v

/-! ### Program image (R337, R348, R351) -/

/-- Is an operation code defined? -/
def tallyOp (op : Nat) : Bool :=
  decide (op ≤ 0x0C) || (decide (0x10 ≤ op) && decide (op ≤ 0x12)) || (decide (0x18 ≤ op) && decide (op ≤ 0x1A)) ||
    (decide (0x20 ≤ op) && decide (op ≤ 0x22)) || op == 0x28 || op == 0x29 || (decide (0x30 ≤ op) && decide (op ≤ 0x33)) ||
    op == 0x3F

/-- An operation without an operand. -/
def tallyBare (op : Nat) : Bool := op == 0 || op == 0x0C || (decide (0x10 ≤ op) && decide (op ≤ 0x12)) || op == 0x3F

/-- A reserved operation, or reserved bits that are not 0 (reason 4). -/
def tallyReserved (w : Nat) : Bool :=
  let op := w / 2 ^ 24
  !tallyOp op || w / 2 ^ 16 % 256 != 0 || (tallyBare op && w % 2 ^ 16 != 0) ||
    (decide (0x18 ≤ op) && decide (op ≤ 0x1A) && decide (2 ^ 13 ≤ w % 2 ^ 16))

/-- An operand outside R332, or a write to an area that is not writable (reason 5). -/
def tallyOperand (w : Nat) : Bool :=
  let op := w / 2 ^ 24
  let a := w % 2 ^ 16
  let area := a / 2 ^ 12
  let size := [192, 256, 1024, 10, 1024, 2048, 256, 64].getD area 0
  if 1 ≤ op ∧ op ≤ 0x0B then decide (size ≤ a % 2 ^ 12) || (decide (8 ≤ op) && (decide (area < 3) || decide (5 < area)))
  else if 0x20 ≤ op ∧ op ≤ 0x29 then decide (256 ≤ a)
  else if 0x30 ≤ op ∧ op ≤ 0x33 then decide (64 ≤ a)
  else false

/-- The block depth before each instruction. -/
def tallyDepths : Int → List Nat → List Int
  | _, [] => []
  | d, w :: l =>
    let op := w / 2 ^ 24
    d :: tallyDepths (if op = 0x10 ∨ op = 0x11 then d + 1 else if op = 0x12 then d - 1 else d) l

/-- The first index at which a check fails. -/
def firstBad (n : Nat) (bad : Nat → Bool) : Option Nat := (List.range n).find? bad

/-- The checks of R348 in the order of its table: the reason and the index of the first that fails. -/
def tallyCheck (img : List Nat) (p : TallyProg) (count : Nat) : Option (Nat × Nat) :=
  let n := leAt img 4 2
  let cyc := leAt img 6 2
  let words := (List.range 8192).map fun i => leAt img (0x40 + 4 * i) 4
  let depths := tallyDepths 0 p.code
  let depth (i : Nat) : Int := depths.getD i 1
  let op (i : Nat) : Nat := p.code.getD i 0 / 2 ^ 24
  let jump (i : Nat) : Bool := decide (0x18 ≤ op i) && decide (op i ≤ 0x1A)
  let sta (k o m : Nat) : Nat := leAt img (0x8940 + 32 * k + o) m
  let timer (k : Nat) : Bool := p.code.any fun w => decide (0x20 ≤ w / 2 ^ 24) && decide (w / 2 ^ 24 ≤ 0x22) && w % 2 ^ 16 == k
  if leAt img 0 2 ≠ 0x5441 ∨ leAt img 2 2 ≠ 1 then some (1, 0)
  else if crc32c (slice img 0 0x8B40) ≠ leAt img 0x8B40 4 then some (2, 0)
  else if n = 0 ∨ 8192 < n ∨ cyc = 0 ∨ 200 < cyc then some (3, 0)
  else
    let r (reason : Nat) (x : Option Nat) : Option (Nat × Nat) := x.map fun i => (reason, i)
    (r 4 (firstBad n fun i => tallyReserved (p.code.getD i 0))) <|>
    (r 4 (firstBad 8192 fun i => decide (n ≤ i) && words.getD i 0 != 0)) <|>
    (r 4 (if (slice img 0x1C 36).any (· != 0) then some 0 else none)) <|>
    (r 4 (firstBad 256 fun j => Nat.land (p.cmap.getD j 0) 0x7FE0C000 != 0)) <|>
    (r 4 (firstBad 16 fun k => decide (2 ≤ sta k 1 1) || sta k 5 3 != 0 || (slice img (0x8940 + 32 * k + 16) 16).any (· != 0))) <|>
    (r 5 (firstBad n fun i => tallyOperand (p.code.getD i 0))) <|>
    (r 6 (firstBad n fun i => jump i && (depth i != 0 || decide (p.code.getD i 0 % 2 ^ 13 ≤ i) ||
      decide (n ≤ p.code.getD i 0 % 2 ^ 13) || depth (p.code.getD i 0 % 2 ^ 13) != 0))) <|>
    (r 7 (firstBad n fun i => decide (depth i < 0) || decide (16 < depth i) || (op i == 0x3F && depth i != 0) ||
      (decide (i = n - 1) && op i != 0x3F))) <|>
    (r 8 (firstBad 256 fun k => timer k && (p.tpre.getD k 0 == 0 || decide (2 ^ 31 ≤ p.tpre.getD k 0)))) <|>
    (r 9 (firstBad 16 fun k => sta k 1 1 == 1 && (sta k 0 1 == 0 || decide (63 < sta k 0 1) || decide (sta k 2 2 < 2) ||
      decide (1000 < sta k 2 2) || (List.range k).any fun j => sta j 1 1 == 1 && sta j 0 1 == sta k 0 1))) <|>
    (r 10 (firstBad 256 fun j =>
      let w := p.cmap.getD j 0
      let sel := w / 2 ^ 16 % 32
      bitAt w 31 && ((decide (2 < sel) && decide (sel < 8)) || decide (15 < sel) || decide (count ≤ w % 2 ^ 14))))

/-- The program that an image spells. -/
def tallyParse (img : List Nat) : TallyProg :=
  { name := slice img 8 16, build := leAt img 0x18 4, crc := leAt img 0x8B40 4, cycle := leAt img 6 2
    code := (List.range (leAt img 4 2)).map fun i => leAt img (0x40 + 4 * i) 4
    tpre := (List.range 256).map fun i => leAt img (0x8040 + 4 * i) 4
    cpre := (List.range 64).map fun i => leAt img (0x8440 + 4 * i) 4
    cmap := (List.range 256).map fun i => leAt img (0x8540 + 4 * i) 4
    stations := (List.range 16).map fun k =>
      let o := 0x8940 + 32 * k
      { on := leAt img (o + 1) 1 == 1, node := leAt img o 1, toMs := leAt img (o + 2) 2, staleN := leAt img (o + 4) 1
        safeIn := leAt img (o + 8) 8 } }

/-- The static bound t_w in 0.1 ns (R341). -/
def TallyProg.bound (p : TallyProg) : Nat :=
  let fn := (p.code.filter fun w => decide (0x20 ≤ w / 2 ^ 24) && decide (w / 2 ^ 24 < 0x3F)).length
  200000 + 2500 * (p.cmap.filter fun w => bitAt w 31).length + 10000 * (p.stations.filter TallySta.on).length +
    133 * (p.code.length - fn) + 533 * fn + 200000

/-- A program takes its place: everything as R349 leaves it. -/
def State.tallyPlace (s : State) (l : Lane) (p : TallyProg) : State :=
  let slow := decide (5000000 * p.cycle < p.bound)
  let wcet := (p.bound + 9999) / 10000
  let s := s.mapTally l fun y => { y with
    prog := some p, timers := [], edges := [], counters := [], markers := 0, rq := 0, skip := none, first := false
    io := y.io.map fun x => { x with since := false, absent := 256, phase := 2 }, epNext := [] }
  let s := s.mapTally l fun y => { y with epIn := s.tallyEpoch l }
  let s := ((s.put l F.TALLY_Q_Q 0).put l F.TALLY_STAT_LOADED 1).put l F.TALLY_STAT_WCET_OVER (b2n slow)
  let s := (s.put l F.TALLY_TIMING_WCET_US wcet).put l F.TALLY_TIMING_CYCLE p.cycle
  let s := (s.put l F.TALLY_PCRC_PCRC p.crc).put l F.TALLY_BUILD_BUILD p.build
  let s := ((s.put l F.TALLY_LDERR_REASON 0).put l F.TALLY_LDERR_INDEX 0).evL l 0x1102 0 (leBytes 4 p.build ++ leBytes 2 wcet)
  let s := if slow then s.evL l 0x1108 else s
  s.arbitrate

/-- LOAD starts (R348). -/
def tallyLoad (s : State) (r : Req) : Nat × State :=
  s.access r Pg.TALLY 0x008 [(.lock, !s.holds r Pg.TALLY), (.state, s.get r.lane F.TALLY_STAT_STATE != 0)] fun s =>
    (s.put r.lane F.TALLY_STAT_LOADING 1).mapTally r.lane fun y => { y with loader := some r }

def execTallyLoad (r : Req) (s : State) : Out := s.answered (tallyLoad s r)

/-- The image has been read and checked. -/
def tallyLoadDone (s : State) (l : Lane) : State :=
  if !s.getB l F.TALLY_STAT_LOADING then s
  else
    let s := s.put l F.TALLY_STAT_LOADING 0
    let img := memBytes (s.dram.get l) (64 * s.get l F.TALLY_IMG_BASE_BASE) 35652
    let p := tallyParse img
    match tallyCheck img p (s.get l F.CDT_COUNT_COUNT) with
    | none => s.tallyPlace l p
    | some (reason, i) =>
      let s := (s.mapTally l fun y => { y with prog := none }).put l F.TALLY_STAT_LOADED 0
      let s := (s.put l F.TALLY_LDERR_REASON reason).put l F.TALLY_LDERR_INDEX i
      let s := (((s.put l F.TALLY_STAT_WCET_OVER 0).wr l Pg.TALLY 0x04C 0).wr l Pg.TALLY 0x070 0).wr l Pg.TALLY 0x074 0
      let s := match (s.tally.get l).loader with
        | some r => s.refuse r Pg.TALLY 0x008 (if reason = 2 then 0x07 else 0x04)
        | none => s
      s.evL l 0x1103 0 (reason :: leBytes 2 i)

def execTallyLoadDone (l : Lane) (s : State) : Out := s.fin (tallyLoadDone s l)

/-- RUN asks for the program at TALLY_RUN_EP (R347). -/
def tallyRunWrite (s : State) (r : Req) : Nat × State :=
  let l := r.lane
  let ahead := (s.get l F.TALLY_RUN_EP_EPOCH + 2 ^ 32 - s.sampleEpoch % 2 ^ 32) % 2 ^ 32
  s.access r Pg.TALLY 0x008
    [(.lock, !s.holds r Pg.TALLY),
     (.state, !s.getB l F.TALLY_STAT_LOADED || s.getB l F.TALLY_STAT_LOADING || s.get l F.TALLY_STAT_STATE != 0),
     (.value, ahead == 0 || decide (2 ^ 31 < ahead))] fun s => s.tallyTo l 1

def execTallyRun (r : Req) (s : State) : Out := s.answered (tallyRunWrite s r)

/-- STOP (R347). -/
def tallyStop (s : State) (r : Req) : Nat × State :=
  let l := r.lane
  s.access r Pg.TALLY 0x008
    [(.lock, !s.holds r Pg.TALLY), (.state, s.inMotion || s.get l F.TALLY_STAT_STATE == 3)] fun s => s.tallyTo l 0

def execTallyStop (r : Req) (s : State) : Out := s.answered (tallyStop s r)

/-! ### The cycle (R340 to R344, R346) -/

/-- A station's latest fresh frame lies within TO_MS of an `up` instant. -/
def TallyIo.here (x : TallyIo) (sta : TallySta) (up : Nat) : Bool :=
  match x.seen with
  | some u => decide (up ≤ u + 1000000 * sta.toMs)
  | none => false

/-- A station is judged at a cycle start. -/
def State.judgeStation (s : State) (l : Lane) (k : Nat) (sta : TallySta) : State :=
  let y := s.tally.get l
  let x := y.io.getD k ⟨none, none, 0, false, 0, 2, 0⟩
  let put (x : TallyIo) : State := s.mapTally l fun y => { y with io := y.io.set k x }
  if x.since && x.here sta s.up then
    let s := put { x with absent := 0, phase := 0 }
    if x.absent = 0 then s else s.evL l 0x1107 k [k]
  else
    let n := min 256 (x.absent + 1)
    let ph := if n ≤ sta.staleN then 1 else 2
    let s := put { x with absent := n, phase := ph }
    if ph = 1 ∧ n = 1 then s.evL l 0x1105 k [k, 0]
    else if ph = 2 ∧ x.phase ≠ 2 then s.evL l 0x1106 k [k]
    else s

/-- The output frames: bits of RQ to each station present at the start and at the write `tw` later. -/
def State.sendStations (s : State) (l : Lane) (tw : Nat) : State :=
  (s.stations l).foldl (fun s ks =>
    let x := (s.tally.get l).io.getD ks.1 ⟨none, none, 0, false, 0, 2, 0⟩
    if x.phase ≠ 0 then s
    else if x.here ks.2 (s.up + tw) then
      let s := s.mapTally l fun y => { y with io := y.io.set ks.1 { x with out := (x.out + 1) % 16 } }
      s.stationOut l ks.2.node ((s.tally.get l).rq / 2 ^ (64 * ks.1) % 2 ^ 64) x.out
    else (s.evL l 0x1105 ks.1 [ks.1, 1]).bumpSat l F.TALLY_CNT_DROPOUTS) s

/-- The STOP frames of a loaded program that does not run, to every present station, which TALLY_STA shows (R346, R347). -/
def State.stopStations (s : State) (l : Lane) : State :=
  let present := ((s.stations l).map fun ks =>
    if ((s.tally.get l).io.getD ks.1 ⟨none, none, 0, false, 0, 2, 0⟩).here ks.2 s.up then 2 ^ ks.1 else 0).sum
  (s.stations l).foldl (fun s ks =>
    let x := (s.tally.get l).io.getD ks.1 ⟨none, none, 0, false, 0, 2, 0⟩
    if x.here ks.2 s.up then
      let s := s.mapTally l fun y => { y with io := y.io.set ks.1 { x with out := (x.out + 1) % 16 } }
      s.stationOut l ks.2.node 0 (x.out + 16)
    else s) (s.put l F.TALLY_STA_OK present)

/-- A mask of the stations in a phase. -/
def State.phaseMask (s : State) (l : Lane) (ph : Nat) : Nat :=
  ((s.stations l).map fun ks => if ((s.tally.get l).io.map TallyIo.phase).getD ks.1 3 = ph then 2 ^ ks.1 else 0).sum

/-- The output write: local outputs, presence registers, counts. -/
def State.tallyWrite (s : State) (l : Lane) (v : TallyVm) (tw : Nat) : State :=
  let s := s.mapTally l fun y => { y with
    timers := v.timers, edges := v.edges, counters := v.counters, markers := v.m, rq := v.rq }
  let s := ((s.put l F.TALLY_Q_Q v.q).sendStations l tw).put l F.TALLY_STA_OK (s.phaseMask l 0)
  let s := (s.put l F.TALLY_STA_STALE (s.phaseMask l 1)).put l F.TALLY_STA_SUB_SUBST (s.phaseMask l 2)
  let s := (s.put l F.TALLY_STAT_STALE_ANY (b2n (s.phaseMask l 1 != 0))).put l F.TALLY_STAT_SUBST_ANY
    (b2n (s.phaseMask l 2 != 0))
  let s := (s.put l F.TALLY_STAT_FIRST (b2n (s.tally.get l).first)).mapTally l fun y => { y with first := false }
  let us := tw / 1000
  let s := (s.put l F.TALLY_EXEC_LAST_US (min us 0xFFFF)).put l F.TALLY_EXEC_MAX_US (max (min us 0xFFFF) (s.get l F.TALLY_EXEC_MAX_US))
  (s.bump l F.TALLY_CYC_CYC).arbitrate

/-- An executed cycle that starts at `t` and writes its outputs `tw` ns later; an overrun skips the next one. -/
def State.tallyExec (s : State) (l : Lane) (p : TallyProg) (t tw : Nat) : State :=
  let s := s.mapTally l fun y => { y.takeEpoch t with lastAt := some t }
  let s := (s.stations l).foldl (fun s ks => s.judgeStation l ks.1 ks.2) s
  let y := s.tally.get l
  let i := s.areaI l
  let c := y.epIn % 2 ^ 256
  let ri := s.areaRi l
  let s := s.put l F.TALLY_IMG_CRC_CRC (crc32c (leBytes 24 i ++ leBytes 32 c ++ leBytes 128 ri))
  let v : TallyVm := { i := i, c := c, ri := ri, t := t, acc := false, stack := [], q := s.get l F.TALLY_Q_Q, rq := y.rq
                       m := y.markers, timers := y.timers, edges := y.edges, counters := y.counters }
  let n := s.get l F.TALLY_CYC_CYC
  let s := s.tallyWrite l (v.run p p.code.length 0) tw
  if 500000 * p.cycle < tw then
    let s := (s.mapTally l fun y => { y with skip := some (t + 500000 * p.cycle) }).put l F.TALLY_STAT_OVR 1
    (s.bumpSat l F.TALLY_CNT_OVERRUNS).evL l 0x1104 0 (leBytes 4 n ++ leBytes 4 (tw / 1000))
  else s

/-- A lane's cycle at a start instant, by its state (R347). -/
def State.tallyCycle (s : State) (l : Lane) (p : TallyProg) (t tw : Nat) : State :=
  let y := s.tally.get l
  let st := s.get l F.TALLY_STAT_STATE
  let idle := s.mode == St.LULL || s.mode == St.SHUTDOWN || s.mode == St.BOOT
  if y.skip = some t then s.mapTally l fun y => { y with skip := none }
  else if st = 0 then s.stopStations l
  else if st = 1 then (if s.epochPassed (s.get l F.TALLY_RUN_EP_EPOCH) then (s.tallyRun l).tallyExec l p t tw else s)
  else if st = 2 then s.tallyExec l p t tw
  else if !idle && y.left.isSome && y.left != some s.sampleEpoch then (s.tallyRun l).tallyExec l p t tw
  else s

/-- The start instant `t` of a cycle in both lanes; the outputs are written `twA` and `twB` ns later. Instants off a lane's
cycle grid do nothing there. -/
def tallyInstant (s : State) (t twA twB : Nat) : State :=
  let due := lanes.filterMap fun l => match (s.tally.get l).prog with
    | some p =>
      if decide (2 ≤ s.laneState l) && decide (s.laneState l ≤ 5) && s.onGrid t (500000 * max 1 p.cycle) then some (l, p) else none
    | none => none
  if due.isEmpty then s
  else
    let s := s.reach t
    let s := due.foldl (fun s x => s.tallyCycle x.1 x.2 t (if x.1 = .a then twA else twB)) s
    let both := (s.tally.get .a).lastAt == some t && (s.tally.get .b).lastAt == some t
    s.diverge (both && s.get .a F.TALLY_IMG_CRC_CRC != s.get .b F.TALLY_IMG_CRC_CRC) 1

def execTallyCycle (t twA twB : Nat) (s : State) : Out := s.fin (tallyInstant s t twA twB)

end Sys2Proof.Machine
end

