-- ==== Sys2Proof/Machine/Plink.lean ====
section
/-! DEFINITION. The plant ports (R402 to R405), heartbeats (R411), the duplicate windows (R417), retention and resend (R418,
R419), and the stream queues with their transmitter (R420 to R427). -/

namespace Sys2Proof.Machine

open Sys2Proof

/-- A lane's plant port, changed. -/
def State.mapPlink (s : State) (l : Lane) (f : Plink → Plink) : State := { s with plink := s.plink.set l (f (s.plink.get l)) }

/-! ### The record on the wire (R406, R409) -/

/-- A record as lane `l` sends it: the HPP header with its CRC-32C, then the payload. -/
def State.hppBytes (s : State) (l : Lane) (r : HppRec) : List Nat :=
  let head := [0x48, 0x01] ++ leBytes 2 (s.g F.SYS_NODE_NODE + 2 ^ 11 * l.idx) ++ [r.typ, r.stream] ++ leBytes 2 r.payload.length ++
    leBytes 8 (s.get64 .a F.SYS_SERIAL_SERIAL_LO) ++ leBytes 8 r.epoch ++ leBytes 4 r.seq
  head ++ leBytes 4 (crc32c (head ++ r.payload)) ++ r.payload

/-- What a lane's port has on the wire. -/
def State.wireBytes (s : State) (l : Lane) : Option (List Nat) := (s.plink.get l).wire.map (s.hppBytes l)

/-! ### Wire time and the guard (R405, R423) -/

/-- The wire time of a record in ns: preamble, headers, FCS and interframe gap of its frame or its fragments. -/
def State.wireNs (s : State) (l : Lane) (r : HppRec) : Nat :=
  let d := r.size + 8
  let v4 := s.getB l F.PLNK_CFG_IP4
  let ip := if v4 then 20 else 40
  let eth := if s.getB l F.PLNK_CFG_VLAN_EN then 42 else 38
  let mtu := s.get l F.PLNK_MTU_MTU
  if ip + d ≤ mtu then 8 * (d + ip + eth)
  else
    let hdr := if v4 then 20 else 48
    let n := (d + ((mtu - hdr) / 8 * 8 - 1)) / ((mtu - hdr) / 8 * 8)
    8 * (d + n * (hdr + eth))

/-- The shift of R121 in ns: each reply beyond 20 on a port takes 46.5 µs. -/
def State.sweepShift (s : State) : Nat := 46500 * (max s.chain.mE s.chain.mW - 20)

/-- The latest epoch sampled and its instant. -/
def State.lastSample (s : State) : Option (Nat × Nat) :=
  match s.forming with
  | some f => some (f.epoch, f.t)
  | none => s.snap.map fun f => (f.epoch, f.t)

/-- The guard: a record other than a SNAPSHOT of queue 0 starts only if it ends before t_n + 1.95 ms plus the shift, or
after the SNAPSHOT of epoch n has left. -/
def State.mayStart (s : State) (l : Lane) (r : HppRec) : Bool :=
  (r.typ == 0x01 && r.stream == 0x01) ||
    match s.lastSample with
    | none => true
    | some (n, t) => (s.plink.get l).snapSent == some n ||
      decide (s.clock.count + s.wireNs l r ≤ t + 1950000 + s.sweepShift)

/-! ### Resend (R419) -/

/-- The next record of a request: the record, or none where the request ends; what is left of it; the runs not held. -/
def serve (pl : Plink) : Nat → Resend → Option HppRec × Resend × List (Nat × Nat)
  | 0, q => (none, { q with left := 0 }, [])
  | fuel + 1, q =>
    let off (r : HppRec) : Nat := (r.seq + 2 ^ 32 - q.next) % 2 ^ 32
    let mine (r : HppRec) : Bool := r.stream == q.stream && decide (off r < q.left)
    let waiting := (pl.queues.flatMap Queue.recs).filter mine
    let held := (pl.store.map Retained.record).filter mine
    match ((waiting ++ held).map off).min? with
    | none => (none, { q with next := (q.next + q.left) % 2 ^ 32, left := 0 }, if q.left = 0 then [] else [(q.next, q.left)])
    | some d =>
      let gap := if d = 0 then [] else [(q.next, d)]
      let q' := { q with next := (q.next + d + 1) % 2 ^ 32, left := q.left - (d + 1) }
      match held.find? (fun r => off r == d) with
      | some r =>
        if waiting.any (fun r => off r == d) then
          let x := serve pl fuel q'
          (x.1, x.2.1, gap ++ x.2.2)
        else (some r, q', gap)
      | none =>
        let x := serve pl fuel q'
        (x.1, x.2.1, gap ++ x.2.2)

/-- The next resent record over all requests, in arrival order. -/
def State.nextResent (s : State) (l : Lane) : Nat → State × Option HppRec
  | 0 => (s, none)
  | fuel + 1 =>
    let pl := s.plink.get l
    match pl.resend with
    | [] => (s, none)
    | q :: rest =>
      let n := (pl.queues.flatMap Queue.recs).length + pl.store.length + 1
      let (r, q', runs) := serve pl n q
      match r with
      | some r =>
        if s.mayStart l r then
          let s := s.mapPlink l fun p => { p with resend := if q'.left = 0 then rest else q' :: rest }
          (runs.foldl (fun s x => s.evL l 0x1404 0 (q.stream :: leBytes 4 x.1 ++ leBytes 4 x.2)) s, some r)
        else (s, none)
      | none =>
        let s := s.mapPlink l fun p => { p with resend := rest }
        let s := runs.foldl (fun s x => s.evL l 0x1404 0 (q.stream :: leBytes 4 x.1 ++ leBytes 4 x.2)) s
        s.nextResent l fuel

/-! ### The transmitter (R421 to R424) -/

/-- The first queue whose head may start. -/
def State.readyQueue (s : State) (l : Lane) : Option (Nat × HppRec) :=
  (List.range 8).findSome? fun n =>
    match (((s.plink.get l).queues.getD n ⟨[], 0, 0, 0⟩).recs).head? with
    | some r => if s.mayStart l r then some (n, r) else none
    | none => none

/-- At a record boundary the next record starts: a due HEARTBEAT, the queues in order, a resent record. Nothing precedes
the first HEARTBEAT after a reset. -/
def State.txStart (s : State) (l : Lane) : State :=
  let pl := s.plink.get l
  if !s.portOn l || pl.sending != .idle then s
  else match pl.hbDue with
    | some r => s.mapPlink l fun p => { p with hbDue := none, sending := .heartbeat, wire := some r }
    | none =>
      if !pl.greeted then s
      else match s.readyQueue l with
        | some (n, r) => s.mapPlink l fun p => { p with sending := .queue n, wire := some r }
        | none =>
          match s.nextResent l 17 with
          | (s, some r) => s.mapPlink l fun p => { p with sending := .resent, wire := some r }
          | (s, none) => s

/-- A queue, changed. -/
def Plink.mapQueue (p : Plink) (n : Nat) (f : Queue → Queue) : Plink :=
  { p with queues := p.queues.set n (f (p.queues.getD n ⟨[], 0, 0, 0⟩)) }

/-- The record on the wire has left: it is counted and the next one starts. -/
def recordTxDone (s : State) (l : Lane) : State :=
  let pl := s.plink.get l
  let s := match pl.sending with
    | .idle => s
    | x => s.mapPlink l fun p =>
      let p := match x with
        | .queue n => p.mapQueue n fun q => { q with recs := q.recs.tail }
        | _ => p
      { p with
        sending := .idle, wire := none, tx := (p.tx + 1) % 2 ^ 32, greeted := p.greeted || x == Sending.heartbeat
        snapSent := match x, p.wire with
          | .queue 0, some r => some r.epoch
          | _, _ => p.snapSent }
  s.txStart l

def execRecordTxDone (l : Lane) (s : State) : Out := s.fin (recordTxDone s l)

/-- A queue cannot supply the next byte: the frame ends with an invalid FCS, and the record is sent again. -/
def txUnderrun (s : State) (l : Lane) : State :=
  match (s.plink.get l).sending with
  | .queue n =>
    let s := s.mapPlink l fun p => { p.mapQueue n fun q => { q with underrun := satInc 15 q.underrun } with
      sending := .idle, wire := none }
    (s.evL l 0x1502 n [n]).txStart l
  | _ => s

def execTxUnderrun (l : Lane) (s : State) : Out := s.fin (txUnderrun s l)

/-! ### The link (R405, R424) -/

/-- The link comes up. -/
def linkUp (s : State) (l : Lane) : State :=
  if s.getB l F.PLNK_STAT_LINK_UP then s
  else
    let s := (s.put l F.PLNK_STAT_LINK_UP 1).put l F.PLNK_STAT_ROLE (s.get l F.PLNK_CFG_MASTER)
    let s := s.put l F.PLNK_STAT_ADDR_OK (1 - s.get l F.PLNK_STAT_DAD_FAIL)
    ((s.mapPlink l fun p => { p with outage := false }).evL l 0x1401).txStart l

def execPlinkLinkUp (l : Lane) (s : State) : Out :=
  s.fin (if s.mode = St.LULL ∨ s.mode = St.SHUTDOWN then s else linkUp s l)

/-- The link goes down: every queued record is discarded at its queue's head; it stays in retention. -/
def State.linkDown (s : State) (l : Lane) : State :=
  if !s.getB l F.PLNK_STAT_LINK_UP then s
  else
    let lost := ((s.plink.get l).queues.map fun q => q.recs.length).sum
    let s := (s.put l F.PLNK_STAT_LINK_UP 0).put l F.PLNK_STAT_ADDR_OK 0
    let s := s.mapPlink l fun p => { p with
      sending := .idle, wire := none, hbDue := none, outage := decide (0 < lost)
      queues := p.queues.map fun q => { q with recs := [], discard := min 0xFFF (q.discard + q.recs.length) } }
    let s := s.evL l 0x1402
    if 0 < lost then s.evL l 0x1504 else s

def execPlinkLinkDown (l : Lane) (s : State) : Out := s.fin (s.linkDown l)

/-- Duplicate address detection of the static address fails: the port sends no HPP record until a new address is set. -/
def dadFail (s : State) (l : Lane) : State :=
  let s := (s.put l F.PLNK_STAT_DAD_FAIL 1).put l F.PLNK_STAT_ADDR_OK 0
  (s.mapPlink l fun p => { p with sending := .idle, wire := none }).evL l 0x1405

def execDadFail (l : Lane) (s : State) : Out := s.fin (dadFail s l)

/-- PLNK_CTRL.LINK_RST: the PHY link restarts. -/
def linkRst (s : State) (r : Req) : Nat × State := s.access r Pg.PLNK 0x008 [] fun s => s.linkDown r.lane

def execLinkRst (r : Req) (s : State) : Out := s.answered (linkRst s r)

/-! ### Addresses of a port (R402, R403) -/

/-- The MAC address of a port. -/
def State.macOf (s : State) (l : Lane) : List Nat :=
  leBytes 4 (s.rd l Pg.PLNK 0x048).toNat ++ leBytes 2 (s.rd l Pg.PLNK 0x04C).toNat

/-- An IPv6 address held in four words. -/
def State.ip6Of (s : State) (l : Lane) (off : Nat) : List Nat :=
  (List.range 4).flatMap fun k => leBytes 4 (s.rd l Pg.PLNK (off + 4 * k)).toNat

/-- An IPv4 address held in one word. -/
def State.ip4Of (s : State) (l : Lane) (off : Nat) : List Nat := leBytes 4 (s.rd l Pg.PLNK off).toNat

/-- The link-local address: the prefix FE80::/64 and the modified EUI-64 of the MAC address. -/
def State.linkLocal (s : State) (l : Lane) : List Nat :=
  let m := s.macOf l
  [0xFE, 0x80, 0, 0, 0, 0, 0, 0, Nat.xor (m.getD 0 0) 2, m.getD 1 0, m.getD 2 0, 0xFF, 0xFE, m.getD 3 0, m.getD 4 0,
    m.getD 5 0]

/-- Is an address one of the port's own? -/
def State.ownAddr (s : State) (l : Lane) (v4 : Bool) (a : List Nat) : Bool :=
  if v4 then s.getB l F.PLNK_CFG_IP4 && a == s.ip4Of l 0x090
  else a == s.linkLocal l || (s.getB l F.PLNK_STAT_ADDR_OK && a == s.ip6Of l 0x050)

/-- A port hears the network at all. -/
def State.hears (s : State) (l : Lane) : Bool :=
  s.getB l F.PLNK_STAT_LINK_UP && s.getB l F.PLNK_CTRL_ENABLE && decide (2 ≤ s.laneState l)

/-- An echo request to one of the port's addresses is answered with its identifier, sequence and data. `v4`: ICMP under
IPv4. -/
def echoRequest (s : State) (l : Lane) (v4 : Bool) (target body : List Nat) : State :=
  if s.hears l && s.ownAddr l v4 target then s.mapPlink l fun p => { p with netAnswer := body } else s

def execIcmpEchoRequestRx (l : Lane) (v4 : Bool) (target body : List Nat) (s : State) : Out :=
  s.fin (echoRequest s l v4 target body)

/-- A solicitation for one of the port's addresses, or an ARP request under IPv4, is answered with the MAC address. -/
def neighbor (s : State) (l : Lane) (v4 : Bool) (target : List Nat) : State :=
  if s.hears l && s.ownAddr l v4 target then s.mapPlink l fun p => { p with netAnswer := s.macOf l } else s

def execNeighborDiscoveryRx (l : Lane) (v4 : Bool) (target : List Nat) (s : State) : Out := s.fin (neighbor s l v4 target)

/-! ### Heartbeats (R411) -/

/-- The payload of a HEARTBEAT. -/
def State.hbPayload (s : State) (l : Lane) : List Nat :=
  leBytes 4 s.nv.boot ++ leBytes 4 s.sysState ++ leBytes 4 (s.rd .a Pg.LANE 0x040).toNat ++
    leBytes 4 (s.rd .a Pg.LANE 0x044).toNat ++ leBytes 4 (s.rd .a Pg.TIME 0x00C).toNat ++
    leBytes 4 (s.rd .a Pg.SAFE F.SAFE_STATE_SEQ.off).toNat ++ leBytes 8 s.snapEpoch ++
    leBytes 4 (s.get l F.ORD_NEXT_SEQ_NEXT) ++ leBytes 4 (s.get l F.ORD_OLDEST_OLDEST) ++
    ((List.range 8).flatMap fun k => leBytes 4 ((s.plink.get l).seqs.getD k 0)) ++
    leBytes 2 (s.g F.PWR_TRUNK_MV_MV / 10) ++ leBytes 2 (s.g F.THERM_MAX_T) ++ [0, 0, 0, 0]

/-- At a heartbeat instant each port has a HEARTBEAT to send ahead of every queue; instants off the grid do nothing. -/
def heartbeat (s : State) (t : Nat) : State :=
  if !s.onGrid t (1000000 * max 1 (s.get s.evrLane F.PLNK_HB_PERIOD_MS)) then s
  else
    let s := s.reach t
    let ls := lanes.filter s.active
    match ls with
    | [] => s
    | l :: _ =>
      let n := (s.plink.get l).seqs.getD 8 0
      let r : HppRec := ⟨0x0C, 0x09, s.snapEpoch, n, s.hbPayload l⟩
      ls.foldl (fun s l =>
        let s := s.mapPlink l fun p => { p with
          seqs := p.seqs.set 8 ((n + 1) % 2 ^ 32), hbDue := if s.portOn l then some r else none }
        s.txStart l) s

def execHeartbeat (t : Nat) (s : State) : Out := s.fin (heartbeat s t)

/-! ### Retention (R418) -/

/-- 60 s after the oldest retained record entered its queue it is discarded. -/
def retentionExpire (s : State) (l : Lane) : State :=
  match (s.plink.get l).store with
  | [] => s
  | r :: _ =>
    let s := s.runTo (r.since + 60000000000)
    s.mapPlink l fun p => { p with store := p.store.filter fun x => decide (s.up < x.since + 60000000000) }

def execRetentionExpire (l : Lane) (s : State) : Out := s.fin (retentionExpire s l)

/-! ### Flush and counters (R416, R420, R422) -/

/-- QUE_CTRL.FLUSH marks the queues of a mask. -/
def queFlush (s : State) (r : Req) (mask : Nat) : Nat × State :=
  s.access r Pg.QUE 0x008 [] fun s =>
    let ns := (List.range 8).filter fun n => bitAt mask n
    let s := s.mapPlink r.lane fun p => { p with flush := p.flush ++ ns.filter fun n => !p.flush.contains n }
    s.put r.lane F.QUE_STAT_FLUSH_BUSY (Nat.lor (s.get r.lane F.QUE_STAT_FLUSH_BUSY) (mask % 256))

def execFlush (r : Req) (mask : Nat) (s : State) : Out := s.answered (queFlush s r mask)

/-- The flush of a queue takes effect: all but a record that is leaving are discarded. -/
def flushEffect (s : State) (l : Lane) (n : Nat) : State :=
  let pl := s.plink.get l
  if !pl.flush.contains n then s
  else
    let recs := (pl.queues.getD n ⟨[], 0, 0, 0⟩).recs
    let keep := if pl.sending = .queue n then recs.take 1 else []
    let gone := recs.length - keep.length
    let s := s.mapPlink l fun p => { p.mapQueue n fun q => { q with recs := keep, discard := min 0xFFF (q.discard + gone) } with
      flush := p.flush.filter (· != n) }
    let s := s.put l F.QUE_STAT_FLUSH_BUSY (putBit (s.get l F.QUE_STAT_FLUSH_BUSY) n false)
    s.evL l 0x1503 n (n :: leBytes 2 gone)

def execFlushEffect (l : Lane) (n : Nat) (s : State) : Out := s.fin (flushEffect s l (n % 8))

/-- EVT_BATCH_US has passed since the first entry of the batch: it is sent (R413). -/
def eventBatchSend (s : State) : State :=
  if s.exporter.batch.isEmpty then s
  else (s.runTo (s.exporter.since + 1000 * s.get s.evrLane F.PLNK_EVT_BATCH_US)).sendEvents

def execEventBatchSend (s : State) : Out := s.fin (eventBatchSend s)

/-- PLNK_RXDROP is returned and cleared. -/
def rxdropRead (s : State) (l : Lane) : Nat × State :=
  let p := s.plink.get l
  (p.rxFormat * 2 ^ 24 + p.rxCrc * 2 ^ 16 + p.rxAddr * 2 ^ 8 + p.rxDup,
    s.mapPlink l fun p => { p with rxFormat := 0, rxCrc := 0, rxAddr := 0, rxDup := 0 })

def execPlnkRxdropRead (r : Req) (s : State) : Out := s.readBy r Pg.PLNK 0x0C0 (rxdropRead s r.lane)

/-- QUE_Qn_CNT is returned and cleared. -/
def queCntRead (s : State) (l : Lane) (n : Nat) : Nat × State :=
  let q := (s.plink.get l).queues.getD n ⟨[], 0, 0, 0⟩
  (q.drop * 2 ^ 16 + q.discard * 2 ^ 4 + q.underrun,
    s.mapPlink l fun p => p.mapQueue n fun q => { q with drop := 0, discard := 0, underrun := 0 })

def execQueCntRead (r : Req) (n : Nat) (s : State) : Out := s.readBy r Pg.QUE (0x08C + n % 8 * 16) (queCntRead s r.lane (n % 8))

/-! ### The record intake's counts and windows (R416, R417) -/

/-- A discarded host record: its count at the port that received it, and the event at most once a minute for each reason
(1 FORMAT, 2 CRC, 3 ADDR, 4 DUP). `src` holds the last four bytes of its source address. -/
def State.rxDrop (s : State) (port : Lane) (reason : Nat) (src : List Nat) : State :=
  let s := s.mapPlink port fun p =>
    if reason = 1 then { p with rxFormat := satInc 0xFF p.rxFormat }
    else if reason = 2 then { p with rxCrc := satInc 0xFF p.rxCrc }
    else if reason = 3 then { p with rxAddr := satInc 0xFF p.rxAddr }
    else { p with rxDup := satInc 0xFF p.rxDup }
  let k := 0x200000 + 16 * port.idx + reason
  if s.minuteOver k then (s.mark k).evL port 0x1406 0 (reason :: padTo 4 src) else s

/-- An accepted host record is counted at its port. -/
def State.rxCount (s : State) (port : Lane) : State := s.mapPlink port fun p => { p with rx := (p.rx + 1) % 2 ^ 32 }

/-- A sequence against a window: none for a new one, else the mark of an accepted one, or none of these for a stale one. -/
inductive RxJudge where
  | fresh
  | again (resp : Nat)
  | stale
deriving DecidableEq, Repr

/-- The treatment of a sequence by the window of its stream. -/
def RxWin.judge (w : RxWin) (q : Nat) : RxJudge :=
  match w.seen.find? (fun x => x.1 == q) with
  | some (_, resp) => .again resp
  | none =>
    match w.high with
    | none => .fresh
    | some h =>
      let d := (q + 2 ^ 32 - h) % 2 ^ 32
      if d < 2 ^ 31 ∨ 2 ^ 32 - d ≤ 1023 then .fresh else .stale

/-- An accepted sequence enters its window. -/
def RxWin.add (w : RxWin) (q resp : Nat) : RxWin :=
  let h := match w.high with
    | none => q
    | some h => if (q + 2 ^ 32 - h) % 2 ^ 32 < 2 ^ 31 then q else h
  { high := some h, seen := ((q, resp) :: w.seen).filter fun x => decide ((h + 2 ^ 32 - x.1) % 2 ^ 32 ≤ 1023) }

/-- A record of the plant host's RESEND stream: a duplicate or stale one is discarded; each running lane keeps the request,
up to 16. -/
def resendReq (s : State) (port : Lane) (seq stream first count : Nat) (src : List Nat) : State :=
  if stream = 0 ∨ 8 < stream ∨ count = 0 ∨ 65535 < count then s.rxDrop port 1 src
  else match s.resendWin.judge seq with
    | .fresh =>
      let s := { s with resendWin := s.resendWin.add seq 0 }
      let s := s.rxCount port
      (lanes.filter s.running).foldl (fun s l =>
        if (s.plink.get l).resend.length < 16 then
          (s.mapPlink l fun p => { p with resend := p.resend ++ [⟨stream, first % 2 ^ 32, count⟩] }).txStart l
        else s.mapPlink l fun p => { p with rxDup := satInc 0xFF p.rxDup }) s
    | _ => s.rxDrop port 4 src

def execResendReq (port : Lane) (seq stream first count : Nat) (src : List Nat) (s : State) : Out :=
  s.fin (resendReq s port (seq % 2 ^ 32) stream first count src)

end Sys2Proof.Machine
end

