-- ==== Sys2Proof/Machine/Meas.lean ====
section
/-! DEFINITION. The string measurement front end: the decimator results, the coulomb integrator, plausibility, the front-end
faults and the fast stream (R143 to R152, R160, R163, R475, R483). -/

namespace Sys2Proof.Machine

open Sys2Proof

/-! ### Conversions -/

/-- QUAL of an NTC reading in 0.01 °C: short above +150 °C and open below −55 °C carry MON_FAULT, readings outside −40 to
+125 °C carry RANGE (R483). -/
def ntcQual (t : Int) : Nat :=
  qClose (if t < -5500 ∨ 15000 < t then Q.MON_FAULT else if t < -4000 ∨ 12500 < t then Q.RANGE else 0)

/-- The shunt NTC reading compensates the shunt, unless it is invalid (R145). -/
def State.takeNtc (s : State) (ntc : List Int) : State :=
  let q := (List.range 3).map fun j => ntcQual (ntc.getD j (-30000))
  let s := { s with front := { s.front with ntc := ntc, ntcq := q } }
  s.p F.MEAS_STAT_TCOMP_OFF (b2n (qHas (q.getD 0 0) Q.INVALID))

/-- A shunt voltage in nV as current in 100 µA (R145). -/
def State.shuntCurrent (s : State) (u : Int) : Int := roundI (mkRat (u * 10 ^ 14) s.shuntR.toNat)

/-- A shunt voltage in nV as current in A, unrounded (R171). -/
def State.shuntAmps (s : State) (u : Int) : Rat := (u : Rat) * 10000000000 / (s.shuntR : Rat)

/-- A charge in nV·µs of the shunt bitstream in units of 2⁻³² µC (R146). -/
def State.shuntCharge (s : State) (x : Int) : Int := x * (2 ^ 32 * 10 ^ 10) / s.shuntR

/-- A Hall voltage in µV as current in 100 µA (R150). -/
def State.hallCurrent (s : State) (u : Int) : Int :=
  roundI (mkRat ((u - 1000 * toSigned 16 (s.g F.MEAS_HALL_CFG_OFFSET)) * s.g F.MEAS_HALL_CFG_SCALE) 1000)

/-- The visible coulomb count in µC, rounded towards −∞ (R146). -/
def State.coulombs (s : State) : Int := s.front.q / 2 ^ 32

/-! ### Plausibility (R150) -/

/-- A disagreeing sample: |I_s − I_h| > max(ABS, REL × |I_s|). -/
def State.disagrees (s : State) (i h : Int) : Bool :=
  decide (max ((s.g F.MEAS_PLAUS_ABS : Rat) * 10000) ((s.g F.MEAS_PLAUS_REL : Rat) * i.natAbs / 1000) < (i - h).natAbs)

/-- The runs of disagreeing and agreeing samples, with PLAUS_FAIL and its events; suspended during a Hall fault. -/
def State.plausRun (s : State) (i h : Int) : State :=
  if s.gb F.MEAS_STAT_HALL_FAULT then s
  else
    let bad := s.disagrees i h
    let n := s.g F.MEAS_PLAUS_N
    let dis := if bad then min n (s.front.disagree + 1) else 0
    let agr := if bad then 0 else min n (s.front.agree + 1)
    let s := { s with front := { s.front with disagree := dis, agree := agr } }
    let failed := s.gb F.MEAS_STAT_PLAUS_FAIL
    if !failed && decide (n ≤ dis) then
      (({ s with prot := { s.prot with plausAt := some s.up } } : State).p F.MEAS_STAT_PLAUS_FAIL 1 |>.ev 0x0704).protSettle
    else if failed && decide (n ≤ agr) then
      (({ s with prot := { s.prot with plausAt := none } } : State).p F.MEAS_STAT_PLAUS_FAIL 0 |>.ev 0x0705).protSettle
    else s

/-! ### The fast stream (R160, R475) -/

/-- The V word of a fast sample: I_BAD, V_BAD and the voltage in mV; bit 32 marks a clipped window. -/
def fastWord (clipped iBad vBad : Bool) (v : Nat) : Nat :=
  b2n clipped * 2 ^ 32 + b2n iBad * 2 ^ 31 + b2n vBad * 2 ^ 30 + v % 2 ^ 22

/-- The epoch whose sample instant is the latest at or before an instant of the running period. -/
def State.epochAt (s : State) (t : Nat) : Nat :=
  let last := match s.forming with
    | some f => f.t
    | none => (s.snap.map fun (n : Snap) => n.t).getD 0
  if last ≤ t then s.sampleEpoch else s.sampleEpoch - 1

/-- A result on the fast grid joins the block that its number names; a block is formed from its first sample on. -/
def State.fastSample (s : State) (t : Nat) (i : Int) (v : Nat) (iBad vBad : Bool) : State :=
  let f := s.front
  if !f.fastOn || s.g F.MEAS_FAST_BLOCKS_BLOCKS == 0 || decide (t < s.clock.origin) || (t - s.clock.origin) % 100000 != 0 then s
  else
    let j := (t - s.clock.origin) / 100000
    let x := (ofSigned 32 i, fastWord (decide (0 < f.clipWin)) iBad vBad v)
    if f.fast.isEmpty then
      if j % 50 = 0 then
        { s with front := { f with fast := [x], fastNo := j / 50, fastT := t, fastEp := s.epochAt t } }
      else s
    else if j = 50 * f.fastNo + f.fast.length then
      { s with front := { f with fast := f.fast ++ [x] } }
    else { s with front := { f with fast := [], fastGap := true } }

/-- The bytes of a fast block. -/
def fastBlock (f : Front) (isLocal : Bool) (tqual : Nat) : List Nat :=
  let b := leBytes 8 f.fastT ++ leBytes 8 f.fastEp ++ leBytes 8 f.fastNo ++
    leBytes 2 (b2n isLocal + 2 * b2n ((f.fast.take 50).any fun x => bitAt x.2 32) + 4 * b2n f.fastGap) ++ [tqual] ++ List.replicate 5 0 ++
    ((f.fast.take 50).flatMap fun x => leBytes 4 x.1 ++ leBytes 4 x.2) ++ List.replicate 76 0
  b ++ leBytes 4 (crc32c b)

/-- After 50 fast samples the block is written, MEAS_FAST_WR follows and each lane sends its FAST record. -/
def fastBlockWrite (s : State) : State :=
  let f := s.front
  let n := s.g F.MEAS_FAST_BLOCKS_BLOCKS
  if f.fast.length < 50 ∨ n = 0 then s
  else
    let b := fastBlock f (s.gb F.SNAP_STAT_LOCAL) (s.g F.TIME_STAT_QUAL)
    let s := s.dramBoth (512 * s.g F.MEAS_FAST_BASE_BASE + 512 * (f.fastNo % n)) b
    let s := s.p F.MEAS_FAST_WR_WR f.fastNo
    let t := f.fastT + 5000000
    let s := { s with front := { f with
      fast := f.fast.drop 50, fastNo := f.fastNo + 1, fastT := t, fastEp := s.epochAt t, fastGap := false } }
    s.emitAll 5 0x02 0x03 f.fastEp b

def execFastBlockWrite (s : State) : Out := s.fin (fastBlockWrite s)

/-! ### A decimator result (R143, R144) -/

/-- The quality of the string channels by the faults that stand (R148, R151). -/
def State.iQual (s : State) : Nat :=
  qClose (qIf (s.gb F.MEAS_STAT_I_FAULT) Q.MON_FAULT + qIf (decide (0 < s.front.clipWin)) Q.RANGE)
def State.vQual (s : State) : Nat := qClose (qIf (s.gb F.MEAS_STAT_V_FAULT) Q.MON_FAULT)
def State.hQual (s : State) : Nat := qClose (qIf (s.gb F.MEAS_STAT_HALL_FAULT) Q.MON_FAULT)

/-- The shunt modulator clips: the windows that contain this instant carry RANGE, the averaged interval is clipped (R148). -/
def State.clip (s : State) (windows : Nat) : State :=
  let first := s.front.clipWin == 0
  let s := { s with front := { s.front with clipWin := max windows s.front.clipWin, mClipped := true } }
  (s.p F.MEAS_STAT_OVERLOAD 1).evIf first 0x0703

/-- The values centred on a sample instant go into the snapshot of that epoch; the conditions of that instant stay. -/
def Snap.latch (f : Snap) (i : Int) (v : Nat) (h : Int) (clipped : Bool) : Snap :=
  let qi := qClose (Nat.lor (f.qs.getD 0 0) (qIf clipped Q.RANGE))
  { f with
    iInst := valOr 0 qi i, v := v, hall := valOr 0 (f.qs.getD 3 0) h, latched := true, qs := f.qs.set 0 qi }

/-- A result of the three decimators, centred at `t`: shunt voltage `u` in nV, the bitstream's voltage-time since the last
result in nV·µs, Hall voltage in µV, string voltage in mV and the three NTC readings in 0.01 °C; `eis` are the shunt voltages in
nV that the EIS decimator delivers at `t` and every 25 µs after it (R171). -/
def decimatorResult (s : State) (t : Nat) (u charge hall : Int) (v : Nat) (ntc eis : List Int) : State :=
  if s.mode = St.LULL then s
  else
    let s := (s.takeNtc ntc).p F.MEAS_STAT_RUNNING 1
    let s := if 330000000 ≤ u.natAbs then s.clip 1 else s
    let i := s.shuntCurrent u
    let h := s.hallCurrent hall
    let clipped := decide (0 < s.front.clipWin)
    let s := ((s.p F.MEAS_I_I (ofSigned 32 i)).p F.MEAS_V_V v).p F.MEAS_HALL_HALL (ofSigned 32 h)
    let iq := s.iQual
    let s := { s with
      front := { s.front with q := s.front.q + s.shuntCharge charge, iq := iq, vq := s.vQual, hq := s.hQual }
      forming := s.forming.map fun (f : Snap) => if f.t = t ∧ !f.latched then f.latch i v h clipped else f }
    let s := (s.forming.map fun f => if f.t = t then s.slotWrite f 0x40 0x80 else s).getD s
    let s := (s.plausRun i h).preCurrent
    let s := s.fastSample t (valOr 0 iq i) (valOr 0 s.front.vq v) (qHas iq Q.INVALID) (qHas s.front.vq Q.INVALID)
    let s := { s with front := { s.front with clipWin := s.front.clipWin - 1 } }
    ((s.protCurrent i iq).eisGate (qHas iq (Q.RANGE + Q.INVALID))).eisSamples t (eis.map s.shuntAmps)

def execDecimatorResult (t : Nat) (u charge hall : Int) (v : Nat) (ntc eis : List Int) (s : State) : Out :=
  s.fin (decimatorResult s t u charge hall v ntc eis)

/-! ### Clipping and front-end faults (R148, R151) -/

/-- The shunt voltage rises above 330 mV: the three windows that contain this instant are clipped. -/
def execShuntClip (s : State) : Out := s.fin (s.clip 3)

/-- The flag of a path: 0 shunt, 1 voltage, 2 Hall. -/
def faultFld (path : Nat) : Fld :=
  if path = 0 then F.MEAS_STAT_I_FAULT else if path = 1 then F.MEAS_STAT_V_FAULT else F.MEAS_STAT_HALL_FAULT

/-- The next epoch to be sampled: the first one that a fault marks (R152). -/
def State.nextEpoch (s : State) : Nat := (s.clock.next.map Prod.fst).getD 0

/-- A check of a path fails: its flag is set and its event raised, with the first epoch it marks for the front end's own
paths. -/
def frontEndFault (s : State) (path : Nat) : State :=
  if s.gb (faultFld path) then s
  else
    let s := s.p (faultFld path) 1
    let s := { s with front := { s.front with mFault := s.front.mFault || path == 0 } }
    let code := if path = 0 then 0x0701 else if path = 1 then 0x0702 else 0x0706
    ((s.ev code 0 (leBytes 4 s.nextEpoch)).eisGate (path == 0)).protSettle

def execFrontEndFault (path : Nat) (s : State) : Out := s.fin (frontEndFault s (path % 3))

/-- The checks of a path have passed for 10 ms: its flag clears, with its MEAS_STAT bit in 0x0709. -/
def frontEndClear (s : State) (path : Nat) : State :=
  if s.gb (faultFld path) then
    ((s.p (faultFld path) 0).ev 0x0709 0 [(faultFld path).lo]).protSettle
  else s

def execFrontEndFaultClear (path : Nat) (s : State) : Out := s.fin (frontEndClear s (path % 3))

end Sys2Proof.Machine
end

