-- ==== Sys2Proof/Machine/Snap.lean ====
section
/-! DEFINITION. The epoch and its snapshot: the sample instant, the image, the slots, readiness, and the commands of the
SNAP page (R13, R144 to R159, R164, R475, R481). -/

namespace Sys2Proof.Machine

open Sys2Proof

/-! ### The image (R153) -/

/-- The image: the body, its CRC and END. -/
def Snap.image (f : Snap) : List Nat :=
  let b := f.body
  b ++ leBytes 4 (crc32c b) ++ leBytes 4 f.epoch

/-! ### Slots (R155, R156, R164) -/

/-- The slot of an epoch: its address and its index; none while SNAP_SLOTS is 0. -/
def State.slotOf (s : State) (epoch : Nat) : Option (Nat × Nat) :=
  let n := s.g F.SNAP_SLOTS_SLOTS
  if n = 0 then none else some (s.g F.SNAP_BASE_BASE * 0x2000 + epoch % n * 0x2000, epoch % n)

/-- END of a slot is set to all ones. -/
def State.voidSlot (s : State) (a : Nat) : State := s.dramBoth (a + 0x14FC) (leBytes 4 0xFFFFFFFF)

/-- 40 µs after the sample instant the slot of epoch n − SNAP_SLOTS is released. -/
def slotRelease (s : State) : State :=
  match s.forming with
  | some f => (f.slot.map fun x => s.voidSlot x.1).getD s
  | none => s

def execSlotRelease (s : State) : Out := s.fin (slotRelease s)

/-- A write of SNAP_BASE (`slots` false) or SNAP_SLOTS: every slot becomes void. -/
def snapSlotsWrite (s : State) (r : Req) (slots : Bool) (v : Word) : Nat × State :=
  let off := if slots then 0x064 else 0x060
  let base := if slots then s.g F.SNAP_BASE_BASE else getBits v 31 13
  let n := if slots then getBits v 13 0 else s.g F.SNAP_SLOTS_SLOTS
  let bad := if slots then n != 0 && !inDram (base * 0x2000) (n * 0x2000)
    else !inDram (base * 0x2000) (max (n * 0x2000) 1)
  s.access r Pg.SNAP off
    ((.state, s.changesReg r Pg.SNAP off v && s.mode != St.CONFIG) :: (.value, bad) :: regChecks s r false Pg.SNAP off v) fun s =>
      let s := s.store r Pg.SNAP off v
      (List.range n).foldl (fun s i => s.voidSlot (base * 0x2000 + i * 0x2000)) s

def execSnapSlotsWrite (r : Req) (slots : Bool) (v : Word) (s : State) : Out := s.answered (snapSlotsWrite s r slots v)

/-! ### The sample instant (R144, R149, R159, R475) -/

/-- QUAL of I_AVG (R148, R149, R151). `invalid`: one of the cases of R149. -/
def State.avgQual (s : State) (invalid : Bool) : Nat :=
  Nat.lor (qClose (qIf s.front.mFault Q.MON_FAULT + qIf s.front.mClipped Q.RANGE)) (qIf invalid Q.INVALID)

/-- I_AVG in 100 µA: (Q_n − Q_n−1) / P. The manual states no value for a result beyond its 32 bits. -/
def State.iAvgNow (s : State) : Int × Bool :=
  let q := s.coulombs
  let i := roundI (mkRat ((q - s.front.qLast.getD q) * 10000) (s.clock.p / 1000))
  if -2147483648 ≤ i ∧ i ≤ 2147483647 then (i, false) else (toSigned 32 s.draw, true)

/-- The part of a monitor, counted from 0, while nothing has come of it. -/
def State.notSampled (s : State) (j : Nat) : MonSnap :=
  if j < s.monCount then MonSnap.absent Q.NOT_SAMPLED (s.chain.inf (j + 1)) else MonSnap.none

/-- The snapshot of epoch `n` as it stands just after its sample instant `t`. -/
def State.beginSnap (s : State) (n t : Nat) (fresh : Bool) : Snap :=
  let q := s.coulombs
  let pUs := s.clock.p / 1000
  let x := s.front
  let qa := s.avgQual (x.qLast.isNone || fresh || x.mPaused)
  let mis := qIf (s.gb F.MEAS_STAT_PLAUS_FAIL) Q.MISMATCH
  let temps := (List.range 3).map fun j => valOr 0 (x.ntcq.getD j Q.INVALID) (x.ntc.getD j 0)
  let fault := qClose (qIf (s.gb F.MEAS_STAT_I_FAULT) Q.MON_FAULT)
  { slot := s.slotOf n, epoch := n, t := t, pUs := pUs, tqual := s.g F.TIME_STAT_QUAL
    flags := b2n x.mReset + 2 * b2n x.mPaused + 4 * b2n x.mClipped + 8 * b2n (!s.clock.plant) +
      16 * s.g F.CHAIN_STAT_OPEN_MODE + 64 * b2n s.bo + 128 * b2n x.mFault
    monCount := s.monCount, node := s.g F.SYS_NODE_NODE, iInst := 0
    iAvg := valOr 0 qa s.iAvgNow.1, q := q, v := 0, hall := 0, temps := temps
    qs := [Nat.lor fault mis, Nat.lor qa mis, s.vQual, Nat.lor s.hQual mis] ++
      (List.range 3).map fun j => x.ntcq.getD j Q.INVALID
    qPrev := x.qLast, mons := (List.range 40).map s.notSampled, nsMon := s.monCount, nrMon := 0
    owPos := 0, sweepUs := 0, latched := false, swept := false, load := 0 }

/-- The first epoch on a new grid: the grids of R475 change their origin there, and the fast stream starts anew with GAP. -/
def State.newGrid (s : State) (t : Nat) : State :=
  let first := s.front.qLast.isNone
  { s with
    clock := { s.clock with origin := s.clock.newOrigin.getD t, newOrigin := none, fresh := false }
    front := { s.front with
      fastOn := true, fast := [], fastGap := !first } }

/-- The scheduled sample instant fires: schedule and origin move on, the values of the instant are latched, the tick goes to
the safety channel, and the EIS engine closes its running epoch. -/
def epochSample (s : State) : State :=
  match s.clock.next with
  | none => s
  | some (n, t) =>
    if s.mode = St.LULL ∨ s.mode = St.SHUTDOWN then s
    else
      let s := s.reach t
      let fresh := s.clock.fresh
      let last := s.sampleEpoch
      let jump := s.front.qLast.isSome && n != last + 1
      let s := if jump then s.eisAbort 7 else s
      let s := if fresh then s.newGrid t else s
      let f := s.beginSnap n t fresh
      let s := if s.iAvgNow.2 then s.drawn else s
      let s := { s with
        clock := { s.clock with next := some (n + 1, t + s.clock.p) }
        forming := some f
        late := s.late ++ s.forming.toList
        sampleEpoch := n
        chain := { s.chain with vlim := (s.g F.PROT_CCELL_VLO, s.g F.PROT_CCELL_VHI) }
        front := { s.front with
          qLast := some f.q, mReset := false, mPaused := false, mClipped := false
          mFault := s.gb F.MEAS_STAT_I_FAULT } }
      let s := s.p F.MEAS_STAT_Q_PAUSED 0
      let s := s.evIf jump 0x0603 0 (leBytes 4 last ++ leBytes 4 n)
      let s := (s.safeTick n).eisGate (s.gb F.MEAS_STAT_I_FAULT || s.gb F.LANE_AUTH_MERGE)
      s.eisEpoch f.iAvg (s.est.get (s.auth.getD .a)).assoc

def execEpochSample (s : State) : Out := s.fin (epochSample s)

/-- The chain master sends SAMPLE: the gap closes; an ACCEPT still waiting then is not sent (R116, R175). -/
def execSampleLaunch (s : State) : Out := s.fin (sampleLaunch s).eisLateAccept

/-! ### Readiness (R151, R155 to R158) -/

/-- QM of every monitor of the string is free of INVALID, so that the stack check runs. -/
def Snap.stacksValid (f : Snap) : Bool := (f.mons.take f.monCount).all fun m => !qHas m.qm Q.INVALID

/-- String voltage against the stacks, in mV. -/
def State.stackFails (s : State) (f : Snap) : Bool :=
  let sum := 20 * ((f.mons.take f.monCount).map (·.stack)).sum
  decide ((f.v : Rat) / 200 + 100 * (s.g F.MEAS_VCHK_LIMIT : Rat) < ((f.v : Int) - sum).natAbs)

/-- The stack check of the epoch: MISMATCH on V_STRING, with event 0x0707 at the first failing epoch. -/
def State.stackCheck (s : State) (f : Snap) : State × Snap :=
  if f.swept && f.stacksValid then
    let bad := s.stackFails f
    let sum := ((f.mons.take f.monCount).map (·.stack)).sum
    let s' := s.evIf (bad && !s.front.vchkBad) 0x0707 0 (leBytes 2 (f.v / 100) ++ leBytes 2 (sum / 5))
    ({ s' with front := { s'.front with vchkBad := bad } },
      if bad then { f with qs := f.qs.set 2 (Nat.lor (f.qs.getD 2 0) Q.MISMATCH) } else f)
  else (s, f)

/-- A snapshot whose string values never came holds none; a MISMATCH that its instant brought stays (R150, R154). -/
def Snap.settle (f : Snap) : Snap :=
  let f := if f.latched then f
    else
      let q := Q.INVALID + Q.MON_FAULT
      let set (qs : List Nat) (k : Nat) : List Nat := qs.set k (Nat.lor q (Nat.land (qs.getD k 0) Q.MISMATCH))
      { f with qs := set (set (set f.qs 0) 2) 3 }
  { f with v := valOr 0 (f.qs.getD 2 0) f.v }

/-- The bound of R157 in half microseconds: 1.6 ms plus the shift of R121. -/
def Snap.lateBound (f : Snap) : Nat := 3200 + 93 * (f.load - 20)

/-- A snapshot without a quality condition of R123 and with every verdict IN (R139). -/
def Snap.clean (f : Snap) : Bool :=
  (f.mons.take f.monCount).all fun m =>
    m.qf.all (fun q => q == 0) && m.qc.all (fun q => q == 0) && m.qt.all (fun q => q == 0) && m.qm == 0 &&
      m.verdict.all (fun v => v == 0)

/-- No channel of either lane is in alarm. -/
def State.noAlarm (s : State) : Bool :=
  lanes.all fun l => (s.cdt.get l).runs.all fun x => !x.2.aHi && !x.2.aLo

/-- A lane whose DRAM takes no write: the first of a run of skipped epochs raises 0x0604 (R156). -/
def State.skip (s : State) (l : Lane) (epoch : Nat) : State :=
  let shut := !s.dramOpen l
  let s := s.evIf (shut && !s.skipRun.get l) 0x0604 0 (l.idx :: leBytes 4 epoch)
  { s with skipRun := s.skipRun.set l shut }

/-- The snapshot that becomes ready next: the oldest that still forms, and the state without it. -/
def State.takeForming (s : State) : Option (Snap × State) :=
  match s.late with
  | f :: l => some (f, { s with late := l })
  | [] => s.forming.map fun f => (f, { s with forming := none })

/-- The image is complete `us` microseconds after the sample instant: slot, registers, events, protection, record. `shut` are
the lanes whose DRAM is not initialised or whose controller reports a fault. -/
def snapshotReady (s : State) (us : Nat) (shut : List Lane) : State :=
  match ({ s with dramShut := ⟨shut.contains .a, shut.contains .b⟩ } : State).takeForming with
  | none => s
  | some (f, s) =>
    let (s, f) := s.stackCheck f
    let late := decide (f.lateBound < 2 * us)
    let f := f.settle
    let f := { f with flags := f.flags + 32 * b2n late }
    let s := lanes.foldl (fun s l => s.skip l f.epoch) s
    let img := f.image
    let s := match f.slot with
      | some (a, _) => s.dramBoth a img
      | none => s
    let slot := (f.slot.map Prod.snd).getD 0
    let s := { s with
      snap := some f
      chain := { s.chain with clean := s.chain.clean.bind fun k => if f.clean && s.noAlarm then some (k + 1) else none } }
    let s := (s.put64 .a F.SNAP_EPOCH_EPOCH_LO f.epoch).put64 .a F.SNAP_T_T_LO f.t
    let s := (s.p F.SNAP_READY_EPOCH_LO f.epoch).p F.SNAP_READY_TQUAL f.tqual
    let s := (s.p F.SNAP_READY_LATE (b2n late)).p F.SNAP_READY_SLOT slot
    let s := s.p ⟨Pg.SNAP, 0x028, 31, 0⟩ f.epoch
    let s := s.p F.SNAP_TIMING_MAX_US (max (min us 0xFFFF) (s.g F.SNAP_TIMING_MAX_US))
    let s := s.ev 0x0601 0 (leBytes 4 f.epoch ++ leBytes 2 slot)
    let s := if late then (s.bumpSat .a F.SNAP_TIMING_LATE).ev 0x0602 0 (leBytes 4 us) else s
    ((s.protEpoch f).eisClosing f).emitAll 0 0x01 0x01 f.epoch img

def execSnapshotReady (us : Nat) (shut : List Lane) (s : State) : Out := s.fin (snapshotReady s us shut)

end Sys2Proof.Machine
end

