-- ==== Sys2Proof/Machine/Ring.lean ====
section
/-! DEFINITION. The conditions of staging (R465), replies to the chain master (R111, R131), re-enumeration (R113), and LULL with its entry and its wakes
(R136 to R139, R399, R439). -/

namespace Sys2Proof.Machine

open Sys2Proof

/-! ### The end of a hold of the recorder (R439, R444) -/

/-- The held raisings are written in order with HELD; lost ones raise 0x1704. -/
def State.recFlush (s : State) : State :=
  let es := s.recorder.held
  let told := s.recorder.overflow
  let s := { s with recorder := { s.recorder with held := [], overflow := false } }
  let x := es.foldl (fun (x : State × List Raising) e =>
    let (s, f) := x.1.recTreat e
    (s, x.2 ++ f)) (s, [])
  raiseAll raiseDepth x.1 (x.2 ++ if told then [⟨lanes, 0x1704, 0, leBytes 2 x.1.recorder.lost, false⟩] else [])

/-- A hold ends where no other holds. -/
def State.recRelease (s : State) : State := if s.recHolds then s else s.recFlush

/-! ### Staging conditions (R465) -/

/-- A lane is in recovery. -/
def State.inRecovery (s : State) : Bool := s.flash.recovery.a || s.flash.recovery.b

/-- The condition of R465 that holds, numbered in the order of its table from 1, with its refusal code. -/
def State.stageCond (s : State) : Option (Nat × Nat) :=
  if s.inMotion then some (1, 0x01)
  else if !s.gb F.PWR_STAT_HOLDUP_FULL || decide (s.g F.PWR_TRUNK_MV_MV < 44000) then some (2, 0x01)
  else if s.bo then some (3, 0x01)
  else if !s.inRecovery && !(s.running .a && s.running .b) then some (4, 0x01)
  else if s.mode = St.LULL ∨ s.mode = St.SHUTDOWN then some (5, 0x01)
  else if !s.inRecovery && s.gb F.SYS_STATE_OWNER_LOCK then some (6, 0x02)
  else none

/-- A running staging ends: its slot or area is empty; 0x1903 holds the condition (7 ABORT, 8 CRC mismatch). -/
def State.stageAbort (s : State) (cond : Nat) : State :=
  match s.flash.staging with
  | none => s
  | some (kind, _) =>
    let f := { s.flash with staging := none }
    let f := if kind = 0 then f.setSlot f.idle Slot.empty else f.setPackage none
    ({ s with flash := f } : State).ev 0x1903 0 [cond]

/-- A condition that has arisen aborts a running staging. -/
def State.stageCheck (s : State) : State :=
  match s.stageCond with
  | some (c, _) => s.stageAbort c
  | none => s

/-! ### Replies (R111) -/

/-- The command that awaited its reply is over, and the gap goes on. -/
def State.ringNext (s : State) : State :=
  (({ s with chain := { s.chain with await := none } } : State).ringPump).owStat

/-- A register access through the mailbox ends. -/
def State.mregDone (s : State) (result : Nat) : State := (s.p F.CHAIN_MREG_BUSY 0).p F.CHAIN_MREG_RESULT result

/-- A command got no valid reply: it is repeated at most twice, in later gaps, then counted. `result` is the mailbox's. -/
def State.noReply (s : State) (result : Nat) : State :=
  match s.chain.await with
  | none => s
  | some q =>
    if q.tries < 2 then
      ({ s with chain := { s.chain with queue := ringInsert { q with tries := q.tries + 1, later := true } s.chain.queue } } :
        State).ringNext
    else
      let s := s.bumpSat .a F.CHAIN_LINKERR_TIMEOUT
      let s := match q.cmd with
        | .mreg .. => s.mregDone result
        | .bleedPlan _ k plan t => s.planServed k plan t false
        | .ow k _ 1 => (s.p F.CHAIN_OW_RES_ABORTED 1).p F.CHAIN_OW_RES_MON k
        | _ => s
      s.ringNext

/-- A monitor has answered its MON_ID after a wake: 0 asks for a new enumeration (R138). -/
def State.idRead (s : State) (id : Nat) : State := if id = 0 then s.p F.CHAIN_STAT_ENUM_BUSY 1 else s

/-- A valid reply to the command that awaits one: `data` is its payload. -/
def State.ringReply (s : State) (q : Queued) (data : List Nat) : State :=
  match q.cmd with
  | .mreg _ _ wr _ =>
    let s := if wr then s else s.p F.CHAIN_MREG_DATA_DATA (leAt data 0 2)
    s.mregDone (if wr then data.getD 0 0 else 0)
  | .bleedPlan _ k plan t => s.planServed k plan t (data == [0x00, plan % 256])
  | .bleedRead k take => s.reconcile k ((List.range 12).map fun j => leAt data (2 * j) 2) (leAt data 24 2) take
  | .eisRead k _ sel => s.eisBoth fun e => { e with reads := e.reads ++ [(k, sel, data)] }
  | .idRead _ => s.idRead (leAt data 0 2)
  | _ => s

/-- The monitor and the command code that a reply must name. -/
def Queued.answers (q : Queued) (r : RingReply) : Bool := replyTo r q.cmd.content.1 q.cmd.mon

/-- A reply to a unicast command: one whose CRC fails is counted and the command repeated, and so it is where the reply is not
that of the monitor to the command (R111, R482). The reply to OW_TEST is OW_RESULT, a command of its own. -/
def chainReply (s : State) (r : RingReply) : State :=
  match s.chain.await with
  | none => s
  | some q =>
    if !replyCrcOk r then (s.bumpSat .a F.CHAIN_LINKERR_CRC).noReply 0x07
    else if !q.answers r then s.noReply 0x08
    else if q.cmd.isOw then s
    else (s.ringReply q r.payload).ringNext

def execChainReplyRx (r : RingReply) (s : State) : Out := s.fin (chainReply s r)

/-- No SOF 30 µs after the command ended. -/
def execChainReplyTimeout (s : State) : Out := s.fin (s.noReply 0x08)

/-! ### Open-wire results (R131) -/

/-- A lead after a verdict: 0 intact, 1 open, 2 indeterminate. Three indeterminate verdicts in a row count as open; an open
lead is intact again after two intact ones. -/
def Lead.take (x : Lead) (v : Nat) : Lead :=
  if v = 0 then { indet := 0, intact := min 2 (x.intact + 1), isOpen := x.isOpen && decide (x.intact + 1 < 2) }
  else if v = 1 then ⟨0, 0, true⟩
  else ⟨min 3 (x.indet + 1), 0, x.isOpen || decide (3 ≤ x.indet + 1)⟩

/-- The positions next to a lead, as a mask of a monitor's 12. -/
def besideLead (n : Nat) : Nat := (if n = 0 then 0 else 2 ^ (n - 1)) + if n = 12 then 0 else 2 ^ n

/-- A verdict on a lead, with what its change asks for. -/
def State.leadVerdict (s : State) (k n v : Nat) : State :=
  let i := s.chain.inf k
  let x := i.leads.getD n ⟨0, 0, false⟩
  let y := x.take v
  let s := { s with chain := s.chain.setInf k { i with leads := i.leads.set n y } }
  if y.isOpen && !x.isOpen then (s.ev 0x0806 k [k, n]).bleedStop k (besideLead n) 1
  else s.evIf (x.isOpen && !y.isOpen) 0x0807 k [k, n]

/-- A position whose fine and coarse disagree between intact leads has a fault of its fine path: 0x0808. -/
def State.finePathFaults (s : State) (k : Nat) (res : List (Nat × Nat)) : State :=
  let intact (n : Nat) : Bool := res.contains (n, 0) && !(s.chain.inf k).openLead n
  match s.forming.orElse fun _ => s.snap with
  | none => s
  | some f => ((List.range 12).map (· + 1)).foldl (fun s n =>
      let p := 12 * (k - 1) + n
      s.evIf (qHas (f.qf p) Q.MISMATCH && intact (n - 1) && intact n) 0x0808 0 (leBytes 2 p)) s

/-- The result of a requested test: the leads found open or indeterminate join OPEN, and VALID follows the last command of the
request (R130, R141). -/
def State.owShow (s : State) (k bad : Nat) : State :=
  let s := (s.p F.CHAIN_OW_RES_OPEN (Nat.lor (s.g F.CHAIN_OW_RES_OPEN) bad)).p F.CHAIN_OW_RES_MON k
  s.p F.CHAIN_OW_RES_VALID (b2n (!s.chain.queue.any fun q => q.cmd.isReq))

/-- The verdicts of a test of a monitor's leads. -/
def State.owVerdicts (s : State) (k kind : Nat) (res : List (Nat × Nat)) : State :=
  let res := res.filter fun x => decide (x.1 ≤ 12)
  let s := res.foldl (fun s x => s.leadVerdict k x.1 x.2) s
  let s := { s with chain := s.chain.setInf k { s.chain.inf k with testing := 0 } }
  let s := s.p F.CHAIN_OW_OPEN_COUNT s.openLeads
  let bad := (((res.filter fun x => x.2 != 0).map (·.1)).eraseDups.map fun n => 2 ^ n).sum
  if kind = 1 then s.owShow k bad else if kind = 0 then s.finePathFaults k res else s

/-- OW_RESULT of a monitor: a reply that is valid, and what it says: leads with their verdicts. The coding of OW_RESULT the
manual leaves open. -/
def owResult (s : State) (r : RingReply) (res : List (Nat × Nat)) : State :=
  match s.chain.await with
  | some q =>
    match q.cmd with
    | .ow k _ kind =>
      if !replyCrcOk r then (s.bumpSat .a F.CHAIN_LINKERR_CRC).noReply 0x07
      else if !q.answers r then s.noReply 0x08
      else (s.owVerdicts k kind res).ringNext
    | _ => s
  | none => s

def execOwResultRx (r : RingReply) (res : List (Nat × Nat)) (s : State) : Out := s.fin (owResult s r res)

/-! ### Re-enumeration (R113, R141, R189) -/

/-- CHAIN_CTRL.REENUM. -/
def chainReenum (s : State) (r : Req) : Nat × State :=
  s.access r Pg.CHAIN 0x008 [chainAuth s r, (.state, s.mode != St.CONFIG)] fun s =>
    (s.p F.CHAIN_STAT_ENUM_BUSY 1).eisAbort 8

def execChainReenum (r : Req) (s : State) : Out := s.answered (chainReenum s r)

/-! ### LULL (R136) -/

/-- The conditions of R136. -/
def State.lullOk (s : State) : Bool :=
  let quiet := match s.still with
    | some t => decide (t + 10000000000 ≤ s.up)
    | none => false
  s.mode == St.OPERATE && quiet && s.ids.all (fun k => let i := s.chain.inf k; !i.ns && !i.nr && !i.missing) &&
    s.openLeads == 0 && !s.gb F.SYS_PRESENCE_OPEN && s.nv.busy.isNone && s.nv.queue.isEmpty && s.nv.commit.isNone

/-- LULL_ENTER with the CHAIN_LULL values. -/
def State.lullCmd (s : State) : RingCmd :=
  .lullEnter (s.g F.CHAIN_LULL_PERIOD) (s.g F.CHAIN_LULL_VLIM_VLO) (s.g F.CHAIN_LULL_VLIM_VHI) (s.g F.CHAIN_LULL_TLIM_TLO)
    (s.g F.CHAIN_LULL_TLIM_THI)

/-- LULL_ENTER goes out in the next gap, and LULL_PERIOD is read back from every monitor. -/
def State.lullSend (s : State) : State := (s.ringSend s.lullCmd).ringSendAll (s.ids.map RingCmd.lullRead)

/-- LULL is accepted. -/
def State.lullAccept (s : State) : State := ({ s with chain := { s.chain with lullReq := true } } : State).lullSend

/-- LULL_ENTER or a read-back of LULL_PERIOD is still to be sent or answered. -/
def RingCmd.isLull : RingCmd → Bool
  | .lullEnter .. => true
  | .lullRead _ => true
  | _ => false

/-- A write of CHAIN_LULL. -/
def chainLullWrite (s : State) (r : Req) (v : Word) : Nat × State :=
  let go := getBits v 31 31 == 1
  s.access r Pg.CHAIN 0x080
    (chainAuth s r :: (.state, go && !s.lullOk) :: regChecks s r false Pg.CHAIN 0x080 v) fun s =>
      let s := s.store r Pg.CHAIN 0x080 v
      if go then s.lullAccept else s

def execChainLullEnter (r : Req) (v : Word) (s : State) : Out := s.answered (chainLullWrite s r (setBits v 31 31 1))

/-- The module enters LULL: cores, root, plant ports and controllers stop, outputs are off, the integrator pauses. -/
def State.enterLull (s : State) : State :=
  let s := { s with chain := { s.chain with lullReq := false, clean := none, lullAt := s.up, gap := false } }
  let s := (s.changeMode St.LULL).ev 0x080D
  let s := (s.outputsOff).disarm
  let s := ((s.p F.MEAS_STAT_Q_PAUSED 1).p F.MEAS_STAT_RUNNING 0).ev 0x0708
  let s := { s with
    front := { s.front with mPaused := true, fastOn := false, fast := [], fastGap := true }
    forming := none
    late := []
    safe := { s.safe with awaiting := [] }
    lane := { s.lane with stopLine := true }
    pwr := { s.pwr with service := false } }
  let s := s.put2 F.CLK_STAT_PLL_LOCK 0
  lanes.foldl (fun s l =>
    let s := (s.linkDown l).mapCbus l fun c => { c with sending := none }
    let s := (List.range 3).foldl (fun s n => if s.txSt l n = 2 then s.setTx l n 1 else s) s
    (s.put l F.CBUS_STAT_ON 0).put l F.CBUS_STAT_IDLE 0) s.stageCheck

def execLullEntry (s : State) : Out :=
  s.fin (if s.chain.lullReq && s.mode == St.OPERATE && !s.chain.waits RingCmd.isLull then s.enterLull else s)

/-- Has the estimator of every lane that runs processed the latest snapshot, so that its alarms are those of that epoch? -/
def State.alarmsSettled (s : State) : Bool :=
  lanes.all fun l => !s.active l || !s.getB l F.EST_CTRL_ENABLE || (s.est.get l).last == some s.snapEpoch

/-- Ten clean snapshots after a self-wake, with their alarms: LULL again, without a request (R92, R139). -/
def relull (s : State) : State :=
  match s.chain.clean with
  | some n => if 10 ≤ n ∧ s.mode = St.OPERATE ∧ s.alarmsSettled ∧ s.noAlarm then s.lullSend.enterLull else s
  | none => s

def execSelfWakeRelull (s : State) : Out := s.fin (relull s)

/-! ### Wake (R138) -/

/-- A wake source acts in LULL: its cause is recorded, with 0x080E. -/
def State.wake (s : State) (cause mon detail : Nat) : State :=
  if s.mode ≠ St.LULL ∨ s.chain.waking.isSome then s
  else
    let s := { s with chain := { s.chain with waking := some cause } }
    let w := cause * 2 ^ 28 + mon % 64 * 2 ^ 16 + detail % 2 ^ 16
    (s.wr .a Pg.CHAIN 0x090 (BitVec.ofNat 32 w)).ev 0x080E 0 (leBytes 4 w)

/-- A wake burst at a ring port: the monitor that sent it and its WAKE_CAUSE. -/
def execWakeBurst (mon detail : Nat) (s : State) : Out := s.fin (s.wake 1 mon detail)

/-- WAKE_S seconds after the entry. -/
def execSelfWake (s : State) : Out :=
  s.fin (if s.mode = St.LULL then (s.runTo (s.chain.lullAt + 1000000000 * s.g F.CHAIN_LULL_WAKE_WAKE_S)).wake 4 0 0 else s)

/-- S1 is pressed in LULL. -/
def execS1Wake (s : State) : Out := s.fin (s.wake 3 0 0)

/-- A classical WAKE frame whose CRC holds, for all nodes or for this one, while WAKE_EN is 1 (R399). -/
def cbusWake (s : State) (f : CanFrame) (crcOk : Bool) : State :=
  let l := s.evrLane
  let target := f.rem / 2 ^ 6
  if crcOk && !f.fdf && f.ide && f.type == 0x01 && s.getB l F.CBUS_WAKE_WAKE_EN &&
      (target == 0 || target == s.get l F.CBUS_NODE_NODE) then s.wake 2 0 0
  else s

def execCbusWake (f : CanFrame) (crcOk : Bool) (s : State) : Out := s.fin (cbusWake s f crcOk)

/-- The ICU of a lane comes back from retention: running moderation times and hold-offs count as elapsed, the latched
events are fed in order, and lost ones are told (R439). -/
def State.icuWake (s : State) (l : Lane) : State × List Raising :=
  let i := s.icu.get l
  let i' := { i with
    slots := i.slots.map fun x => (x.1, { x.2 with timed := x.2.timed || x.2.pend }), holding := [], window := []
    sleep := [], restored := true, lull := [] }
  let x := i.lull.foldl (fun (x : State × List Raising) e =>
    let (s, f) := x.1.icuTake l e
    (s, x.2 ++ f)) ({ s with icu := s.icu.set l i' }, [])
  (x.1, x.2 ++ if i.lostLull = 0 then [] else [⟨[l], 0x1602, 0, [i.lost, i.lostLull], false⟩])

/-- The schedule after a ring restart: the first epoch whose sample instant is P or more away (R138). -/
def Clock.skipTo (c : Clock) (t : Nat) : Clock :=
  match c.next with
  | some (n, u) => if u < t ∧ c.p ≠ 0 then { c with next := some (n + gridIndex u c.p t, u + gridIndex u c.p t * c.p) } else c
  | none => c

/-- The module's wake burst at ring restart ends the Lull of every monitor (R138). -/
def State.wakeRing (s : State) : State :=
  (s.mons.map (·.1)).foldl (fun s k => s.setMon k { s.mon k with lull := false, self := false }) s

/-- The wake completes: root, ICU, held records and ring restart, and the module is in OPERATE again. -/
def wakeComplete (s : State) : State :=
  match s.chain.waking with
  | none => s
  | some cause =>
    if s.mode ≠ St.LULL then s
    else
      let s := s.put2 F.CLK_STAT_PLL_LOCK 1
      let s := { s with lane := { s.lane with stopLine := false, awaitLock := false } }
      let x := lanes.foldl (fun (x : State × List Raising) l =>
        let (s, f) := x.1.icuWake l
        (s, x.2 ++ f)) (s, [])
      let s := raiseAll raiseDepth x.1 x.2
      let s := if s.bo || s.recorder.clearing.isSome || !s.recorder.known then s else s.recFlush
      let s := { s with prot := { s.prot with firstAt := none } }
      let s := s.wakeRing
      let s := { s with
        chain := { s.chain with
          waking := none, clean := if cause = 4 then some 0 else none, gap := true, gapNs := some s.clock.p
          queue := s.chain.queue.map fun (q : Queued) => { q with later := false } }
        clock := s.clock.skipTo (s.clock.count + s.clock.p)
        front := { s.front with fastOn := true } }
      let s := ((s.ringSendAll (s.ids.map RingCmd.idRead)).sendVlim s.ids).ringSendAll
        ((s.ids.map fun k => .bleedRead k false) ++ s.ids.map RingCmd.trim)
      (((s.p F.MEAS_STAT_Q_PAUSED 0).ev 0x0708).changeMode St.OPERATE).raiseLatches

def execWakeComplete (s : State) : Out := s.fin (wakeComplete s)

end Sys2Proof.Machine
end

