-- ==== Sys2Proof/Machine/Sys.lean ====
section
/-! DEFINITION. What the page header and the SYS and NVM pages command: module states, event registers, refusal records,
locks, the presence window, the NV path, the configuration commit and the seal (R72 to R86, R100 to R106, R457, R472). -/

namespace Sys2Proof.Machine

open Sys2Proof

/-! ### GO and HOLD (R100) -/

/-- Every limit of 0 to 6 keeps its trip: TACT 2 or 3 (R242). -/
def State.tactsOk (s : State) : Bool := (List.range 7).all fun k => decide (2 ≤ s.g (F.PROT_Lk_CFG_TACT k))

/-- A valid configuration: the active slot's, with every present profile intact and every limit of 0 to 6 with its trip
(R100, R196, R242). -/
def State.cfgGood (s : State) : Bool := s.nv.cfgValid && s.profilesOk && s.tactsOk

/-- SYS_CTRL.GO. -/
def sysGo (s : State) (r : Req) : Nat × State :=
  s.access r Pg.SYS 0x008 [(.auth, !s.isAuth r.lane), (.state, s.mode != St.CONFIG || !s.cfgGood)] fun s =>
    s.changeMode St.OPERATE

def execGo (r : Req) (s : State) : Out := s.answered (sysGo s r)

/-- May HOLD not be written now? -/
def State.holdBad (s : State) : Bool :=
  s.mode == St.LULL || s.mode == St.SHUTDOWN || (s.mode == St.OPERATE && s.inMotion)

/-- An accepted HOLD: to CONFIG from OPERATE, kept for the end of BOOT, without effect in CONFIG. -/
def State.holdNow (s : State) : State :=
  if s.mode = St.BOOT then { s with lane := { s.lane with holdBoot := true } }
  else if s.mode = St.OPERATE then s.changeMode St.CONFIG
  else s

/-- SYS_CTRL.HOLD. -/
def sysHold (s : State) (r : Req) : Nat × State :=
  s.access r Pg.SYS 0x008 [(.auth, !s.isAuth r.lane), (.state, s.holdBad)] State.holdNow

def execHold (r : Req) (s : State) : Out := s.answered (sysHold s r)

/-! ### Unmapped accesses (R72) -/

/-- A core access: an unmapped one gets an access fault (answer code 0x100), its address in SYS_UNMAPPED, and 0x0004. -/
def unmapped (s : State) (r : Req) (addr : Nat) : Nat × State :=
  if place addr = .nowhere then
    (0x100, (s.put r.lane F.SYS_UNMAPPED_ADDR addr).ev 0x0004 0 (leBytes 4 addr ++ [r.code]))
  else (0, s)

/-- The HPP and the service port reach no such address: refused with 0x04 (R88). -/
def unmappedAccess (s : State) (r : Req) (addr : Nat) : Nat × State :=
  if r.path = .hpp ∨ r.path = .service then (0x04, s) else unmapped s r addr

def execUnmappedAccess (r : Req) (addr : Nat) (s : State) : Out := s.answered (unmappedAccess s r addr)

/-! ### Event registers and the refusal record (R77, R79) -/

/-- A write of xx_EVT: 1 clears a bit in xx_EVT_RAW and in the lane's xx_EVT. -/
def evtClear (s : State) (r : Req) (page : Nat) (v : Word) : Nat × State :=
  s.access r page 0x018 [] fun s =>
    let s := s.wr r.lane page 0x010 (s.rd r.lane page 0x010 &&& ~~~v)
    s.wr r.lane page 0x018 (s.rd r.lane page 0x018 &&& ~~~v)

def execEvtClear (r : Req) (page : Nat) (v : Word) (s : State) : Out := s.answered (evtClear s r (page % 26) v)

/-- A write of xx_EVT_SET: bits 1 to 31 raise the page's events as test events, bit 0 sets EXT. -/
def evtSet (s : State) (r : Req) (page : Nat) (v : Word) : Nat × State :=
  s.access r page 0x01C [] fun s =>
    let ls := if sharedPage page then lanes else [r.lane]
    let s := if bitAt v.toNat 0 then ls.foldl (fun s l => s.latch l page 0) s else s
    let ks := ((List.range 32).drop 1).filter fun k => bitAt v.toNat k
    raiseAll raiseDepth s (ks.map fun k => ⟨ls, page * 0x100 + k, 0, [], true⟩)

def execEvtSet (r : Req) (page : Nat) (v : Word) (s : State) : Out := s.answered (evtSet s r (page % 26) v)

/-- A write of xx_ERR: 1 clears a bit of CODE and OVR. -/
def errClear (s : State) (r : Req) (page : Nat) (v : Word) : Nat × State :=
  s.access r page 0x020 [] fun s => s.wr r.lane page 0x020 (s.rd r.lane page 0x020 &&& ~~~(v &&& 0x1FF#32))

def execErrClear (r : Req) (page : Nat) (v : Word) (s : State) : Out := s.answered (errClear s r (page % 26) v)

/-! ### Locks (R83) -/

/-- The open key of a page. -/
def openKey (page : Nat) : Nat := 0x4C4B0000 + page

/-- A lock closes; TIME_LOCK lets the servo resume (R60). -/
def State.closeLock (s : State) (l : Lane) (page : Nat) : State :=
  let s := { s.wr l page 0x024 0 with lockT := sput (fun _ => 0) s.lockT (regKey page 0x024 l) 0 }
  if page = Pg.TIME then s.servoOn else s

/-- A lock opens for a requester, or its timer restarts; TIME_LOCK suspends the servo. -/
def State.openLock (s : State) (r : Req) (page : Nat) : State :=
  let already := s.holds r page
  let s := s.wr r.lane page 0x024 (BitVec.ofNat 32 (2 ^ 31 + r.code * 2 ^ 24))
  let s := { s with lockT := sput (fun _ => 0) s.lockT (regKey page 0x024 r.lane) (s.up + lockNs) }
  if page = Pg.TIME ∧ !already then s.servoOff else s

/-- A write of xx_LOCK: the open key, 0, or a refused value. -/
def lockWrite (s : State) (r : Req) (page : Nat) (v : Word) : Nat × State :=
  let isOpen := getBits (s.lockWord r.lane page) 31 31 == 1
  let mine := s.holds r page
  let opens := v.toNat == openKey page
  s.access r page 0x024
    [(.lock, !opens && (v != 0 || !mine)), (.busy, opens && isOpen && !mine)] fun s =>
      if opens then s.openLock r page else s.closeLock r.lane page

def execLockOpen (r : Req) (page : Nat) (s : State) : Out :=
  s.answered (lockWrite s r (page % 26) (BitVec.ofNat 32 (openKey (page % 26))))

def execLockClose (r : Req) (page : Nat) (s : State) : Out := s.answered (lockWrite s r (page % 26) 0)

/-- 60 s after its opening or the owner's last accepted RWL write the lock closes by itself. -/
def lockTimeout (s : State) (l : Lane) (page : Nat) : State :=
  if getBits (s.lockWord l page) 31 31 = 1 then
    (s.runTo (sget (fun _ => 0) s.lockT (regKey page 0x024 l))).closeLock l page
  else s

def execLockTimeout (l : Lane) (page : Nat) (s : State) : Out := s.fin (lockTimeout s l (page % 26))

/-! ### Presence (R84, R457) -/

/-- The presence window closes. -/
def State.presenceEnd (s : State) : State :=
  if s.gb F.SYS_PRESENCE_OPEN then
    ({ (s.p F.SYS_PRESENCE_OPEN 0) with pwr := { s.pwr with presence := none } } : State).ev 0x0003
  else s

/-- S1 held for 2 s: the window opens, or restarts at 120 s. In LULL a press wakes; in SHUTDOWN it opens no window. -/
def presenceOpen (s : State) : State :=
  if s.mode = St.LULL ∨ s.mode = St.SHUTDOWN then s
  else
    let was := s.gb F.SYS_PRESENCE_OPEN
    let s := s.p F.SYS_PRESENCE_OPEN 1
    ({ s with pwr := { s.pwr with presence := some (s.up + 120000000000) } } : State).evIf (!was) 0x0002

def execPresenceOpen (s : State) : Out := s.fin (presenceOpen s)

/-- The 120 s run out. -/
def execPresenceTimeout (s : State) : Out :=
  s.fin (match s.pwr.presence with
    | some t => (s.runTo t).presenceEnd
    | none => s)

/-- SYS_PRESENCE.CLOSE, from any requester. -/
def presenceClose (s : State) (r : Req) : Nat × State := s.access r Pg.SYS 0x044 [] State.presenceEnd

def execPresenceClose (r : Req) (s : State) : Out := s.answered (presenceClose s r)

/-! ### NV writes (R103) -/

/-- NVM_FAULT of both lanes' pages. -/
def State.nvFault (s : State) (isB : Bool) (off : Nat) : State := (s.put2 F.NVM_FAULT_MRAM (b2n isB)).put2 F.NVM_FAULT_OFFSET off

/-- An MRAM is declared lost: NVM_FAULT and 0x1806. -/
def State.mramLost (s : State) (isB : Bool) (off : Nat) : State :=
  let n := if isB then { s.nv with bOk := false } else { s.nv with aOk := false }
  (({ s with nv := n } : State).nvFault isB off).ev 0x1806

/-- A written unit in an MRAM: the last unit of a write makes its record or slot valid, an earlier one leaves it invalid
(R105, R222); zeros leave no unit valid in their 4 KiB. -/
def writtenUnit (u : NvUnit) (m : List (Nat × NvUnit)) : List (Nat × NvUnit) :=
  match u.body with
  | .wipe _ => m.filter fun x => decide (x.1 < u.off + 4096 * u.left) || decide (u.off + 4096 * (u.left + 1) ≤ x.1)
  | _ => if u.left = 0 then placeUnit u m else sdel u.off m

/-- The rest of a write waits for its turn; a commit that PWR_BO has cut goes no further (R105). -/
def Nv.resume (n : Nv) (u : NvUnit) : Nv :=
  let cut := match u.body with
    | .config .. => n.commit.isNone
    | _ => false
  if u.left = 0 || cut then n else { n with queue := nvResume { u with left := u.left - 1 } n.queue }

/-- The activation of a configuration whose slot is not written ends without a reset. -/
def State.actLost (s : State) : State :=
  if s.flash.acting = some 2 then { s with flash := { s.flash with acting := none } } else s

/-- The unit in progress has been written to every MRAM in use and read back; a copy that fails loses its MRAM. -/
def nvWriteComplete (s : State) (okA okB : Bool) : State :=
  match s.nv.busy with
  | none => s
  | some u =>
    let hadA := s.nv.aOk
    let hadB := s.nv.bOk
    let n := { s.nv with
      busy := none, writes := (s.nv.writes + 1) % 2 ^ 32
      a := if hadA && okA then writtenUnit u s.nv.a else s.nv.a
      b := if hadB && okB then writtenUnit u s.nv.b else s.nv.b }
    let s := { s with nv := n.resume u }
    let s := if hadA && !okA then s.mramLost false u.off else s
    let s := if hadB && !okB then s.mramLost true u.off else s
    let done := (hadA && okA) || (hadB && okB)
    let s := if s.nv.gone then (({ s with nv := { s.nv with queue := [], busy := none, commit := none } } : State).actLost.ev 0x1807)
      else s.evIf ((hadA && !okA) || (hadB && !okB)) 0x1801
    let more := s.nv.queue.any fun v => v.off == u.off
    let s := if done && u.off == lockoutOff && !more then s.p F.SAFE_LOCKOUT_NV_PEND 0 else s
    s.nvKick

def execNvWriteComplete (okA okB : Bool) (s : State) : Out := s.fin (nvWriteComplete s okA okB)

/-! ### The configuration commit (R105, R458) -/

/-- Is the register of a key a configuration register: has it an RWL field? -/
def isCfgKey (k : Nat) : Bool := (rowsAt (k / 0x1000 % 0x100) (k % 0x1000)).any fun r => r.acc == .rwl

/-- The keys under which a slot holds the delay asymmetry of each plant port and the PTP domain (R53). -/
def clockKey (k : Nat) : Nat := 0x20000000 + k

/-- The configuration of PTP as a slot holds it. -/
def Clock.cfgWords (c : Clock) : List (Nat × Word) :=
  [(clockKey 0, BitVec.ofInt 32 c.asym.a), (clockKey 1, BitVec.ofInt 32 c.asym.b), (clockKey 2, BitVec.ofNat 32 c.domain)]

/-- The present values of the configuration registers, the configured serials and the configuration of PTP. -/
def State.cfgWords (s : State) : List (Nat × Word) :=
  (s.regs.filter fun x => isCfgKey x.1 && x.1 % 0x1000 != 0x024) ++ s.clock.cfgWords ++
    s.chain.info.flatMap fun x =>
      [(serialKey x.1 0, BitVec.ofNat 32 x.2.serCfg), (serialKey x.1 1, BitVec.ofNat 32 (x.2.serCfg / 2 ^ 32))]

/-- The Tally program that the authority lane holds. -/
def State.cfgProg (s : State) : Option TallyProg := (s.auth.bind fun l => (s.tally.get l).prog)

/-- A commit starts, with the owner lock as it is to be: a slot of 512 KiB takes 128 units. -/
def State.commitStart (s : State) (owner : Bool) : State :=
  let slot := 1 - s.nv.cfgSlot
  let s := { s with nv := { s.nv with commit := some slot } }
  s.nvWrite (cfgOff slot) (s.nv.cfgSeq + 1) (.config s.cfgWords s.cfgProg owner true) 127

/-- The refusals of R105. -/
def State.commitChecks (s : State) (r : Req) : List Chk :=
  [(.hw, s.nv.gone), (.presence, s.noPresence r), (.state, s.bo), (.busy, s.nv.commit.isSome)]

/-- NVM_CFG_COMMIT.COMMIT. -/
def cfgCommit (s : State) (r : Req) : Nat × State :=
  s.access r Pg.NVM 0x048 (s.commitChecks r) fun s => s.commitStart (s.gb F.SYS_STATE_OWNER_LOCK)

def execNvmCfgCommit (r : Req) (s : State) : Out := s.answered (cfgCommit s r)

/-- Every unit of the commit is written and verified: the new slot is the active one. That of an activation is accepted then,
with 0x1902 (R466). -/
def cfgCommitDone (s : State) : State :=
  match s.nv.commit with
  | none => s
  | some slot =>
    let off := cfgOff slot
    match s.nv.unit off with
    | some ⟨_, q, .config _ _ owner valid, _⟩ =>
      let waits := (s.nv.busy.toList ++ s.nv.queue).any fun u => u.off == off
      if q ≠ s.nv.cfgSeq + 1 ∨ waits then s
      else
        let was := s.gb F.SYS_STATE_OWNER_LOCK
        let s := { s with nv := { s.nv with commit := none, cfgSlot := slot, cfgSeq := q, cfgValid := valid } }
        if s.flash.acting.isSome then s.ev 0x1902 0 [2, slot]
        else
          let s := (s.p F.SYS_STATE_OWNER_LOCK (b2n owner)).ev 0x1803 0 (leBytes 4 q)
          s.evIf (was != owner) 0x1904
    | _ => s

def execCfgCommitDone (s : State) : Out := s.fin (cfgCommitDone s)

/-- PWR_BO during a commit: the units not yet started are not written, and a slot of which any is written fails its CRC
(R105). Where the last unit is in progress the commit completes. -/
def State.commitCut (s : State) : State :=
  match s.nv.commit with
  | none => s
  | some slot =>
    let off := cfgOff slot
    let last := s.nv.busy.any fun u => u.off == off && u.left == 0
    let done := (s.nv.unit off).any fun u => u.seq == s.nv.cfgSeq + 1
    if last || done then s
    else ({ s with nv := { s.nv with commit := none, queue := s.nv.queue.filter fun u => u.off != off } } : State).actLost

/-! ### The seal (R106) -/

/-- The MRAM offset of the seal-break record. -/
def sealOff : Nat := 0x7D1000

/-- A removal is counted and the record written. -/
def State.sealWrite (s : State) (at0 : Nat) : State :=
  let first := s.nv.sealed.getD at0
  let n := satInc 0xFFFF s.nv.removals
  ({ s with nv := { s.nv with sealed := some first, removals := n } } : State).nvWrite sealOff (s.nv.next sealOff)
    (.seal first n)

/-- The 10 ms reading of J1. -/
def sealPoll (s : State) (fitted : Bool) : State :=
  if fitted then { s with nv := { s.nv with j1 := true } }
  else if !s.nv.j1 then s
  else
    let s := ({ s with nv := { s.nv with j1 := false } } : State).ev 0x1804
    if s.bo then { s with nv := { s.nv with removed := s.nv.removed ++ [s.nv.opsec] } } else s.sealWrite s.nv.opsec

/-- A removal whose record is not written is lost with the power or in a reset: a J1 still removed is found again at the next
reading (R106). -/
def Nv.rearm (n : Nv) : Nv :=
  let waits := n.queue.any fun u => match u.body with
    | .seal .. => true
    | _ => false
  { n with j1 := n.j1 || !n.removed.isEmpty || waits, removed := [] }

def execSealPoll (fitted : Bool) (s : State) : Out := s.fin (sealPoll s fitted)

end Sys2Proof.Machine
end

