-- ==== Sys2Proof/Machine/Orders.lean ====
section
/-! DEFINITION. Dispatch orders and their journal: window, commit and acknowledgement (R309 to R312), execution and holds
(R305 to R308, R313 to R321), completion (R322), the gap (R323), the rebuild after a reset (R325) and REBASE (R328). -/

namespace Sys2Proof.Machine

open Sys2Proof

/-! ### The journal's places and the window (R309, R312) -/

/-- The MRAM offset of the entry of an order; its completion unit lies 0xD0 above. -/
def entryOff (q : Nat) : Nat := 0x401000 + 256 * (q % 512)
def doneOff (q : Nat) : Nat := entryOff q + 0xD0

/-- The MRAM offset of a control slot. -/
def controlOff (k : Nat) : Nat := 0x400000 + 0x800 * (k % 2)

/-- REBASE has marked every entry as absent, and the zeros are still to be written. -/
def State.journalWiped (s : State) : Bool := (s.nv.busy.toList ++ s.nv.queue).any fun u => u.body == .wipe 1 && u.off == 0x401000

/-- A unit of the journal's entries. -/
def State.journalUnit (s : State) (off : Nat) : Option NvUnit := if s.journalWiped then none else s.nv.unit off

/-- The commit unit of an order, where the journal holds it. -/
def State.commitOf (s : State) (q : Nat) : Option JCommit :=
  match s.journalUnit (entryOff q) with
  | some ⟨_, _, .commit c, _⟩ => if c.seq = q then some c else none
  | _ => none

/-- The completion unit of an order, where the journal holds it. -/
def State.doneOf (s : State) (q : Nat) : Option JDone :=
  match s.journalUnit (doneOff q) with
  | some ⟨_, _, .done d, _⟩ => if d.seq = q then some d else none
  | _ => none

/-- Does a unit of an offset still wait or run? -/
def State.nvWaits (s : State) (off : Nat) : Bool := (s.nv.busy.toList ++ s.nv.queue).any fun u => u.off == off

/-- Is an order committed and not completed? -/
def Orders.has (o : Orders) (q : Nat) : Bool := o.flight.any fun e => e.unit.seq == q

/-- ORD_NEXT_SEQ: the lowest sequence at or after O that is not committed. -/
def Orders.next (o : Orders) : Nat :=
  (((List.range 129).map fun k => (o.oldest + k) % 2 ^ 32).find? fun q => !o.has q).getD o.oldest

/-- The committed orders beyond ORD_NEXT_SEQ, by their distance. -/
def Orders.beyond (o : Orders) : List Nat :=
  (o.flight.map fun e => seqDist o.next e.unit.seq).filter fun d => decide (0 < d) && decide (d < 128)

/-- The missing sequences of a gap: the first, and the count up to the lowest committed order above it. -/
def Orders.missing (o : Orders) : Option (Nat × Nat) := o.beyond.min?.map fun d => (o.next, d)

/-! ### What the ORD page shows (R329) and the gap (R323) -/

/-- The registers of the page that follow the journal. -/
def State.ordShow (s : State) : State :=
  let o := s.orders
  let s := (s.put2 F.ORD_NEXT_SEQ_NEXT o.next).put2 F.ORD_OLDEST_OLDEST o.oldest
  (s.put2 F.ORD_INFLIGHT_BEYOND o.beyond.length).put2 F.ORD_INFLIGHT_COUNT o.flight.length

/-- A RESEND_REQ for the missing orders from both lanes. -/
def State.askMissing (s : State) : State :=
  match s.orders.missing with
  | none => s
  | some (first, n) => s.emitAll 1 0x0D 0x06 s.snapEpoch ([0x80, 0, 0, 0] ++ leBytes 4 first ++ leBytes 4 n)

/-- The gap opens or closes. -/
def State.gapCheck (s : State) : State :=
  match s.orders.missing, s.orders.gapAt with
  | some (first, n), none =>
    (({ s with orders := { s.orders with gapAt := some s.up, gapTold := false } } : State).ev 0x1001 0
      (leBytes 4 first ++ leBytes 4 n)).askMissing
  | none, some _ => ({ s with orders := { s.orders with gapAt := none } } : State).ev 0x1002
  | _, _ => s

/-- The journal has changed: an order in another state than OPERATE is held, the gap is looked at, the page shows it. -/
def State.ordUpdate (s : State) : State :=
  let s := if s.mode = St.OPERATE then s else { s with orders := s.orders.markHeld }
  (s.ordShow).gapCheck

/-- Every GAP_MS while the gap lasts the request is repeated. -/
def gapRepeat (s : State) : State :=
  match s.orders.gapAt with
  | none => s
  | some t =>
    let per := 1000000 * max 1 (s.get s.evrLane F.ORD_CFG_GAP_MS)
    (s.runTo (t + ((s.up - t) / per + 1) * per)).askMissing

def execGapResendRepeat (s : State) : Out := s.fin (gapRepeat s)

/-- GAP_TO_S seconds after the opening: 0x1003, once. -/
def gapTimeout (s : State) : State :=
  match s.orders.gapAt with
  | none => s
  | some t =>
    if s.orders.gapTold then s
    else
      let s := s.runTo (t + 1000000000 * s.get s.evrLane F.ORD_CFG_GAP_TO_S)
      ({ s with orders := { s.orders with gapTold := true } } : State).ev 0x1003

def execGapTimeout (s : State) : Out := s.fin (gapTimeout s)

/-! ### Arrival and commit (R309 to R311) -/

/-- An ORDER_ACK from both lanes. -/
def State.ordAck (s : State) (q status flags tc : Nat) : State :=
  s.emitAll 1 0x06 0x06 s.snapEpoch (leBytes 4 q ++ [status, flags, 0, 0] ++ leBytes 4 s.orders.next ++
    leBytes 4 s.orders.oldest ++ leBytes 8 tc)

/-- The bytes 0xD0 to 0xFB of a journal entry. -/
def JDone.bytes (d : JDone) : List Nat :=
  leBytes 4 d.seq ++ [d.result, d.dflags] ++ leBytes 2 d.detail ++ leBytes 8 d.tx ++ leBytes 8 d.ex ++ leBytes 8 d.td ++
    leBytes 4 d.late ++ List.replicate 8 0

/-- An ORDER_DONE from both lanes, with the execution epoch in its header (R322). -/
def State.ordDone (s : State) (typ : Nat) (d : JDone) : State := s.emitAll 1 0x07 0x06 d.ex ([typ, 0, 0, 0] ++ d.bytes)

/-- An ORDER whose sequence lies beyond the window or is stale. -/
def State.ordRefuse (s : State) (q status : Nat) : State :=
  (s.ordAck q status 0 0).ev 0x1009 0 (leBytes 4 q ++ [status])

/-- An ORDER record at the intake, sorted against the window. Before the rebuild of the journal, without a lane in
authority and under PWR_BO it is neither committed nor acknowledged (R43, R329, R363). -/
def orderArrive (s : State) (port : Lane) (q : Nat) (payload src : List Nat) : State :=
  let o := s.orders
  let d := seqDist o.oldest q
  if !o.running || s.bo || s.auth.isNone then s
  else if d < 128 then
    let waits := o.coming.any (fun c => c.seq == q) && (s.nvWaits (entryOff q) || (s.commitOf q).isSome)
    let unit : JCommit := ⟨q, s.clock.count, padTo 176 payload⟩
    if o.has q then
      let s := (s.rxDrop port 4 src).put2 F.ORD_CNT_DUPLICATES (satInc 0xFFFF (s.g F.ORD_CNT_DUPLICATES))
      let e := o.flight.find? fun e => e.unit.seq == q
      s.ordAck q 0x00 (1 + 2 * b2n (e.any fun e => e.single)) ((e.map fun e => e.unit.tc).getD 0)
    else if waits then
      let s := s.rxDrop port 4 src
      { s with orders := { s.orders with coming := s.orders.coming ++ [unit] } }
    else
      let s := s.rxCount port
      let coming := o.coming.filter (fun c => c.seq != q) ++ [unit]
      ({ s with orders := { s.orders with coming := coming } } : State).nvWrite (entryOff q) q (.commit unit)
  else if 1 ≤ seqDist q o.oldest ∧ seqDist q o.oldest ≤ 384 then
    let s := (s.rxDrop port 4 src).put2 F.ORD_CNT_DUPLICATES (satInc 0xFFFF (s.g F.ORD_CNT_DUPLICATES))
    let c := s.commitOf q
    let s := s.ordAck q 0x00 1 ((c.map JCommit.tc).getD 0)
    match s.doneOf q with
    | some x => s.ordDone ((c.map fun c => c.order.headD 0).getD 0) x
    | none => s
  else if d < 2 ^ 31 then (s.rxCount port).ordRefuse q 0x05
  else (s.rxDrop port 4 src).ordRefuse q 0x04

def execOrder (port : Lane) (q : Nat) (payload src : List Nat) (s : State) : Out :=
  s.fin (orderArrive s port (q % 2 ^ 32) payload src)

/-- A unit of the MRAMs in use, changed where it stands. -/
def Nv.mapUnit (n : Nv) (off : Nat) (f : NvUnit → NvUnit) : Nv :=
  let g (x : Nat × NvUnit) : Nat × NvUnit := if x.1 = off then (x.1, f x.2) else x
  { n with a := if n.aOk then n.a.map g else n.a, b := if n.bOk then n.b.map g else n.b }

/-- The commit unit of the ORDER that came first is written and verified: the order is committed, its T_C is this instant,
and each ORDER of the same sequence that came meanwhile is answered as a duplicate. -/
def orderCommitDone (s : State) : State :=
  match s.orders.coming with
  | [] => s
  | c :: _ =>
    let off := entryOff c.seq
    if s.nv.gone then { s with orders := { s.orders with coming := [] } }
    else if s.nvWaits off || (s.commitOf c.seq).isNone then s
    else
      let c := { c with tc := s.clock.count }
      let dups := (s.orders.coming.filter fun x => x.seq == c.seq).length - 1
      let single := s.ordSingle
      let s := { s with
        nv := s.nv.mapUnit off fun u => { u with body := .commit c }
        orders := { s.orders with
          coming := s.orders.coming.filter fun x => x.seq != c.seq
          flight := s.orders.flight ++ [OrderEnt.mk c single false false] } }
      let s := s.put2 F.ORD_CNT_COMMITTED (satInc 0xFFFF (s.g F.ORD_CNT_COMMITTED))
      let s := s.put2 F.ORD_CNT_DUPLICATES (min 0xFFFF (s.g F.ORD_CNT_DUPLICATES + dups))
      let s := s.ordAck c.seq 0x00 (2 * b2n single) c.tc
      let s := (List.replicate dups ()).foldl (fun (s : State) _ => s.ordAck c.seq 0x00 (1 + 2 * b2n single) c.tc) s
      s.ordUpdate

def execOrderCommitDone (s : State) : Out := s.fin (orderCommitDone s)

/-! ### Bodies (R305 to R307) -/

/-- `n` bytes of the body at `off`, as a number. -/
def JCommit.body (c : JCommit) (off n : Nat) : Nat := leAt c.order (16 + off) n
def JCommit.byte (c : JCommit) (off : Nat) : Nat := c.body off 1

/-- Has the body of an order a reserved value, a wrong length or a value that is no number (R307)? -/
def JCommit.bad (c : JCommit) : Bool :=
  let t := c.typ
  let n := c.len
  let tri (v : Nat) : Bool := v == 0 || v == 1 || v == 0xFF
  decide (4 ≤ c.order.getD 1 0) || (c.wait && t != 6) ||
  match t with
  | 1 =>
    let rates := bitAt (c.byte 1) 0
    n != (if rates then 16 else 8) || decide (7 < c.byte 0) || decide (1 < c.byte 1) || c.body 2 2 != 0 ||
      !f32Finite (c.body 4 4) || (rates && (!f32Finite (c.body 8 4) || !f32Finite (c.body 12 4)))
  | 2 =>
    let k := c.byte 0
    k == 0 || decide (8 < k) || n != 4 + 16 * k || c.body 1 3 != 0 ||
      (List.range k).any fun i =>
        let b := 4 + 16 * i
        c.body (b + 2) 2 != 0 || decide (1 < c.byte b) || (c.byte b == 0 && decide (10 < c.byte (b + 1))) ||
          (c.byte b == 1 && (c.byte (b + 1) != 0 || c.body (b + 8) 8 != 0))
  | 3 => n != 4 || decide (3 < c.byte 0) || c.body 1 3 != 0
  | 4 => n != 8 || decide (15 < c.byte 0) || c.body 1 3 != 0
  | 5 => n != 28 || decide (2 < c.byte 0) || c.body 1 3 != 0
  | 6 => n != 4 || !tri (c.byte 0) || !tri (c.byte 1) || c.body 2 2 == 0 || decide (600 < c.body 2 2)
  | 7 => n != 4 || c.body 0 2 == 0 || decide (480 < c.body 0 2 + c.body 2 2)
  | 8 => n != 4 || decide (15 < c.byte 0) || c.body 1 3 != 0
  | _ => true

/-! ### Effects (R306, R308) -/

/-- The pages whose locks an order does not need. -/
def orderPages : List Nat := [Pg.CLE, Pg.PROT, Pg.BAL, Pg.EIS]

/-- The locks of these pages stand open for the management firmware of both lanes, the authority lane's last. -/
def State.orderUnlock (s : State) (l : Lane) : State :=
  orderPages.foldl (fun s p => [l.other, l].foldl (fun s l =>
    s.wr l p 0x024 (BitVec.ofNat 32 (2 ^ 31 + (Req.mk l .mgmt).code * 2 ^ 24))) s) s

/-- The locks stand as before. -/
def State.orderRelock (old s : State) : State :=
  let s := orderPages.foldl (fun s p => lanes.foldl (fun s l => s.wr l p 0x024 (old.lockWord l p)) s) s
  { s with lockT := old.lockT }

/-- A write under an order: its refusal code and, where none, its state. A refused one leaves the state as it was. -/
def orderWrite (l : Lane) (f : State → Nat × State) (s : State) : Nat × State :=
  let x := f (s.orderUnlock l)
  if x.1 = 0 then (0, State.orderRelock s x.2) else (x.1, s)

/-- Writes in order, with the index of the first refused one. -/
def orderWrites (l : Lane) : List (Nat × (State → Nat × State)) → State → Nat × Nat × State
  | [], s => (0, 0, s)
  | (i, f) :: fs, s =>
    let x := orderWrite l f s
    if x.1 = 0 then orderWrites l fs x.2 else (x.1, i, s)

/-- A write of a register's plain fields. -/
def plainWrite (s : State) (r : Req) (page off : Nat) (v : Word) : Nat × State :=
  s.access r page off (regChecks s r false page off v) fun s => s.store r page off v

/-- EIS_PLAN, EIS_WIN, EIS_AMP, EIS_WEIGHT_LO, EIS_WEIGHT_HI and EIS_FADE: a plan written during a window is held for the
next START or boundary, and the window that follows under CONT is set up anew from it (R189, R191). -/
def eisPlanWrite (s : State) (r : Req) (off : Nat) (v : Word) : Nat × State :=
  let x := plainWrite s r Pg.EIS off v
  if x.1 = 0 ∧ (s.eis.get r.lane).running then
    let s := x.2.put r.lane F.EIS_STAT_PLAN_PEND 1
    (0, if s.isAuth r.lane && s.eisNow.phase == 2 then s.eisNext r.lane else s)
  else x

/-- A value written in both lanes' pages by their management firmware, the authority lane first. -/
def both (l : Lane) (f : Req → State → Nat × State) : List (Nat × (State → Nat × State)) :=
  [(0, f ⟨l, .mgmt⟩), (0, f ⟨l.other, .mgmt⟩)]

/-- The writes of one item of a LIMITS order. -/
def JCommit.item (c : JCommit) (l : Lane) (i : Nat) : List (Nat × (State → Nat × State)) :=
  let b := 4 + 16 * i
  let w (off : Nat) : Word := BitVec.ofNat 32 (c.body (b + off) 4)
  if c.byte b = 0 then
    (List.range 3).map fun j => (i, fun s => protLimitWrite s ⟨l, .mgmt⟩ false (c.byte (b + 1)) j (w (4 + 4 * j)))
  else [(i, fun s => squallThrWrite s ⟨l, .mgmt⟩ (w 4))]

/-- BAL_CTRL.ENABLE in both lanes. -/
def balEnableBoth (s : State) (r : Req) (v : Nat) : Nat × State :=
  let x := balEnable s r v
  if x.1 = 0 then (0, x.2.put r.lane.other F.BAL_CTRL_ENABLE v) else x

/-- The writes of an order that executes whole or not at all. -/
def JCommit.writes (c : JCommit) (s : State) (l : Lane) : List (Nat × (State → Nat × State)) :=
  let r : Req := ⟨l, .mgmt⟩
  let w (off : Nat) : Word := BitVec.ofNat 32 (c.body off 4)
  let flag (k : Nat) : Bool := bitAt (c.byte 0) k
  match c.typ with
  | 1 =>
    let k := c.byte 0
    both l (fun r s => cleLoopWrite s r k 0x14 (w 4)) ++
      if bitAt (c.byte 1) 0 then
        both l (fun r s => cleLoopWrite s r k 0x28 (w 8)) ++ both l (fun r s => cleLoopWrite s r k 0x2C (w 12))
      else []
  | 2 => (List.range (c.byte 0)).flatMap fun i => c.item l i
  | 3 =>
    if c.byte 0 ≤ 1 then both l (fun r s => cleModeWrite s r (BitVec.ofNat 32 (c.byte 0)))
    else if c.byte 0 = 2 then
      [(0, fun t => if decide (1 < s.orders.flight.length) || !t.lullOk then (0x01, t) else (0, t.lullAccept))]
    else [(0, fun s => sysHold s r)]
  | 4 =>
    (if flag 3 then both l (fun r s => plainWrite s r Pg.BAL 0x040 (w 4)) else []) ++
      [(0, fun s => balEnableBoth s r (c.byte 0 % 2))] ++
      (if flag 1 then [(0, fun s => balPlanNow s r)] else []) ++ (if flag 2 then [(0, fun s => balStopAll s r)] else [])
  | 5 =>
    if c.byte 0 = 2 then [(0, fun s => eisAbortWrite s r)]
    else
      ((List.range 6).flatMap fun i => both l fun r s => eisPlanWrite s r (eisPlanOffs.getD i 0) (w (4 + 4 * i))) ++
        if c.byte 0 = 1 then [(0, fun s => eisStart s r)] else []
  | 6 =>
    [(0, fun s =>
      let s := if c.byte 0 = 0xFF then s else s.put2 F.ORD_CONTACT_MAIN_REQ (c.byte 0)
      (0, if c.byte 1 = 0xFF then s else s.put2 F.ORD_CONTACT_AUX_REQ (c.byte 1)))]
  | _ => []

/-- The clears of a CLEAR order, in bit order: each with its code and state (R308). Only a latch that is set and a PLAUS that
is set are asked for. -/
def orderClear (l : Lane) (k : Nat) (s : State) : Nat × State :=
  let r : Req := ⟨l, .mgmt⟩
  let seq (fs : List (State → Nat × State)) : Nat × State :=
    fs.foldl (fun (x : Nat × State) f => let y := orderWrite l f x.2; (if x.1 = 0 then y.1 else x.1, y.2)) (0, s)
  match k with
  | 0 => seq [fun s => clrTrip s r]
  | 1 => seq (((List.range 2).filter fun pol => s.gb (latchFld pol)).map fun pol s => squallClear s r (2 ^ pol))
  | 2 => seq (((List.range 8).filter fun k => s.getB l (F.CLE_Lk_STAT_PLAUS k)).map fun k s =>
      cleCtrlWrite s r k (setBits (s.rd l Pg.CLE (loopOff k 0x0C)) 1 1 1))
  | _ => seq [fun s => clrSf s r]

/-- An order's effect: RESULT, DETAIL, state. `ex` is the execution epoch. -/
def JCommit.apply (c : JCommit) (l : Lane) (ex : Nat) (s : State) : Nat × Nat × State :=
  if c.bad then (0x04, 0, s)
  else if c.typ = 8 then
    (List.range 4).foldl (fun (x : Nat × Nat × State) k =>
      if bitAt (c.byte 0) k then
        let y := orderClear l k x.2.2
        (if x.1 = 0 then y.1 else x.1, if y.1 = 0 then x.2.1 else putBit x.2.1 k true, y.2)
      else x) (0, 0, s)
  else if c.typ = 7 then
    if !(s.est.get l).relearn.isEmpty then (0x05, 0, s) else (0, 0, s.relearnAt (c.body 0 2) (c.body 2 2 + 1) ex)
  else
    let x := orderWrites l (c.writes s l) s
    if x.1 = 0 then (0, 0, x.2.2) else (x.1, if c.typ = 2 then x.2.1 else 0, s)

/-! ### Execution (R313 to R321) -/

/-- The smallest epoch whose sample instant lies at or after `t` (R316). -/
def State.execEpoch (s : State) (t : Nat) : Nat :=
  match s.lastSample, s.clock.next with
  | some (n, u), some (m, v) => if t ≤ u then n else if t ≤ v ∨ s.clock.p = 0 then m else m + gridIndex v s.clock.p t
  | some (n, u), none => if t ≤ u then n else n + 1
  | none, some (m, v) => if t ≤ v ∨ s.clock.p = 0 then m else m + gridIndex v s.clock.p t
  | none, none => 0

/-- The completion units already begun, a RELEARN before it complete, and a lane in authority (R313, R315, R363). -/
def State.ordFree (s : State) : Bool :=
  s.orders.running && s.auth.isSome && s.orders.relearn.isNone &&
    !(s.orders.finishing.any fun d => s.nv.queue.any fun u => u.off == doneOff d.seq)

/-- An order completes: its completion unit is written (R312, R313). -/
def State.ordFinish (s : State) (d : JDone) : State :=
  let d := { d with dflags := putBit d.dflags 4 s.ordSingle }
  let s := { s with orders := { s.orders with finishing := s.orders.finishing ++ [d], lastTd := d.td } }
  (s.nvWrite (doneOff d.seq) d.seq (.done d)).ordUpdate

/-- Is the state that a waiting CONTACTOR asks for reached (R320)? -/
def State.contactorMet (s : State) (main aux : Nat) : Bool :=
  (main == 0xFF || s.g F.SAFE_STATE_SEQ == (if main = 1 then 4 else 0)) &&
    (aux == 0xFF || b2n (bitAt (s.g F.SAFE_STATE_OUT_CMD) 3) == aux)

/-- The order executes at `t` by the authority lane `l`. -/
def State.ordRun (s : State) (l : Lane) (e : OrderEnt) (t : Nat) : State :=
  let c := e.unit
  let g := s.gridUp c.tEff
  let isLate := c.toe && decide (g < t)
  let late := if isLate then min 0xFFFFFFFF ((t - g) / 1000) else 0
  let expired := isLate && c.expUs != 0 && decide (c.expUs < late)
  let ex := s.execEpoch t
  let flags := b2n isLate + 2 * b2n expired + 4 * b2n e.held + 8 * b2n e.resumed
  let d : JDone := ⟨c.seq, 0, flags, 0, t, ex, t, late⟩
  let s := if isLate then (s.put2 F.ORD_CNT2_LATE (satInc 0xFFFF (s.g F.ORD_CNT2_LATE))).ev 0x1005 0 (leBytes 4 c.seq ++ leBytes 4 late)
    else s
  if expired then (s.ev 0x1006 0 (leBytes 4 c.seq ++ leBytes 4 late)).ordFinish { d with result := 0x08 }
  else
    let x := c.apply l ex s
    let s := x.2.2
    let d := { d with result := x.1, detail := x.2.1 }
    if x.1 = 0 ∧ c.typ = 6 ∧ c.wait ∧ !s.contactorMet (c.byte 0) (c.byte 1) then
      { s with orders := { s.orders with
        contactor := some (d, c.byte 0, c.byte 1, s.up + 1000000000 * c.body 2 2) } }
    else if x.1 = 0 ∧ c.typ = 7 then { s with orders := { s.orders with relearn := some d } }
    else s.ordFinish d

/-- The order next in sequence executes at its execution instant, or at the first grid instant from now where that lies
behind; a hold keeps it. -/
def orderExecute (s : State) : State :=
  match s.ordFront, s.auth with
  | some e, some l =>
    if (s.ordHold e).isSome || !s.ordFree then s.ordUpdate
    else
      let t := max (s.ordInstant e) (s.gridUp s.clock.count)
      (s.reach t).ordRun l e t
  | _, _ => s

def execOrderExecute (s : State) : Out := s.fin (orderExecute s)

/-- The wait of a CONTACTOR ends at the first grid instant at which its state is reached, or with 0x08 after WAIT_S. -/
def contactorWaitDone (s : State) : State :=
  match s.orders.contactor with
  | none => s
  | some (d, main, aux, t) =>
    let met := s.contactorMet main aux && decide (s.up ≤ t)
    let s := if met then s.reach (s.gridUp s.clock.count) else s.runTo t
    let s := { s with orders := { s.orders with contactor := none } }
    s.ordFinish { d with result := if met then 0 else 0x08, td := s.clock.count }

def execContactorWaitDone (s : State) : Out := s.fin (contactorWaitDone s)

/-- The learned record and the impedance table of a relearn are written back: its order completes. -/
def relearnDone (s : State) : State :=
  match s.orders.relearn, s.auth with
  | some d, some l =>
    let e := s.est.get l
    let waits := (s.nv.busy.toList ++ s.nv.queue).any fun u => match u.body with
      | .est k _ _ => k != 0
      | _ => false
    if !e.relearn.isEmpty || e.dirtyL || e.dirtyT || waits then s
    else ({ s with orders := { s.orders with relearn := none } } : State).ordFinish { d with td := s.clock.count }
  | _, _ => s

def execRelearnWritebackDone (s : State) : Out := s.fin (relearnDone s)

/-! ### Completion (R312, R313, R322) -/

/-- A control slot is written with BASE and the rebases. -/
def State.writeControl (s : State) : State :=
  let q := max (s.nv.next (controlOff 0)) (s.nv.next (controlOff 1))
  s.nvWrite (controlOff q) q (.control s.orders.oldest s.orders.rebases)

/-- The completion unit of the oldest order is committed: the order counts as executed. -/
def completionCommit (s : State) : State :=
  match s.orders.finishing with
  | [] => s
  | d :: rest =>
    if s.nvWaits (doneOff d.seq) || (s.doneOf d.seq).isNone then s
    else
      let typ := ((s.orders.flight.find? fun e => e.unit.seq == d.seq).map fun e => e.unit.typ).getD 0
      let n := s.orders.sinceControl + 1
      let s := { s with orders := { s.orders with
        finishing := rest, oldest := (d.seq + 1) % 2 ^ 32, sinceControl := n % 256
        flight := s.orders.flight.filter fun e => e.unit.seq != d.seq } }
      let s := (s.put2 F.ORD_LAST_SEQ d.seq).put2 F.ORD_LAST_RES_TYPE typ
      let s := (s.put2 F.ORD_LAST_RES_RESULT d.result).put2 F.ORD_LAST_RES_DFLAGS d.dflags
      let s := if d.result = 0 then s
        else (s.put2 F.ORD_CNT2_NONZERO (satInc 0xFFFF (s.g F.ORD_CNT2_NONZERO))).ev 0x1004 0
          (leBytes 4 d.seq ++ [typ, d.result] ++ leBytes 2 d.detail)
      let s := if n = 256 then s.writeControl else s
      (s.ordUpdate).ordDone typ d

def execOrderCompletionCommit (s : State) : Out := s.fin (completionCommit s)

/-! ### Rebuild and rebase (R325, R328) -/

/-- BASE and the rebases of the control slot with the higher SEQ. -/
def State.controlNow (s : State) : Nat × Nat :=
  let us := [s.nv.unit (controlOff 0), s.nv.unit (controlOff 1)].filterMap fun u => match u with
    | some ⟨_, q, .control b n, _⟩ => some (q, b, n)
    | _ => none
  match us with
  | [x, y] => if x.1 < y.1 then y.2 else x.2
  | [x] => x.2
  | _ => (0, 0)

/-- The first sequence from BASE without a valid completion unit. -/
def State.firstUndone (s : State) : Nat → Nat → Nat
  | 0, q => q
  | n + 1, q => if (s.doneOf q).isSome then s.firstUndone n ((q + 1) % 2 ^ 32) else q

/-- The order state is rebuilt from the journal. -/
def State.ordRebuild (s : State) : State :=
  let (base, n) := s.controlNow
  let o := s.firstUndone 512 base
  let es := (List.range 128).filterMap fun k => (s.commitOf ((o + k) % 2 ^ 32)).map fun c => OrderEnt.mk c s.ordSingle false true
  let s := { s with orders := ⟨o, [], es, [], none, none, 0, none, false, 0, n, true⟩ }
  (s.evIf (!es.isEmpty) 0x1007 0 (leBytes 4 o ++ leBytes 2 es.length)).ordUpdate

/-- ORD_CTRL.REBASE: the region of the entries is zeroed, and a control slot written after it (R42, R328). -/
def rebase (s : State) (r : Req) : Nat × State :=
  s.access r Pg.ORD 0x008
    [(.hw, s.nv.gone), (.auth, !s.isAuth r.lane), (.state, s.mode != St.CONFIG || !s.orders.flight.isEmpty)] fun s =>
      let old := s.orders.oldest
      let o := s.get r.lane F.ORD_REBASE_SEQ
      let s := { s with orders := { s.orders with
        coming := [], oldest := o, lastTd := 0, sinceControl := 0, rebases := s.orders.rebases + 1 } }
      (((s.nvWrite 0x401000 0 (.wipe 1) 31).writeControl).ev 0x1008 0 (leBytes 4 old ++ leBytes 4 o)).ordUpdate

def execRebase (r : Req) (s : State) : Out := s.answered (rebase s r)

end Sys2Proof.Machine
end

