-- ==== Sys2Proof/Machine/Lanes.lean ====
section
/-! DEFINITION. The lanes: self-diagnosis and failure (R355 to R358), handover (R359 to R362), no authority (R363, R364),
power-up and rejoin (R365 to R370), and the comparison of the lanes (R371). -/

namespace Sys2Proof.Machine

open Sys2Proof

/-! ### What the LANE page shows -/

/-- The health field of a lane, and its RDY bit. -/
def healthFld : Lane → Fld
  | .a => F.LANE_HEALTH_A
  | .b => F.LANE_HEALTH_B
def rdyFld : Lane → Fld
  | .a => F.LANE_RDY_RDY_A
  | .b => F.LANE_RDY_RDY_B
def tblCrcFld : Lane → Fld
  | .a => F.LANE_TBL_CRC_A_CRC
  | .b => F.LANE_TBL_CRC_B_CRC

/-- A lane takes a state; DUAL follows. -/
def State.setLane (s : State) (l : Lane) (st : Nat) : State :=
  let s := s.p (laneFld l) st
  let dual (x y : Lane) : Bool := s.laneState x == 5 && s.laneState y == 4
  s.p F.LANE_STAT_DUAL (b2n (dual .a .b || dual .b .a))

/-- LANE_AUTH.OWNER of a lane, 0 for none. -/
def ownerCode : Option Lane → Nat
  | none => 0
  | some l => l.idx + 1

/-- Authority changes: OWNER, CAUSE, the count, and 0x1201; the arbiter follows, and the PTP port moves with it (R55). -/
def State.setOwner (s : State) (o : Option Lane) (cause : Nat) : State :=
  let old := s.g F.LANE_AUTH_OWNER
  let s := (s.p F.LANE_AUTH_OWNER (ownerCode o)).p F.LANE_AUTH_CAUSE cause
  let s := match o with
    | some l => s.p F.TIME_STAT_PTP_PORT l.idx
    | none => s
  let s := s.p F.LANE_CNT_HANDOVERS (satInc 0xFFFF (s.g F.LANE_CNT_HANDOVERS))
  (s.ev 0x1201 0 [old, ownerCode o, cause]).arbitrate

/-- MERGE in LANE_AUTH and its mirror. -/
def State.showMerge (s : State) (on : Bool) : State :=
  (s.p F.LANE_AUTH_MERGE (b2n on)).p F.LANE_STAT_MERGE (b2n on)

/-! ### Handover (R359 to R363) -/

/-- A sync ends without success: the joining lane waits again, with 0x1208. -/
def State.syncAbort (s : State) (reason : Nat) : State :=
  match s.lane.sync with
  | none => s
  | some y =>
    let s := { s with lane := { s.lane with sync := none } }
    let s := if s.laneState y.lane = 3 then s.setLane y.lane 2 else s
    (s.p F.LANE_STAT_SYNCING 0).ev 0x1208 0 [reason]

/-- The decision of a handover from `x`: the merge starts and the transmit role moves. Under a failure or an injection `x`
stays frozen. -/
def State.mergeStart (s : State) (x : Lane) (cause : Nat) : State :=
  let failed := cause != 2
  let s := { s with lane := { s.lane with merge := some ⟨cause, x, failed, s.clock.count⟩, divRun := 0, divKinds := 0 } }
  let s := (s.showMerge true).put64 .a F.LANE_HO_T_T_LO s.clock.count
  ((((s.p F.LANE_STAT_DIVERGED 0).ev 0x1203).moveRole (some x.other) failed).arbitrate).eisGate true

/-- OWNER becomes NONE. -/
def State.ownerNone (s : State) (cause : Nat) : State :=
  let s := (s.syncAbort 4).showMerge false
  let s := { s with lane := { s.lane with merge := none } }
  ((s.setOwner none cause).ev 0x1205).moveRole none true

/-- The merge ends with the taker as OWNER; the giver is in STANDBY, or FAILED where it has failed. -/
def State.mergeEnd (s : State) (m : Merge) : State :=
  let y := m.giver.other
  let s := { s with lane := { s.lane with merge := none } }
  let s := ((s.showMerge false).setLane y 5).setLane m.giver (if m.failed then 6 else 4)
  let us := (s.clock.count - m.t) / 1000
  ((s.ev 0x1204 0 (leBytes 2 us)).setOwner (some y) m.cause).eisGate true

/-- The instant at which a merge ends: the first loop 0 sample at least MERGE_US after the decision, never past 2 ms. -/
def State.mergeInstant (s : State) (m : Merge) : Nat :=
  let per := tsNs (s.get m.giver.other (F.CLE_Lk_CFG_RATE 0))
  let g := s.clock.origin
  let up (t : Nat) : Nat := g + (t - g + (per - 1)) / per * per
  let t := up (m.t + 1000 * s.g F.LANE_CFG_MERGE_US)
  if t ≤ m.t + 2000000 then t
  else
    let last := g + (m.t + 2000000 - g) / per * per
    if m.t ≤ last then last else m.t + 2000000

/-- The end of a merge. -/
def mergeEnds (s : State) : State :=
  match s.lane.merge with
  | none => s
  | some m => (s.reach (s.mergeInstant m)).mergeEnd m

def execMergeEnd (s : State) : Out := s.fin (mergeEnds s)

/-- A handover decision: after an accepted SWAP (cause 2), or where the lane in authority has FAILED (1, 5). -/
def handover (s : State) (cause : Nat) : State :=
  match s.auth with
  | none => s
  | some x =>
    let due := cause == 2 && s.laneState x == 5 || (cause == 1 || cause == 5) && s.laneState x == 6
    if due && s.lane.merge.isNone && s.lane.sync.isNone && s.laneState x.other == 4 then s.mergeStart x cause else s

def execHandover (cause : Nat) (s : State) : Out := s.fin (handover s cause)

/-! ### Failure (R355, R358, R362) -/

/-- A lane that waits for the preferred one takes authority at power-up. -/
def State.takeOver (s : State) (l : Lane) (cause : Nat) : State :=
  (((s.setLane l 5).setOwner (some l) cause).moveRole (some l) false)

/-- The taker of a merge is gone: under a SWAP whose giver is sound the giver keeps authority, else nobody has it. -/
def State.takerLost (s : State) (m : Merge) : State :=
  let us := (s.clock.count - m.t) / 1000
  let s := { s with lane := { s.lane with merge := none } }
  let s := (s.showMerge false).ev 0x1204 0 (leBytes 2 us)
  if m.failed then (s.setLane m.giver 6).ownerNone m.cause
  else ((s.moveRole (some m.giver) true).arbitrate).eisGate true

/-- A check of R355 fails: the lane is FAILED, its transmitters are off, and authority passes where it held it. A lane in
RESET diagnoses nothing. -/
def State.failLane (s : State) (l : Lane) (bit : Nat) : State :=
  let st := s.laneState l
  if st = 0 then s
  else
    let s := s.p (healthFld l) (putBit (s.g (healthFld l)) bit true)
    let s := s.ev 0x1202 0 [l.idx, s.g (healthFld l)]
    if st = 6 then s
    else
      let s := { s with lane := { s.lane with failedAt := s.lane.failedAt.set l (some s.up) } }
      let s := (s.setLane l 6).mapPlink l fun p => { p with sending := .idle, wire := none }
      let s := match s.lane.sync with
        | some y => if y.lane = l then s.syncAbort 3 else s
        | none => s
      let cause := if bit = 7 then 5 else 1
      let s := match s.lane.merge with
        | some m =>
          if m.giver = l then { s with lane := { s.lane with merge := some { m with failed := true } } } else s.takerLost m
        | none =>
          if s.isAuth l then (if s.laneState l.other = 4 then s.mergeStart l cause else s.ownerNone cause)
          else if s.auth.isNone && s.lane.together && s.lane.booted.get l.other && s.laneState l.other == 1 then
            s.takeOver l.other 3
          else s
      s.stageCheck

def execLaneFail (l : Lane) (bit : Nat) (s : State) : Out := s.fin (s.failLane l (bit % 8))

/-- LANE_WDOG: the key, from the lane's management core (R356). -/
def laneWdog (s : State) (r : Req) (v : Word) : Nat × State :=
  s.access r Pg.LANE 0x050 [(.rights, r.path != .mgmt), (.value, v.toNat != 0x5744)] fun s =>
    { s with lane := { s.lane with kick := s.lane.kick.set r.lane s.up } }

def execLaneWdog (r : Req) (v : Word) (s : State) : Out := s.answered (laneWdog s r v)

/-- 20 ms without a kick. -/
def execLaneWdogExpire (l : Lane) (s : State) : Out :=
  s.fin (if s.kicks l then (s.runTo (s.lane.kick.get l + 20000000)).failLane l 0 else s)

/-- LANE_APP_WD: KICK by an application core, and TO_MS (R357). A new TO_MS starts both lanes' timers anew. -/
def appWdWrite (s : State) (r : Req) (v : Word) : Nat × State :=
  let kick := getBits v 31 31 == 1
  let app := r.path == .app0 || r.path == .app1
  let new := getBits v 15 0 != s.g F.LANE_APP_WD_TO_MS
  s.access r Pg.LANE 0x054 ((.rights, kick && !app) :: regChecks s r false Pg.LANE 0x054 v) fun s =>
    let s := s.store r Pg.LANE 0x054 v
    let s := if new then { s with lane := { s.lane with appKick := Pair.of s.up } } else s
    if kick then { s with lane := { s.lane with appKick := s.lane.appKick.set r.lane s.up } } else s

def execAppWdKick (r : Req) (s : State) : Out :=
  s.answered (appWdWrite s r (setBits (s.rd r.lane Pg.LANE 0x054) 31 31 1))

/-- TO_MS without a kick. -/
def appWdExpire (s : State) (l : Lane) : State :=
  let to_ms := s.g F.LANE_APP_WD_TO_MS
  if to_ms = 0 ∨ !s.kicks l then s
  else
    let s := s.runTo (s.lane.appKick.get l + 1000000 * to_ms)
    let s := { s with lane := { s.lane with appKick := s.lane.appKick.set l s.up } }
    let s := s.ev 0x120B 0 [l.idx]
    if s.gb F.LANE_CFG_APP_WD_ACT then s.failLane l 6 else s

def execAppWdExpire (l : Lane) (s : State) : Out := s.fin (appWdExpire s l)

/-! ### LANE_CTRL (R359, R364, R366, R372) -/

/-- The rights of SWAP, INJECT, LRESET and SYNC. -/
def laneRights (s : State) (r : Req) : List Chk := [(.auth, !s.isAuth r.lane), (.lock, !s.holds r Pg.LANE)]

/-- The states in which SWAP and INJECT are refused. -/
def State.laneBusy (s : State) (l : Lane) : Bool :=
  s.lane.merge.isSome || s.lane.sync.isSome || s.laneState l.other != 4

def laneSwap (s : State) (r : Req) : Nat × State :=
  s.access r Pg.LANE 0x008 (laneRights s r ++ [(.state, s.laneBusy r.lane)]) fun s =>
    s.mergeStart r.lane 2

def execSwap (r : Req) (s : State) : Out := s.answered (laneSwap s r)

def laneInject (s : State) (r : Req) : Nat × State :=
  s.access r Pg.LANE 0x008 (laneRights s r ++ [(.state, s.laneBusy r.lane || s.inMotion)]) fun s => s.failLane r.lane 7

def execInject (r : Req) (s : State) : Out := s.answered (laneInject s r)

/-! ### Reset of a lane (R364, R366, R367) -/

/-- Does a key of the register file name a per-lane register of a lane? -/
def laneKey (l : Lane) (k : Nat) : Bool :=
  k / 0x100000 == l.idx && !isShared (k / 0x1000 % 0x100) (k % 0x1000)

/-- The Tally program of the active slot. -/
def State.cfgTally (s : State) : Option TallyProg :=
  match s.nv.unit (cfgOff s.nv.cfgSlot) with
  | some ⟨_, _, .config _ p _ _, _⟩ => if s.nv.cfgValid then p else none
  | _ => none

/-- Registers loaded from a list. -/
def State.loadRegs (s : State) (ws : List (Nat × Word)) : State :=
  { s with regs := ws.foldl (fun m x => sput resetWord m x.1 x.2) s.regs }

/-- What the clocks of the module show in a lane's CLK page: a reset of the lane leaves them running (R48, R69). -/
def clkKept (s : State) (l : Lane) : List (Nat × Word) :=
  [0x00C, 0x048, 0x04C].map fun o => (regKey Pg.CLK o l, s.rd l Pg.CLK o)

/-- A lane is reset: its registers stand at their reset and configuration values, its blocks at rest, its locks closed; it
boots. -/
def State.resetLane (s : State) (l : Lane) (src : Nat) : State :=
  let old := s
  let s := (s.syncAbort 3).linkDown l
  let s := match s.lane.merge with
    | some m => if m.giver = l then s else s.takerLost m
    | none => s
  let mine (x : Nat × Word) : Bool := x.1 / 0x800000 == l.idx
  let s := { s with
    regs := s.regs.filter fun x => !laneKey l x.1
    shadow := s.shadow.filter fun x => !mine x
    staged := s.staged.filter fun x => !mine x
    lockT := s.lockT.filter fun x => !laneKey l x.1
    icu := s.icu.set l Icu.reset, plink := s.plink.set l Plink.reset, eis := s.eis.set l Eis.reset
    cdt := s.cdt.set l Cdt.reset, est := s.est.set l Est.reset, bal := s.bal.set l Bal.reset, cle := s.cle.set l Cle.reset
    tally := s.tally.set l Tally.reset, cbus := s.cbus.set l Cbus.reset, dramShut := s.dramShut.set l true
    clock := { s.clock with tsq := s.clock.tsq.set l [], tsqc := s.clock.tsqc.set l [] } }
  let s := s.loadRegs (clkKept old l ++ s.cfgStored.filter fun x => laneKey l x.1)
  let s := (s.p (healthFld l) 0).p (rdyFld l) 0
  let s := { s with lane := { s.lane with
    failedAt := s.lane.failedAt.set l none, src := s.lane.src.set l src, fmon := s.lane.fmon.set l 0
    booted := s.lane.booted.set l false } }
  (s.setLane l 1).arbitrate

def laneReset (s : State) (r : Req) : Nat × State :=
  s.access r Pg.LANE 0x008 (laneRights s r) fun s => s.resetLane r.lane.other 1

def execLreset (r : Req) (s : State) : Out := s.answered (laneReset s r)

/-- 100 ms after its failure a lane is reset, at most three times within 10 min. -/
def autoReset (s : State) (l : Lane) : State :=
  match s.lane.failedAt.get l with
  | none => s
  | some t =>
    if s.laneState l ≠ 6 ∨ !s.gb F.LANE_CFG_AUTO_RST then s
    else
      let now := max s.up (t + 100000000)
      let recent := (s.lane.resets.get l).filter fun u => decide (now < u + 600000000000)
      if 3 ≤ recent.length ∨ (s.lane.merge.isSome && s.isAuth l) then s
      else
        let s := s.runTo (t + 100000000)
        let s := { s with lane := { s.lane with resets := s.lane.resets.set l (recent ++ [s.up]) } }
        s.resetLane l 2

def execLaneAutoReset (l : Lane) (s : State) : Out := s.fin (autoReset s l)

/-! ### The end of a lane's boot (R347, R364, R365, R446) -/

/-- The length of the prefix of records in the recorder region. -/
def recPrefix : Nat → List (Nat × NvUnit) → Nat
  | n, (off, ⟨_, _, .event _, _⟩) :: l => if off = 32 * n then recPrefix (n + 1) l else n
  | n, _ => n

/-- The recorder's index is recovered; while the recorder is full its last record still counts repeats (R445, R446). -/
def State.recStart (s : State) : State :=
  let n := recPrefix 0 (if s.nv.aOk then s.nv.a else s.nv.b)
  let last := match s.nv.unit (32 * logFullSlot) with
    | some ⟨_, _, .event e, _⟩ => some (logFullSlot, e)
    | _ => none
  ({ s with recorder := { s.recorder with
    index := n, known := true, full := decide (131072 ≤ n), last := if 131072 ≤ n then last else none } } : State).recRelease

/-- The management firmware starts after a module reset: the recorder's index, the events of the reset and of the boot, the
order state, the Squall thresholds, and the latches whose event waits (R46, R104, R255, R325, R446, R455, R463). -/
def State.firmwareStart (s : State) : State :=
  let due := s.pwr.due
  let s := ({ s with pwr := { s.pwr with due := [] } } : State).recStart
  let s := due.foldl (fun (s : State) e => s.ev e.1 0 e.2) s
  (s.ordRebuild.squallLoad).raiseLatches

/-- The configured Tally program takes its place, to run from the first epoch after BOOT (R347). -/
def State.tallyBoot (s : State) (l : Lane) : State :=
  match s.cfgTally with
  | none => s
  | some p => ((s.tallyPlace l p).put l F.TALLY_RUN_EP_EPOCH s.nextEpoch).tallyTo l 1

/-- A lane that enters STANDBY at power-up numbers its records as the authority lane does (R17). -/
def State.joinStandby (s : State) (l auth : Lane) : State :=
  (s.setLane l 4).mapPlink l fun p => { p with seqs := (s.plink.get auth).seqs }

/-- A lane completes its boot. -/
def laneBooted (s : State) (l : Lane) : State :=
  if s.laneState l ≠ 1 ∨ s.flash.recovery.get l ∨ s.lane.booted.get l then s
  else
    let s := { s with
      dramShut := s.dramShut.set l false
      lane := { s.lane with kick := s.lane.kick.set l s.up, appKick := s.lane.appKick.set l s.up } }
    let s := s.buildTable l
    let again := s.lane.src.get l != 0
    if s.lane.together && !again then
      let first := !s.lane.booted.get l.other && s.auth.isNone
      let s := if first then s.firmwareStart else s
      let s := { s with lane := { s.lane with booted := s.lane.booted.set l true } }
      let s := s.tallyBoot l
      let alone := s.laneState l.other == 6 || s.laneState l.other == 0 || s.flash.recovery.get l.other
      let pref := s.g F.LANE_CFG_PREF == l.idx
      match s.auth with
      | some x => s.joinStandby l x
      | none =>
        if pref || alone then
          let s := s.takeOver l 3
          if s.lane.booted.get l.other && s.laneState l.other == 1 then s.joinStandby l.other l else s
        else s
    else
      let s := s.ev 0x120A 0 [l.idx, s.lane.src.get l]
      match s.auth with
      | some _ => s.setLane l 2
      | none => (((s.takeOver l 4).loadCounts l).ordRebuild).tallyBoot l

def execLaneBootComplete (l : Lane) (s : State) : Out := s.fin (laneBooted s l)

/-! ### Rejoin (R367 to R370) -/

/-- A lane's channel table with every STATUS word 0. -/
def State.tableBytes (s : State) (l : Lane) : List Nat :=
  (List.range (s.get l F.CDT_COUNT_COUNT)).flatMap fun i =>
    let b := memBytes (s.dram.get l) (s.entryAddr l i) 64
    b.take 0x38 ++ [0, 0, 0, 0] ++ b.drop 0x3C

/-- A lane's table CRC is computed. -/
def State.tableCrc (s : State) (l : Lane) : State := s.p (tblCrcFld l) (crc32c (s.tableBytes l))

/-- LANE_RDY: a lane sets its own bit. -/
def laneRdy (s : State) (r : Req) (v : Word) : Nat × State :=
  let bit (l : Lane) : Bool := bitAt v.toNat l.idx
  s.access r Pg.LANE 0x058 [(.rights, bit r.lane.other)] fun s =>
    if bit r.lane then ((s.p (rdyFld r.lane) 1).tableCrc .a).tableCrc .b else s

def execLaneRdy (r : Req) (v : Word) (s : State) : Out := s.answered (laneRdy s r v)

/-- The immediate invalidation of a lane has run, and its table CRC is computed anew (R97, R368). -/
def execCdtInvalDone (l : Lane) (s : State) : Out :=
  s.fin (if s.getB l F.CDT_STAT_INV_BUSY then (cdtInvalDone s l).tableCrc l else s)

/-- The image hashes of the two lanes' active slots are equal. -/
def State.sameImage (s : State) : Bool :=
  (s.flash.slot .a s.flash.lane.a.active).hash == (s.flash.slot .b s.flash.lane.b.active).hash

/-- Why a sync of the lane beside the authority lane `l` may not start: the reasons of R368. -/
def State.syncBad (s : State) (l : Lane) : Option Nat :=
  if s.laneState l.other ≠ 2 ∨ !s.gb (rdyFld l.other) then some 3
  else if s.lane.merge.isSome ∨ s.laneState l ≠ 5 then some 4
  else if s.mode ≠ St.OPERATE ∧ s.mode ≠ St.CONFIG then some 5
  else if s.inRecovery ∨ !s.sameImage then some 1
  else if s.g F.LANE_TBL_CRC_A_CRC ≠ s.g F.LANE_TBL_CRC_B_CRC then some 2
  else none

/-- A sync starts towards the first epoch at least 2 ms away. -/
def State.syncStart (s : State) (l : Lane) : State :=
  let ep := s.execEpoch (s.clock.count + 2000000)
  let s := { s with lane := { s.lane with sync := some ⟨l, some ep, s.clock.count, false⟩ } }
  ((s.setLane l 3).p F.LANE_STAT_SYNCING 1).ev 0x1206 0 (l.idx :: leBytes 8 ep)

def laneSync (s : State) (r : Req) : Nat × State :=
  let bad := s.syncBad r.lane
  let x := s.access r Pg.LANE 0x008 (laneRights s r ++ [(.state, bad.isSome)]) fun s => s.syncStart r.lane.other
  (x.1, if x.1 = 0x01 then x.2.ev 0x1208 0 [bad.getD 0] else x.2)

/-- LANE_CTRL.SYNC, or the automatic start under AUTO_SYNC. -/
def execSync (r : Option Req) (s : State) : Out :=
  match r with
  | some r => s.answered (laneSync s r)
  | none => s.fin (match s.auth with
    | some l => if s.gb F.LANE_CFG_AUTO_SYNC && (s.syncBad l).isNone then s.syncStart l.other else s
    | none => s)

/-- The pages whose registers a sync copies. -/
def syncPages : List Nat := [Pg.EST, Pg.BAL, Pg.EIS, Pg.CLE, Pg.TALLY, Pg.ORD, Pg.QUE]

/-- Does a sync copy the register of a key of lane `l`? -/
def syncKey (l : Lane) (k : Nat) : Bool :=
  let page := k / 0x1000 % 0x100
  let off := k % 0x1000
  laneKey l k &&
    ((syncPages.contains page && (off == 0x008 || off == 0x00C || decide (0x040 ≤ off))) ||
      (page == Pg.CDT && (off == 0x040 || off == 0x044)))

/-- The authority lane's registers copied into the other lane's pages. -/
def State.copyRegs (s : State) (src : Lane) : State :=
  let dst := src.other
  let ws := (s.regs.filter fun x => syncKey src x.1).map fun x => (x.1 % 0x100000 + 0x100000 * dst.idx, x.2)
  ({ s with regs := s.regs.filter fun x => !syncKey dst x.1 } : State).loadRegs ws

/-- The state of the authority lane's engines, program and streams copied into the other lane. -/
def State.copyLane (s : State) (src : Lane) : State :=
  let dst := src.other
  let d := s.cdt.get src
  let q := s.plink.get src
  let s := s.copyRegs src
  let counts (x : Queue × Queue) : Queue := { x.1 with drop := x.2.drop, discard := x.2.discard, underrun := x.2.underrun }
  { s with
    est := s.est.set dst (s.est.get src), bal := s.bal.set dst (s.bal.get src), eis := s.eis.set dst (s.eis.get src)
    cle := s.cle.set dst (s.cle.get src), tally := s.tally.set dst (s.tally.get src)
    cdt := s.cdt.set dst { s.cdt.get dst with runs := d.runs, told := d.told, vals := d.vals, cache := [] }
    plink := s.plink.set dst { s.plink.get dst with
      seqs := q.seqs, queues := ((s.plink.get dst).queues.zip q.queues).map counts } }

/-- Once the authority lane's EST has processed E_s, its state is copied to the joining lane. -/
def syncCopy (s : State) : State :=
  match s.lane.sync with
  | none => s
  | some y =>
    let src := y.lane.other
    match (s.est.get src).last, (s.est.get src).prev with
    | some e, some (t, _, _) =>
      if y.copied ∨ t < y.t + 2000000 then s
      else
        let s := s.copyLane src
        { s with lane := { s.lane with sync := some { y with ep := some e, copied := true } } }
    | _, _ => s

def execSyncCopy (s : State) : Out := s.fin (syncCopy s)

/-- The CRC field of a lane's latest output block. -/
def State.outCrc (s : State) (l : Lane) : Nat := leAt (s.est.get l).out 0x3C40 4

/-- The joining lane's output of E_s + 1 is compared: on a match it stands by, else it waits again. -/
def syncComplete (s : State) : State :=
  match s.lane.sync with
  | none => s
  | some y =>
    match y.ep, (s.est.get y.lane).last, (s.est.get y.lane.other).last with
    | some e, some p, some q =>
      if !y.copied || p != q || decide (p ≤ e) then s
      else if s.outCrc y.lane = s.outCrc y.lane.other then
        let s := { s with lane := { s.lane with sync := none, divRun := 0, divKinds := 0 } }
        let s := (s.p F.LANE_STAT_SYNCING 0).setLane y.lane 4
        let s := (s.p F.LANE_SYNC_EP_EPOCH e).p F.LANE_CNT_REJOINS (satInc 0xFFFF (s.g F.LANE_CNT_REJOINS))
        ((s.ev 0x1207 0 (y.lane.idx :: leBytes 8 e)).arbitrate).txStart y.lane
      else s.syncAbort 5
    | _, _, _ => s

def execSyncComplete (s : State) : Out := s.fin (syncComplete s)

/-! ### Comparison (R371) and the epoch's processing (R197) -/

/-- The running epoch is judged: a divergent one is counted, and DIV_N in a row return the STANDBY lane to SYNC_WAIT. -/
def State.judgeEpoch (s : State) (epoch : Nat) : State :=
  let kinds := s.lane.divKinds
  let s := { s with lane := { s.lane with divKinds := 0 } }
  if !s.compared then s
  else if kinds = 0 then ({ s with lane := { s.lane with divRun := 0 } } : State).p F.LANE_STAT_DIVERGED 0
  else
    let n := s.lane.divRun + 1
    let s := (s.p F.LANE_DIV_COUNT (satInc 0xFFFF (s.g F.LANE_DIV_COUNT))).p F.LANE_DIV_EST (kinds % 2)
    let s := (s.p F.LANE_DIV_TALLY (kinds / 2 % 2)).p F.LANE_DIV_CLE (kinds / 4 % 2)
    if n < s.g F.LANE_CFG_DIV_N then ({ s with lane := { s.lane with divRun := n } } : State).p F.LANE_STAT_DIVERGED 1
    else
      let s := ({ s with lane := { s.lane with divRun := 0 } } : State).p F.LANE_STAT_DIVERGED 0
      let s := s.ev 0x1209 0 (leBytes 4 (s.rd .a Pg.LANE 0x05C).toNat ++ leBytes 4 epoch)
      match s.auth with
      | some l => (s.setLane l.other 2).stageCheck
      | none => s

/-- The EST of both lanes processes the ready snapshot, and a deferred invalidation changes the table CRC (R368); Tally captures
what it wrote; the lanes' outputs are compared and the epoch is judged. -/
def estProcessing (s : State) : State :=
  match s.snap with
  | none => s
  | some n =>
    let before (l : Lane) : Bool := (s.est.get l).last == some n.epoch
    let s' := estEpoch s
    let s' := lanes.foldl (fun t l => if (s.cdt.get l).deferred = (t.cdt.get l).deferred then t else t.tableCrc l) s'
    let ran := lanes.filter fun l => !before l && (s'.est.get l).last == some n.epoch
    let s' := ran.foldl (fun s l => s.tallyCapture l n.t) s'
    if ran.isEmpty then s'
    else
      let both := ran.length == 2
      (s'.diverge (both && s'.outCrc .a != s'.outCrc .b) 0).judgeEpoch n.epoch

def execEstEpochProcessing (s : State) : Out := s.fin (estProcessing s)

/-- Loop `k` samples at the grid instant `t`; the I_REF of both lanes is compared at every sample of loop 0. -/
def execLoopSample (k t : Nat) (s : State) : Out :=
  let s' := loopInstant s (k % 8) t
  s.fin (s'.diverge (k % 8 == 0 && s'.laneRef .a != s'.laneRef .b) 2)

end Sys2Proof.Machine
end

