-- ==== Sys2Proof/Machine/Icu.lean ====
section
/-! DEFINITION. The interrupt controller's delivery (R431 to R440) and the recorder's write-back, holds and clear
(R443, R444, R448). -/

namespace Sys2Proof.Machine

open Sys2Proof

/-! ### Shared operations -/

/-- A lane's ICU, changed. -/
def State.mapIcu (s : State) (l : Lane) (f : Icu → Icu) : State := { s with icu := s.icu.set l (f (s.icu.get l)) }

/-- A slot of a lane's ICU, changed. -/
def State.mapSlot (s : State) (l : Lane) (k : Nat) (f : IcuSlot → IcuSlot) : State :=
  s.mapIcu l fun i => i.setSlot k (f (i.slot k))

/-- The target that a requester's core is (R431). -/
def coreOf : Path → Option Nat
  | .mgmt => some 0
  | .app0 => some 1
  | .app1 => some 2
  | _ => none

/-- Eight fabric cycles in ns (R436). -/
def lateNs : Nat := 26

/-- May target `t` still claim a slot in the window of R436 or R437? -/
def State.icuLate (s : State) (l : Lane) (t k : Nat) : Bool :=
  (s.icu.get l).window.any fun w => w.1 == k && w.2.1 == t && decide (s.up ≤ w.2.2)

/-- The slots that a target may claim: slot, state, whether in a window. -/
def State.icuOffers (s : State) (l : Lane) (t : Nat) : List (Nat × IcuSlot × Bool) :=
  (s.icu.get l).slots.filterMap fun x =>
    if s.icuDeliverable l t x.1 x.2 then some (x.1, x.2, false)
    else if x.2.pend && !x.2.insvc && s.icuLate l t x.1 then some (x.1, x.2, true) else none

/-- The offer of highest PRIO, ties to the lower slot. -/
def bestOffer : List (Nat × IcuSlot × Bool) → Option (Nat × IcuSlot × Bool)
  | [] => none
  | x :: l =>
    match bestOffer l with
    | none => some x
    | some y => if y.2.1.prio ≤ x.2.1.prio then some x else some y

/-- Windows open for slots that were deliverable to `t` before a write and are not after it. -/
def State.icuWindow (old s : State) (l : Lane) : State :=
  let lost := (old.icu.get l).slots.filterMap fun x =>
    let t := x.2.now
    if old.icuDeliverable l t x.1 x.2 && !s.icuDeliverable l t x.1 ((s.icu.get l).slot x.1) then some (x.1, t, s.up + lateNs)
    else none
  s.mapIcu l fun i => { i with window := i.window.filter (fun w => decide (s.up ≤ w.2.2)) ++ lost }

/-! ### Claim and service (R431) -/

/-- A read of ICU_Tt_CLAIM: the best slot goes into service; another requester than the target's core reads 0. -/
def icuClaim (s : State) (r : Req) (t : Nat) : Nat × State :=
  let l := r.lane
  if coreOf r.path ≠ some t then (0, s)
  else match bestOffer (s.icuOffers l t) with
    | none => (0, s)
    | some (k, x, late) =>
      let hold := x.legacy && s.get l (F.ICU_HOLD_g_HOLD_US (k / 16)) != 0
      let s := s.mapSlot l k fun x => { x with
        pend := false, count := 0, timed := false, insvc := true, server := t, moved := false, rerouted := x.moved }
      let s := s.mapIcu l fun i => { i with
        deliv := (i.deliv + 1) % 2 ^ 16, window := i.window.filter fun w => w.1 != k
        holding := if hold then (k / 16, s.up) :: i.holding.filter (·.1 != k / 16) else i.holding }
      let info := b2n x.moved * 2 ^ 31 + b2n late * 2 ^ 30 + k
      (x.count * 2 ^ 24 + x.last * 2 ^ 8 + k, s.wr l Pg.ICU (0x10C + 0x10 * t) (BitVec.ofNat 32 info))

def execIcuClaim (r : Req) (t : Nat) (s : State) : Out := s.readBy r Pg.ICU (0x100 + t % 4 * 16) (icuClaim s r (t % 4))

/-- A write of ICU_Tt_EOI: the service of the slot ends. -/
def icuEoi (s : State) (r : Req) (t : Nat) (v : Word) : Nat × State :=
  let k := getBits v 7 0
  let x := (s.icu.get r.lane).slot k
  s.access r Pg.ICU (0x104 + 0x10 * t) [(.value, !x.insvc || x.server != t)] fun s =>
    (s.mapSlot r.lane k fun x => { x with insvc := false }).icuRouse r.lane

def execIcuEoi (r : Req) (t k : Nat) (s : State) : Out := s.answered (icuEoi s r (t % 4) (BitVec.ofNat 32 (k % 256)))

/-! ### Moderation, hold-offs, rerouting (R432, R433, R438) -/

/-- TIME_US has passed since the first raising. -/
def icuModTimeout (s : State) (l : Lane) (k : Nat) : State :=
  let x := (s.icu.get l).slot k
  if x.pend && x.timeUs != 0 then
    ((s.runTo (x.firstAt + 1000 * x.timeUs)).mapSlot l k fun x => { x with timed := true }).icuRouse l
  else s

def execIcuModTimeout (l : Lane) (k : Nat) (s : State) : Out := s.fin (icuModTimeout s l (k % 256))

/-- HOLD_US has passed since the delivery that began a group's hold-off. -/
def icuHoldoffEnd (s : State) (l : Lane) (g : Nat) : State :=
  match (s.icu.get l).holding.find? (·.1 == g) with
  | none => s
  | some x =>
    let s := s.runTo (x.2 + 1000 * s.get l (F.ICU_HOLD_g_HOLD_US g))
    (s.mapIcu l fun i => { i with holding := i.holding.filter (·.1 != g) }).icuRouse l

def execIcuHoldoffEnd (l : Lane) (g : Nat) (s : State) : Out := s.fin (icuHoldoffEnd s l (g % 16))

/-- A pending slot that stands at target 3 is handed to the exporter, unless each of its raisings has been exported. -/
def State.icuToExport (s : State) (l : Lane) (k : Nat) : State :=
  let x := (s.icu.get l).slot k
  let s := s.mapSlot l k fun x => { x with pend := false, count := 0, timed := false, moved := false, rerouted := x.moved }
  if x.xcopy then s
  else
    let y := s.exportFrom l (s.stamp ⟨[l], x.last, 0, [], false⟩)
    raiseAll raiseDepth y.1 y.2

/-- A slot has waited TO_US for a sleeping target: it moves to FB, once. -/
def icuReroute (s : State) (l : Lane) (k : Nat) : State :=
  let x := (s.icu.get l).slot k
  let t := x.target
  if x.moved || x.fb == t || x.waitAt.isNone then s
  else
    let s := s.runTo (x.waitAt.getD 0 + 1000 * s.get l F.ICU_REROUTE_TO_TO_US)
    let s := s.mapSlot l k fun x => { x with moved := true, rerouted := true, waitAt := none }
    let s := s.mapIcu l fun i => { i with reroutes := satInc 0xFFFF i.reroutes }
    let s := s.evL l 0x1601 0 [k, t, x.fb]
    if x.fb = 3 then s.icuToExport l k else s

def execIcuRerouteTimeout (l : Lane) (k : Nat) (s : State) : Out := s.fin (icuReroute s l (k % 256))

/-- A core enters its low-power wait; a WAKE slot that is deliverable to it wakes it at once. -/
def execIcuTargetSleep (l : Lane) (t : Nat) (s : State) : Out :=
  s.fin (if t < 3 then (s.mapIcu l fun i => { i with sleep := t :: i.sleep.filter (· != t) }).icuRouse l else s)

def execIcuTargetWake (l : Lane) (t : Nat) (s : State) : Out :=
  s.fin ((s.mapIcu l fun i => { i with sleep := i.sleep.filter (· != t) }).icuRouse l)

/-! ### The page (R435, R436, R437, R440) -/

/-- The buffered export entries go to the exporter once DIS[3] is 0. -/
def State.icuFlushExport (s : State) (l : Lane) : State :=
  let es := (s.icu.get l).expBuf
  let s := s.mapIcu l fun i => { i with expBuf := [] }
  let x := es.foldl (fun (x : State × List Raising) e =>
    let (s, f) := x.1.exportEntry e
    (s, x.2 ++ f)) (s, [])
  raiseAll raiseDepth x.1 x.2

/-- ICU_GDIS. -/
def icuGdisWrite (s : State) (r : Req) (v : Word) : Nat × State :=
  s.access r Pg.ICU 0x040 [] fun s =>
    let s' := s.put r.lane F.ICU_GDIS_DIS (getBits v 3 0)
    let s' := (State.icuWindow s s' r.lane).icuRouse r.lane
    if bitAt (getBits v 3 0) 3 then s' else s'.icuFlushExport r.lane

def execIcuGdisWrite (r : Req) (v : Word) (s : State) : Out := s.answered (icuGdisWrite s r v)

/-- ICU_MASKn. -/
def icuMaskWrite (s : State) (r : Req) (n : Nat) (v : Word) : Nat × State :=
  s.access r Pg.ICU (0x0E0 + 4 * n) [] fun s =>
    (State.icuWindow s (s.wr r.lane Pg.ICU (0x0E0 + 4 * n) v) r.lane).icuRouse r.lane

def execIcuMaskWrite (r : Req) (n : Nat) (v : Word) (s : State) : Out := s.answered (icuMaskWrite s r (n % 8) v)

/-- ICU_S_MATCH, ICU_S_CFG and ICU_S_MOD of the slot that ICU_SEL names. -/
def icuSlotWrite (s : State) (r : Req) (off : Nat) (v : Word) : Nat × State :=
  let l := r.lane
  let k := s.get l F.ICU_SEL_SLOT
  let cnt := getBits v 31 24
  let bad := off == 0x054 && (cnt == 0 || (decide (1 < cnt) && getBits v 15 0 == 0))
  s.access r Pg.ICU off [(.value, bad)] fun s =>
    let f (x : IcuSlot) : IcuSlot :=
      if off = 0x04C then { x with code := getBits v 31 16, mask := getBits v 15 0 }
      else if off = 0x050 then
        { x with
          en := getBits v 31 31 == 1, legacy := getBits v 30 30 == 1, wake := getBits v 29 29 == 1
          xcopy := getBits v 28 28 == 1, prio := getBits v 27 24, target := getBits v 23 22, fb := getBits v 21 20
          moved := x.moved && x.target == getBits v 23 22
          waitAt := if x.target = getBits v 23 22 then x.waitAt else none }
      else { x with
        cnt := cnt, timeUs := getBits v 15 0
        timed := x.timed && getBits v 15 0 != 0 && decide (x.firstAt + 1000 * getBits v 15 0 ≤ s.up) }
    (State.icuWindow s (s.mapSlot l k f) l).icuRouse l

/-- ICU_STAT, whose read clears RESTORED. -/
def icuStatRead (s : State) (l : Lane) : Nat × State := (s.icuStat l, s.mapIcu l fun i => { i with restored := false })

def execIcuStatRead (r : Req) (s : State) : Out := s.readBy r Pg.ICU 0x00C (icuStatRead s r.lane)

/-- ICU_UNMATCHED is returned and cleared. -/
def icuUnmatchedRead (s : State) (l : Lane) : Nat × State :=
  (s.icuUnmatched l, s.mapIcu l fun i => { i with unmatched := 0, lost := 0, lostLull := 0 })

def execIcuUnmatchedRead (r : Req) (s : State) : Out := s.readBy r Pg.ICU 0x05C (icuUnmatchedRead s r.lane)

/-- ICU_CTRL.SRESET: pending flags, counts, service, hold-offs and moderation timers are cleared (R438's table). -/
def State.icuSreset (s : State) (l : Lane) : State :=
  s.mapIcu l fun i => { i with
    holding := [], window := []
    slots := i.slots.map fun x => (x.1, { x.2 with
      pend := false, count := 0, insvc := false, server := 0, timed := false, moved := false, waitAt := none }) }

/-! ### The recorder (R443, R444, R448) -/

/-- REPEAT of the last record goes back to NV, at most once per 100 ms (R443). -/
def evrRepeatWriteback (s : State) : State :=
  if s.bo || !s.recorder.dirty then s else (s.runTo (s.recorder.backAt + 100000000)).repeatBack

def execEvrRepeatWriteback (s : State) : Out := s.fin (evrRepeatWriteback s)

/-- A hold ends. -/
def execEvrHoldEnd (s : State) : Out := s.fin s.recRelease

/-- EVR_CLEAR.CLEAR: the region is zeroed in 1,024 NV units from its top. -/
def evrClear (s : State) (r : Req) : Nat × State :=
  s.access r Pg.EVR 0x078
    [(.hw, s.nv.gone), (.presence, s.noPresence r), (.state, s.bo), (.busy, s.recorder.clearing.isSome)] fun s =>
      ({ s with recorder := { s.recorder with clearing := some s.recorder.index } } : State).nvWrite 0 0 (.wipe 3) 1023

def execEvrClear (r : Req) (s : State) : Out := s.answered (evrClear s r)

/-- The zeros of the clear still wait or are being written; a brown-out suspends them (R42). -/
def State.recWiping (s : State) : Bool := (s.nv.busy.toList ++ s.nv.queue).any fun u => u.body == .wipe 3 && u.off == 0

/-- The clear is complete: nothing is recorded, the buckets are full, record 0 names the index before. -/
def evrClearDone (s : State) : State :=
  match s.recorder.clearing with
  | none => s
  | some n =>
    if s.bo || s.recWiping then s
    else
      let s := { s with
        recorder := { s.recorder with
          index := 0, full := false, last := none, dirty := false, buckets := [], rest := Bucket.shared, clearing := none } }
      let e := s.stamp ⟨lanes, 0x1702, 0, leBytes 4 n, false⟩
      ((s.recWrite e).ev 0x1702 0 (leBytes 4 n)).recRelease

def execEvrClearDone (s : State) : Out := s.fin (evrClearDone s)

end Sys2Proof.Machine
end

