-- ==== Sys2Proof/Machine/Image.lean ====
section
/-! DEFINITION. Images and their checks (R462, R463): the header, SHA-512 (FIPS 180-4), and the verdict of a boot ROM on a
slot. -/

namespace Sys2Proof.Machine

open Sys2Proof

/-! ### SHA-512 (FIPS 180-4) -/

/-- The 80 round constants, in rows of five. -/
def shaK : List Nat :=
  [0x428A2F98D728AE22, 0x7137449123EF65CD, 0xB5C0FBCFEC4D3B2F, 0xE9B5DBA58189DBBC, 0x3956C25BF348B538] ++
  [0x59F111F1B605D019, 0x923F82A4AF194F9B, 0xAB1C5ED5DA6D8118, 0xD807AA98A3030242, 0x12835B0145706FBE] ++
  [0x243185BE4EE4B28C, 0x550C7DC3D5FFB4E2, 0x72BE5D74F27B896F, 0x80DEB1FE3B1696B1, 0x9BDC06A725C71235] ++
  [0xC19BF174CF692694, 0xE49B69C19EF14AD2, 0xEFBE4786384F25E3, 0x0FC19DC68B8CD5B5, 0x240CA1CC77AC9C65] ++
  [0x2DE92C6F592B0275, 0x4A7484AA6EA6E483, 0x5CB0A9DCBD41FBD4, 0x76F988DA831153B5, 0x983E5152EE66DFAB] ++
  [0xA831C66D2DB43210, 0xB00327C898FB213F, 0xBF597FC7BEEF0EE4, 0xC6E00BF33DA88FC2, 0xD5A79147930AA725] ++
  [0x06CA6351E003826F, 0x142929670A0E6E70, 0x27B70A8546D22FFC, 0x2E1B21385C26C926, 0x4D2C6DFC5AC42AED] ++
  [0x53380D139D95B3DF, 0x650A73548BAF63DE, 0x766A0ABB3C77B2A8, 0x81C2C92E47EDAEE6, 0x92722C851482353B] ++
  [0xA2BFE8A14CF10364, 0xA81A664BBC423001, 0xC24B8B70D0F89791, 0xC76C51A30654BE30, 0xD192E819D6EF5218] ++
  [0xD69906245565A910, 0xF40E35855771202A, 0x106AA07032BBD1B8, 0x19A4C116B8D2D0C8, 0x1E376C085141AB53] ++
  [0x2748774CDF8EEB99, 0x34B0BCB5E19B48A8, 0x391C0CB3C5C95A63, 0x4ED8AA4AE3418ACB, 0x5B9CCA4F7763E373] ++
  [0x682E6FF3D6B2B8A3, 0x748F82EE5DEFB2FC, 0x78A5636F43172F60, 0x84C87814A1F0AB72, 0x8CC702081A6439EC] ++
  [0x90BEFFFA23631E28, 0xA4506CEBDE82BDE9, 0xBEF9A3F7B2C67915, 0xC67178F2E372532B, 0xCA273ECEEA26619C] ++
  [0xD186B8C721C0C207, 0xEADA7DD6CDE0EB1E, 0xF57D4F7FEE6ED178, 0x06F067AA72176FBA, 0x0A637DC5A2C898A6] ++
  [0x113F9804BEF90DAE, 0x1B710B35131C471B, 0x28DB77F523047D84, 0x32CAAB7B40C72493, 0x3C9EBE0A15C9BEBC] ++
  [0x431D67C49C100D4C, 0x4CC5D4BECB3E42B6, 0x597F299CFC657E2A, 0x5FCB6FAB3AD6FAEC, 0x6C44198C4A475817]

/-- The initial hash value. -/
def shaH : List Nat :=
  [0x6A09E667F3BCC908, 0xBB67AE8584CAA73B, 0x3C6EF372FE94F82B, 0xA54FF53A5F1D36F1,
    0x510E527FADE682D1, 0x9B05688C2B3E6C1F, 0x1F83D9ABFB41BD6B, 0x5BE0CD19137E2179]

/-- Right rotation of a 64-bit word. -/
def rotr64 (x n : Nat) : Nat := x / 2 ^ n + x % 2 ^ n * 2 ^ (64 - n)

/-- The exclusive or of three words. -/
def xor3 (a b c : Nat) : Nat := Nat.xor (Nat.xor a b) c

/-- The padded message: the bit 1, zeros up to 112 bytes modulo 128, and the length in bits, big-endian. -/
def shaPad (m : List Nat) : List Nat :=
  let n := m.length
  m ++ [0x80] ++ List.replicate ((239 - n % 128) % 128) 0 ++ (leBytes 16 (8 * n)).reverse

/-- The 64-bit big-endian words of a byte list. -/
def beWords : Nat → List Nat → List Nat
  | 0, _ => []
  | n + 1, bs => ofLe (bs.take 8).reverse :: beWords n (bs.drop 8)

/-- The message schedule, latest word first, extended by `n` words. -/
def shaExpand : Nat → List Nat → List Nat
  | 0, w => w
  | n + 1, w =>
    let s0 := let x := w.getD 14 0; xor3 (rotr64 x 1) (rotr64 x 8) (x / 2 ^ 7)
    let s1 := let x := w.getD 1 0; xor3 (rotr64 x 19) (rotr64 x 61) (x / 2 ^ 6)
    shaExpand n ((w.getD 15 0 + s0 + w.getD 6 0 + s1) % 2 ^ 64 :: w)

/-- One round on the eight working variables a to h. -/
def shaRound (v : List Nat) (k w : Nat) : List Nat :=
  let x (i : Nat) : Nat := v.getD i 0
  let s1 := xor3 (rotr64 (x 4) 14) (rotr64 (x 4) 18) (rotr64 (x 4) 41)
  let ch := Nat.xor (Nat.land (x 4) (x 5)) (Nat.land (2 ^ 64 - 1 - x 4) (x 6))
  let t1 := x 7 + s1 + ch + k + w
  let s0 := xor3 (rotr64 (x 0) 28) (rotr64 (x 0) 34) (rotr64 (x 0) 39)
  let maj := xor3 (Nat.land (x 0) (x 1)) (Nat.land (x 0) (x 2)) (Nat.land (x 1) (x 2))
  [(t1 + s0 + maj) % 2 ^ 64, x 0, x 1, x 2, (x 3 + t1) % 2 ^ 64, x 4, x 5, x 6]

/-- One block of 128 bytes. -/
def shaBlock (h block : List Nat) : List Nat :=
  let w := (shaExpand 64 (beWords 16 block).reverse).reverse
  let v := (shaK.zip w).foldl (fun v x => shaRound v x.1 x.2) h
  (h.zip v).map fun x => (x.1 + x.2) % 2 ^ 64

/-- The blocks of a padded message. -/
def shaBlocks : Nat → List Nat → List Nat → List Nat
  | 0, h, _ => h
  | n + 1, h, bs => shaBlocks n (shaBlock h (bs.take 128)) (bs.drop 128)

/-- SHA-512 of a byte list, 64 bytes. -/
def sha512 (m : List Nat) : List Nat :=
  let p := shaPad m
  (shaBlocks (p.length / 128) shaH p).flatMap fun x => (leBytes 8 x).reverse

/-! ### The image header (R462) -/

/-- The fields of an image that the module shows and checks. -/
def imgLen (bs : List Nat) : Nat := leAt bs 0x004 4
def imgRollback (bs : List Nat) : Nat := leAt bs 0x008 2
def imgKey (bs : List Nat) : Nat := leAt bs 0x00A 1
def imgBuild (bs : List Nat) : Nat := leAt bs 0x00C 4
def imgHash (bs : List Nat) : List Nat := slice bs 0x040 64

/-- The first check of R463 that an image fails, 0 for none: 1 MAGIC, VERSION or LENGTH, 2 HASH, 3 SIG, 4 an empty key
entry, 5 ROLLBACK below the counter. -/
def imageReason (counter : Nat) (bs : List Nat) : Nat :=
  if leAt bs 0x000 2 ≠ 0x494D ∨ leAt bs 0x002 2 ≠ 0x0001 ∨ imgLen bs = 0 ∨ 31453184 < imgLen bs then 1
  else if sha512 (slice bs 0x1000 (imgLen bs)) ≠ imgHash bs then 2
  else if !Config.signed (imgKey bs) (slice bs 0 0x0C0) (slice bs 0x0C0 64) then 3
  else if !Config.keyPresent (imgKey bs) then 4
  else if imgRollback bs < counter then 5
  else 0

/-- The verdict on a slot: 6 where it is empty; for an image whose bytes the manual does not give, its ROLLBACK decides. -/
def Slot.reason (x : Slot) (counter : Nat) : Nat :=
  if x.st < 2 then 6
  else match x.bytes with
    | some bs => imageReason counter bs
    | none => if x.rollback < counter then 5 else 0

end Sys2Proof.Machine
end

