-- ==== Sys2Proof/Machine/Power.lean ====
section
/-! DEFINITION. Reset and power: the reconciliation of the MRAMs (R104), the boot (R463), the restart of the module (R46,
R480, R479), the power-fail sequence (R42 to R45) and the actuator supply (R40). -/

namespace Sys2Proof.Machine

open Sys2Proof

/-! ### Reconciliation (R104, R446) -/

/-- The copy that two valid, different copies of a unit leave, and whether it is a conflict: the higher sequence number
wins, at the same number lane A's copy, of two records the one with the higher REPEAT. A latched lock-out wins always. -/
def judgeCopies (u v : NvUnit) : NvUnit × Bool :=
  let w := if u.seq < v.seq then v else u
  let clash := u.seq == v.seq
  match u.body, v.body with
  | .lockout true .., .lockout false .. => (u, false)
  | .lockout false .., .lockout true .. => (v, false)
  | .event e, .event f => if clash then (if e.rep < f.rep then (v, false) else (u, e.rep == f.rep)) else (w, false)
  | _, _ => (w, clash)

/-- A unit after reconciliation, and whether lane A's copy won at equal sequences. -/
def reconcileUnit (a b : Option NvUnit) : Option NvUnit × Bool :=
  match a, b with
  | none, v => (v, false)
  | u, none => (u, false)
  | some u, some v => if u = v then (some u, false) else let (w, c) := judgeCopies u v; (some w, c)

/-- What reconciliation finds: the units, the offsets written to lane A's and to lane B's MRAM, and the conflicts. -/
structure Recon where
  units : List (Nat × NvUnit)
  toA : List Nat
  toB : List Nat
  conflicts : Nat
deriving DecidableEq, Repr

/-- Both MRAMs pass: each unit is reconciled. -/
def reconcile (a b : List (Nat × NvUnit)) : Recon :=
  let offs := a.map (·.1) ++ (b.map (·.1)).filter fun o => (unitAt a o).isNone
  offs.foldl (fun (r : Recon) o =>
    let x := reconcileUnit (unitAt a o) (unitAt b o)
    match x.1 with
    | some u => ⟨placeUnit u r.units, if unitAt a o = some u then r.toA else r.toA ++ [o],
        if unitAt b o = some u then r.toB else r.toB ++ [o], r.conflicts + b2n x.2⟩
    | none => r) ⟨[], [], [], 0⟩

/-- The unit in progress at a reset completes in every MRAM in use (R42, R473). -/
def Nv.complete (n : Nv) (us : List NvUnit) : Nv :=
  us.foldl (fun (n : Nv) u =>
    { n with a := if n.aOk then writtenUnit u n.a else n.a, b := if n.bOk then writtenUnit u n.b else n.b }) n

/-- The MRAM offset of the reconciliation test unit, and of the keys and the rollback counter (R102). -/
def testOff : Nat := 0x7F1000
def keyOff : Nat := 0x7F0000

/-- The configuration unit of a slot, if it holds a valid one. -/
def cfgUnit (m : List (Nat × NvUnit)) (slot : Nat) : Option (Nat × Bool × Bool) :=
  match unitAt m (cfgOff slot) with
  | some ⟨_, q, .config _ _ owner valid, _⟩ => some (q, owner, valid)
  | _ => none

/-- The active configuration slot: the valid one with the higher sequence number. -/
def cfgActive (m : List (Nat × NvUnit)) : Option (Nat × Nat × Bool × Bool) :=
  match cfgUnit m 0, cfgUnit m 1 with
  | some (q, o, v), some (q', o', v') => if q < q' then some (1, q', o', v') else some (0, q, o, v)
  | some (q, o, v), none => some (0, q, o, v)
  | none, some (q, o, v) => some (1, q, o, v)
  | none, none => none

/-- What the reconciliation of a reset leaves: the NV store, the events to raise once the recorder runs, the units copied and
the conflicts, and the offset at which each MRAM failed. -/
structure NvStart where
  nv : Nv
  due : List (Nat × List Nat)
  repaired : Nat
  conflicts : Nat
  aFail : Option Nat
  bFail : Option Nat
deriving DecidableEq, Repr

/-- The NV store after the reconciliation of a reset. `aBad` and `bBad` are the offsets at which a write to lane A's and to
lane B's MRAM fails its verification: the test of R104 writes the test unit, reconciliation what it copies. -/
def Nv.restart (n : Nv) (aBad bBad : List Nat) : NvStart :=
  let aTest := !aBad.contains testOff
  let bTest := !bBad.contains testOff
  let r : Recon := if aTest && bTest then reconcile n.a n.b else ⟨if aTest then n.a else if bTest then n.b else [], [], [], 0⟩
  let aFail := if aTest then r.toA.find? aBad.contains else some testOff
  let bFail := if bTest then r.toB.find? bBad.contains else some testOff
  let c : Nat × Nat × Bool × Bool := (cfgActive r.units).getD (0, 0, false, false)
  let repaired := min 0xFFFF (r.toA ++ r.toB).length
  let conflicts := min 0xFFFF r.conflicts
  let n := { n.rearm with
    a := if aTest then r.units else n.a, b := if bTest then r.units else n.b, aOk := aFail.isNone, bOk := bFail.isNone
    queue := [], busy := none, writes := 0, commit := none, cfgSlot := c.1, cfgSeq := c.2.1, cfgValid := c.2.2.2 }
  let n := match unitAt r.units sealOff with
    | some ⟨_, _, .seal f k, _⟩ => { n with sealed := some f, removals := k }
    | _ => { n with sealed := none, removals := 0 }
  let copied := if repaired = 0 then [] else [(0x1802, leBytes 2 repaired ++ leBytes 2 conflicts ++ [b2n (conflicts != 0)])]
  let lost := if n.aOk && n.bOk then [] else if n.aOk || n.bOk then [(0x1806, []), (0x1801, [])]
    else [(0x1806, []), (0x1806, []), (0x1807, [])]
  ⟨n, copied ++ lost, repaired, conflicts, aFail, bFail⟩

/-! ### The boot (R463) -/

/-- Faults that a lane's own flash has come to hold, each a slot and the reason that its check gives. -/
def Flash.harm (f : Flash) (bad : List (Lane × Nat × Nat)) : Flash :=
  bad.foldl (fun (f : Flash) b =>
    let z := f.lane.get b.1
    { f with lane := f.lane.set b.1 { z with faults := sput (fun _ => 0) z.faults (b.2.1 % 2) (b.2.2 % 7) } }) f

/-- A check of a lane's boot ROM: what the slot of its flash holds, else a fault of that flash. -/
def Flash.verdict (f : Flash) (l : Lane) (slot : Nat) : Nat :=
  let x := (f.slot l slot).reason f.rollback
  if x ≠ 0 then x else sget (fun _ => 0) (f.lane.get l).faults slot

/-- What a boot decides: the slot booted, whether it is a fallback, the lanes in recovery, and the failed checks. -/
structure BootPlan where
  slot : Nat
  fallback : Bool
  recovery : Pair Bool
  failed : List (Lane × Nat × Nat)
deriving DecidableEq, Repr

/-- The outcomes of R463. -/
def Flash.boot (f : Flash) : BootPlan :=
  let n := f.active
  let m := 1 - n
  let v := f.verdict
  let fails (slot : Nat) : List (Lane × Nat × Nat) :=
    lanes.filterMap fun l => if v l slot = 0 then none else some (l, slot, v l slot)
  if (fails n).isEmpty then ⟨n, false, Pair.of false, []⟩
  else
    let failed := fails n ++ fails m
    if (fails m).isEmpty then ⟨m, true, Pair.of false, failed⟩
    else if v .a n = 0 then ⟨n, false, ⟨false, true⟩, failed⟩
    else if v .b n = 0 then ⟨n, false, ⟨true, false⟩, failed⟩
    else if v .a m = 0 then ⟨m, false, ⟨false, true⟩, failed⟩
    else if v .b m = 0 then ⟨m, false, ⟨true, false⟩, failed⟩
    else ⟨n, false, Pair.of true, failed⟩

/-- The flashes after a boot: a running staging has left its slot empty, and the booted slot is marked. -/
def Flash.restart (f : Flash) (p : BootPlan) : Flash :=
  let f := match f.staging with
    | some (0, _) => f.setSlot f.idle Slot.empty
    | _ => f
  let f := if p.fallback then f.nameSlot p.slot else f
  let mark (l : Lane) (k : Nat) (x : Slot) : Slot :=
    if k = p.slot && x.st != 0 && !p.recovery.get l then { x with st := 3 }
    else if x.st = 3 then { x with st := 2 } else x
  let own (l : Lane) : FlashStore :=
    let z := f.lane.get l
    { z with slots := ⟨mark l 0 z.slots.a, mark l 1 z.slots.b⟩ }
  { f with lane := ⟨own .a, own .b⟩, booted := p.slot, staging := none, acting := none, recovery := p.recovery }

/-! ### The restart (R46, R480) -/

/-- The lock-out as reconciliation left it (R104, R274). -/
def State.loadLockout (s : State) : State :=
  match s.nv.unit lockoutOff with
  | some ⟨_, _, .lockout latched cause count opsec _ epoch, _⟩ =>
    let s := (s.p F.SAFE_LOCKOUT_LATCHED (b2n latched)).p F.SAFE_LOCKOUT_CAUSE cause
    let s := ((s.p F.SAFE_LOCKOUT_COUNT count).p F.SAFE_LO_T_OPSEC opsec).p F.SAFE_LO_EP_EPOCH epoch
    s.p F.SAFE_STATE_SF (if latched then 2 ^ 4 else 0)
  | _ => s

/-- The sequence number of the latest thermal-trip record (R456). -/
def tripSeq (m : List (Nat × NvUnit)) : Nat :=
  m.foldl (fun q x => match x.2.body with
    | .trip n .. => max q n
    | _ => q) 0

/-- The serials that the configuration holds, by monitor (R113). -/
def State.loadSerials (s : State) (ws : List (Nat × Word)) : State :=
  let word (k h : Nat) : Nat := (sget (fun _ => (0 : Word)) ws (serialKey k h)).toNat
  let ks := (List.range 41).filter fun k => word k 0 != 0 || word k 1 != 0
  ks.foldl (fun s k =>
    { s with chain := s.chain.setInf k { s.chain.inf k with serCfg := word k 0 + 2 ^ 32 * word k 1 } }) s

/-- The delay asymmetries and the domain that the configuration holds (R53). -/
def State.loadClock (s : State) (ws : List (Nat × Word)) : State :=
  let word (k : Nat) : Nat := (sget (fun _ => (0 : Word)) ws (clockKey k)).toNat
  { s with clock := { s.clock with asym := ⟨toSigned 32 (word 0), toSigned 32 (word 1)⟩, domain := word 2 % 128 } }

/-- The registers that a module reset without loss of power keeps: what the power section measures, and a Squall latch with
its time (R255, R480). -/
def keptWords (s : State) : List (Nat × Word) :=
  [(Pg.PWR, 0x00C), (Pg.PWR, 0x040), (Pg.PWR, 0x044), (Pg.PWR, 0x048), (Pg.PWR, 0x04C), (Pg.PWR, 0x050),
    (Pg.PROT, 0x04C), (Pg.PROT, 0x050)].map fun x => (regKey x.1 x.2 .a, s.rd .a x.1 x.2)

/-- The clocks run: crystal, root and lock, with the safety channel's verdict in both places (R46, R48, R69). -/
def State.clocksRun (s : State) : State :=
  ((s.put2 F.CLK_STAT_TCXO_OK 1).put2 F.CLK_STAT_PLL_LOCK 1).put2 F.CLK_STAT_ROOT_OK 1 |>.put2 F.CLK_SUP_ROOT_OK 1

/-- What the reconciliation shows in NVM_RECON and NVM_FAULT; of two lost MRAMs lane B's is the latest. -/
def NvStart.shown (x : NvStart) (s : State) : State :=
  let s := (s.put2 F.NVM_RECON_REPAIRED x.repaired).put2 F.NVM_RECON_CONFLICTS x.conflicts
  let s := match x.aFail with
    | some o => s.nvFault false o
    | none => s
  match x.bFail with
  | some o => s.nvFault true o
  | none => s

/-- The events of a reset that are raised once the recorder runs: in SHUTDOWN also those that it could not take, and those of
its end (R100, R455). -/
def State.resetEvents (s : State) (seq : Nat) : List (Nat × List Nat) :=
  if s.mode = St.SHUTDOWN then s.pwr.due ++ [(0x0001, [St.SHUTDOWN, St.BOOT]), (0x0406, leBytes 4 seq)] else []

/-- The module starts anew, powered: `cause` is the cause of the reset, `aBad` and `bBad` the offsets at which a write to lane
A's and lane B's MRAM fails its verification, `bad` the faults that a lane's flash has come to hold, `still` the NV units that
still complete. Everything stands as at reset but what NV, the flashes, the monitors and the power section hold; the safety
channel's self-test runs (R46, R480). -/
def State.restart (s : State) (cause : Nat) (aBad bBad : List Nat) (bad : List (Lane × Nat × Nat)) (still : List NvUnit) :
    State :=
  let start := (s.nv.complete still).restart aBad bBad
  let nv := start.nv
  let powered := decide (cause ≤ 1)
  let nv := { nv with boot := (nv.boot + 1) % 2 ^ 32, pwrcyc := if powered then (nv.pwrcyc + 1) % 2 ^ 32 else nv.pwrcyc }
  let counter := match nv.unit keyOff with
    | some ⟨_, _, .rollback v, _⟩ => v
    | _ => 0
  let flash := ({ s.flash with rollback := counter } : Flash).harm bad
  let plan := flash.boot
  let final := if plan.fallback then 5 else cause
  let due := start.due ++ plan.failed.map fun f => (0x1905, [f.1.idx, f.2.1, f.2.2])
  let seq := tripSeq (if nv.aOk then nv.a else nv.b)
  let n : State := { State.reset with
    free := s.free, answer := s.answer, pending := s.pending, nv := nv, mons := s.mons
    flash := flash.restart plan
    dram := if powered then State.reset.dram else s.dram, sram := if powered then State.reset.sram else s.sram
    pwr := { Power.reset with
      exhausted := s.pwr.exhausted && !powered, on := true
      due := due ++ s.resetEvents seq }
    prot := if powered then Prot.reset else { Prot.reset with unraised := s.prot.unraised }
    safe := { Safe.reset with actLow := powered || s.safe.actLow } }
  let n := if powered then n else n.loadRegs (keptWords s)
  let ws := n.cfgStored
  let regs := ws.filter fun x => decide (x.1 < 0x10000000) && isCfgKey x.1 && x.1 % 0x1000 != 0x024
  let n := (((n.loadRegs regs).loadSerials ws).loadClock ws).loadEst
  let n := { n with lane := { n.lane with together := true } }
  let n := (n.p F.SYS_STATE_OWNER_LOCK (b2n ((cfgActive (if nv.aOk then nv.a else nv.b)).any (·.2.2.1))))
  let sticky := if powered then 0 else s.g F.SYS_RST_CAUSE_STICKY
  let n := (n.p F.SYS_RST_CAUSE_CAUSE final).p F.SYS_RST_CAUSE_STICKY (putBit (putBit sticky cause true) final true)
  let n := (n.p F.THERM_TRIP_SEQ_SEQ seq).p F.THERM_CNT_SHUTDOWNS (min 0xFFFF seq)
  let n := n.loadLockout
  let n := if plan.fallback then n.put2 F.UPD_STAT_FALLBACK 1 else n
  let n := start.shown n
  let n := plan.failed.foldl (fun (n : State) f => (n.put f.1 F.UPD_BOOT_REASON f.2.2).put f.1 F.UPD_BOOT_FAIL_SLOT f.2.1) n
  let n := n.p F.PROT_STAT_SQUALL (b2n (n.gb F.PROT_SQ_STAT_LATCH_POS || n.gb F.PROT_SQ_STAT_LATCH_NEG))
  ((((n.clocksRun.p F.CHAIN_STAT_ENUM_BUSY 1).p F.SAFE_STAT_STEST_RUN 1).p F.LANE_STATE_A 1).p F.LANE_STATE_B 1).pairs

/-- The latch bits alone of PROT_SQ_STAT pass a module reset; the thresholds must be loaded anew (R46, R255). -/
def State.keepLatches (s old : State) : State :=
  let s := (s.p F.PROT_SQ_STAT_LATCH_POS (old.g F.PROT_SQ_STAT_LATCH_POS)).p F.PROT_SQ_STAT_LATCH_NEG
    (old.g F.PROT_SQ_STAT_LATCH_NEG)
  let s := (s.p F.PROT_SQ_STAT_CMP_POS (old.g F.PROT_SQ_STAT_CMP_POS)).p F.PROT_SQ_STAT_CMP_NEG
    (old.g F.PROT_SQ_STAT_CMP_NEG)
  (s.p F.PROT_STAT_SQUALL (b2n (s.gb F.PROT_SQ_STAT_LATCH_POS || s.gb F.PROT_SQ_STAT_LATCH_NEG))).pairs

/-- SHUTDOWN without a boot: both lanes stay in reset, the root is stopped, the TRIP pairs are at TRIP; the change of state is
told once the recorder runs (R100, R453, R455). -/
def State.coldShutdown (s : State) (sensor max : Nat) : State :=
  let s := ((s.p F.LANE_STATE_A 0).p F.LANE_STATE_B 0).p F.SYS_STATE_STATE St.SHUTDOWN
  let s := ((s.p F.THERM_MAX_T max).p F.THERM_MAX_SENSOR sensor).p F.THERM_STAT_LEVEL 3
  let s := (s.p F.CHAIN_STAT_ENUM_BUSY 0).put2 F.CLK_STAT_PLL_LOCK 0
  ({ s with
    pwr := { s.pwr with due := s.pwr.due ++ [(0x0001, [St.BOOT, St.SHUTDOWN])] }
    safe := { s.safe with shutTrip := true }, lane := { s.lane with stopLine := true, together := false } } : State).pairs

/-- The state of the power section once the trunk feeds the module. -/
def State.trunkOn (s : State) (mv : Nat) : State :=
  let s := ((s.p F.PWR_TRUNK_MV_MV mv).p F.PWR_STAT_TRUNK_OK (b2n (decide (40000 ≤ mv) && decide (mv ≤ 60000)))).p
    F.PWR_STAT_CHARGING 1
  s.p F.PWR_MIN_MIN (min (s.g F.PWR_MIN_MIN) (mv / 10))

/-- The trunk reaches 40 V: cause 1 where the exhaustion flag stands, else 0; with THERM_MAX at or above 117 °C the module
enters SHUTDOWN at once. `tMax` is in 0.1 °C, `sensor` its index. -/
def powerUp (s : State) (mv : Nat) (tMax : Int) (sensor : Nat) (aBad bBad : List Nat) (bad : List (Lane × Nat × Nat)) : State :=
  if s.pwr.on ∨ mv < 40000 ∨ 62000 < mv then s
  else
    let n := (s.restart (b2n s.pwr.exhausted) aBad bBad bad []).trunkOn mv
    if 1170 ≤ tMax then n.coldShutdown (sensor % 6) (ofSigned 16 tMax) else n

def execPowerUp (mv : Nat) (tMax : Int) (sensor : Nat) (aBad bBad : List Nat) (bad : List (Lane × Nat × Nat)) (s : State) :
    Out :=
  let n := powerUp s mv tMax sensor aBad bBad bad
  if n.pwr.on then .next (s.settle n) else .next s

/-- A module reset without loss of power, with what was on its way to NV: the unit in progress, and after an MRESET the
record of its event (R473, R480). -/
def State.moduleRestart (s : State) (cause : Nat) (aBad bBad : List Nat) (bad : List (Lane × Nat × Nat)) : State :=
  let records := if cause = 2 && !s.bo then s.nv.queue.filter fun u => u.body.ofReset else []
  (s.restart cause aBad bBad bad (s.nv.busy.toList ++ records)).keepLatches s

/-- The reset that an accepted MRESET or activation has asked for (R466, R473). -/
def moduleReset (s : State) (aBad bBad : List Nat) (bad : List (Lane × Nat × Nat)) : State :=
  if s.resetting then s.moduleRestart 2 aBad bBad bad
  else if s.flash.acting.isSome && s.nv.commit.isNone then s.moduleRestart 4 aBad bBad bad
  else s

def execModuleReset (aBad bBad : List Nat) (bad : List (Lane × Nat × Nat)) (s : State) : Out :=
  s.fin (moduleReset s aBad bBad bad)

/-- The management firmware runs: BOOT ends in OPERATE, or in CONFIG without a valid configuration or after a HOLD. -/
def bootComplete (s : State) : State :=
  if s.mode = St.BOOT && s.auth.isSome then
    let hold := s.lane.holdBoot || !s.cfgGood
    ({ s with lane := { s.lane with holdBoot := false } } : State).changeMode (if hold then St.CONFIG else St.OPERATE)
  else s

def execBootComplete (s : State) : Out := s.fin (bootComplete s)

/-- SYS_CTRL.MRESET. -/
def sysMreset (s : State) (r : Req) : Nat × State :=
  s.access r Pg.SYS 0x008 [(.lock, !s.holds r Pg.SYS), (.state, s.inMotion)] fun s =>
    ({ s.keepLock r Pg.SYS with resetting := true } : State).ev 0x0005

def execMreset (r : Req) (s : State) : Out := s.answered (sysMreset s r)

/-! ### The power-fail sequence (R42 to R45, R478) -/

/-- The trunk as it now measures. -/
def State.trunk (s : State) (mv : Nat) : State :=
  let s := (s.p F.PWR_TRUNK_MV_MV mv).p F.PWR_STAT_TRUNK_OK (b2n (decide (40000 ≤ mv) && decide (mv ≤ 60000)))
  s.p F.PWR_MIN_MIN (min (s.g F.PWR_MIN_MIN) (mv / 10))

/-- PWR_BO asserts: no NV write starts, a commit is cut, a running window aborts with cause 3, a staging aborts. -/
def State.powerFail (s : State) (mv : Nat) (ov : Bool) : State :=
  let s := s.trunk mv
  let s := (s.p F.PWR_STAT_INPUT_OPEN 1).p F.PWR_STAT_CHARGING 0
  if s.bo then s
  else
    let s := ((s.p F.PWR_BO_BO 1).p F.PWR_BO_OV (b2n ov)).bumpSat .a F.PWR_BO_COUNT
    let s := s.ev 0x0101 0 (leBytes 4 mv ++ [b2n ov])
    let s := { s with pwr := { s.pwr with failAt := s.up } }
    (((s.commitCut).eisAbort 3).stageCheck).arbitrate

/-- The trunk falls below 38 V. -/
def execBrownOutWarning (mv : Nat) (s : State) : Out := s.fin (if mv < 38000 then s.powerFail mv false else s)

/-- The trunk rises above 62 V. -/
def execTrunkOvervoltage (mv : Nat) (s : State) : Out := s.fin (if 62000 < mv then s.powerFail mv true else s)

/-- The trunk has been within 40 V to 60 V for 10 ms: NV writes and the set-point resume, held raisings and removals are
written. `v` is the voltage in 0.1 V to which the bank has fallen (R41, R478). -/
def brownOutClear (s : State) (mv v : Nat) : State :=
  if !s.bo ∨ mv < 40000 ∨ 60000 < mv then s
  else
    let s := s.trunk mv
    let s := (s.p F.PWR_BO_BO 0).p F.PWR_STAT_INPUT_OPEN 0
    let full := s.gb F.PWR_STAT_HOLDUP_FULL && decide (950 ≤ v)
    let s := (s.p F.PWR_STAT_HOLDUP_FULL (b2n full)).p F.PWR_STAT_CHARGING (b2n (!full))
    let held := s.nv.removed
    let s := { s with safe := { s.safe with powerOff := false }, nv := { s.nv with removed := [] } }
    let s := held.foldl (fun (s : State) t => s.sealWrite t) s.nvKick
    (s.recRelease.ev 0x0102).arbitrate

def execBrownOutClear (mv v : Nat) (s : State) : Out := s.fin (brownOutClear s mv v)

/-- 200 ms after the fall, with PWR_BO still asserted: the outputs switch off without a lock-out, event 0x0D0C. -/
def powerFailOff (s : State) : State :=
  if s.bo && !s.safe.powerOff then
    let s := s.runTo (s.pwr.failAt + 200000000)
    (({ s with safe := { s.safe with powerOff := true } } : State).ev 0x0D0C).outputsOff
  else s

def execPowerFailSwitchOff (s : State) : Out := s.fin (powerFailOff s)

/-- The bank is exhausted: the flag is set, the unit in progress has long completed, what was held is lost, and everything
stops; the TRIP pairs go PASSIVE. -/
def holdupExhausted (s : State) : State :=
  if !s.bo then s
  else
    let s := s.p F.PWR_STAT_HOLDUP_FULL 0
    let s := lanes.foldl (fun (s : State) l => (s.put l F.PLNK_STAT_LINK_UP 0).p (laneFld l) 0) s
    let s := ((s.p F.LANE_AUTH_OWNER 0).p F.SAFE_STATE_OUT_CMD 0).p F.SAFE_STATE_OUT_RB 0
    let s := ((s.p F.SAFE_STATE_SEQ 0).p F.SAFE_STAT_RUNNING 0).p F.SYS_PRESENCE_OPEN 0
    let n := s.nv.complete s.nv.busy.toList
    ({ s with
      nv := { n.rearm with busy := none, queue := [], commit := none }
      recorder := { s.recorder with held := [], overflow := false, clearing := none }
      pwr := { s.pwr with exhausted := true, on := false, presence := none, service := false, due := [] }
      prot := { s.prot with exhausted := true, unraised := [] } } : State).pairs

def execHoldupExhausted (s : State) : Out := s.fin (holdupExhausted s)

/-- The bank reaches 95.0 V. -/
def holdupFull (s : State) : State :=
  if s.bo || s.gb F.PWR_STAT_HOLDUP_FULL then s
  else ((s.p F.PWR_STAT_HOLDUP_FULL 1).p F.PWR_STAT_CHARGING 0).ev 0x0103

def execHoldupFull (s : State) : Out := s.fin (holdupFull s)

/-- The exhaustion flag decays while the module has no supply (R479). -/
def execExhaustionFlagLost (s : State) : Out :=
  s.fin (if s.pwr.on then s else { s with pwr := { s.pwr with exhausted := false } })

/-! ### The actuator supply (R40) -/

/-- ACT_24V falls below 16 V: every output off at once, 0x0D0A, no lock-out. -/
def actUndervoltage (s : State) (mv : Nat) : State :=
  if 16000 ≤ mv then s
  else
    let was := s.safe.actLow
    let s := (s.p F.PWR_ACT_MV_MV mv).p F.PWR_STAT_ACT_OK 0
    let s := ({ s with safe := { s.safe with actLow := true } } : State)
    (s.outputsOff).evIf (!was) 0x0D0A

def execActUndervoltage (mv : Nat) (s : State) : Out := s.fin (actUndervoltage s mv)

/-- The supply has been at 18 V or more for 100 ms. -/
def actRestored (s : State) (mv : Nat) : State :=
  if mv < 18000 then s
  else
    let s := (s.p F.PWR_ACT_MV_MV mv).p F.PWR_STAT_ACT_OK 1
    ({ s with safe := { s.safe with actLow := false } } : State)

def execActSupplyRestored (mv : Nat) (s : State) : Out := s.fin (actRestored s mv)

end Sys2Proof.Machine
end

