-- ==== Sys2Proof/Machine/Therm.lean ====
section
/-! DEFINITION. The supervision of the clocks (R49 to R52, R477) and the module's own temperature: levels, throttling and
thermal shutdown (R450 to R456). -/

namespace Sys2Proof.Machine

open Sys2Proof

/-! ### Frequency monitors (R49, R52) -/

/-- A domain monitor window of a lane ends: `bad` has bit k for domain k + 1 beyond ±0.5 %, `khz` is the measured frequency
of CLK_FMON.DOMAIN. While the root is stopped on purpose nothing is judged. -/
def fmonWindow (s : State) (l : Lane) (bad khz : Nat) : State :=
  if s.lane.stopLine ∨ s.laneState l = 0 then s
  else
    let s := s.put l F.CLK_FMON_FREQ_KHZ khz
    let twice := Nat.land bad (s.lane.fmon.get l)
    let s := { s with lane := { s.lane with fmon := s.lane.fmon.set l bad } }
    if twice = 0 then s
    else
      let s := s.put l F.CLK_FMON_FAIL_FAIL (Nat.lor (s.get l F.CLK_FMON_FAIL_FAIL) twice)
      (s.evL l 0x0202).failLane l 1

def execFmonWindow (l : Lane) (bad khz : Nat) (s : State) : Out := s.fin (fmonWindow s l (bad % 2 ^ 11) khz)

/-! ### Root supervision (R50, R51, R263) -/

/-- A root fault: an SF5 cause. -/
def State.rootFault (s : State) : State := ((s.put2 F.CLK_STAT_ROOT_OK 0).put2 F.CLK_SUP_ROOT_OK 0).stest 0 false 0x06

/-- A window of the RC oscillator ends with a ratio, 10,000 nominal; two bad ones in a row are a root fault. `locked` is what
the lock detector reports, `line` the stop line: asserted without the sequencer's report it is a root fault. After a release
the first window with lock ends the wait, and the next one is judged (R51). -/
def rootRatio (s : State) (ratio : Nat) (locked line : Bool) : State :=
  if s.lane.stopLine then s
  else if line then ({ s with safe := { s.safe with rootRun := 0 } } : State).rootFault
  else if s.lane.awaitLock then
    (if locked then ({ s with lane := { s.lane with awaitLock := false, rootBad := 0 } } : State).put2 F.CLK_STAT_PLL_LOCK 1
    else s)
  else
    let good := decide (9000 ≤ ratio) && decide (ratio ≤ 11000)
    let s := s.put2 F.CLK_STAT_PLL_LOCK (b2n locked)
    let n := if good then 0 else min 2 (s.lane.rootBad + 1)
    let s := s.put2 F.CLK_SUP_RATIO ratio
    let s := { s with
      lane := { s.lane with rootBad := n }
      safe := { s.safe with rootRun := if good && locked then min 10 (s.safe.rootRun + 1) else 0 } }
    if n = 2 then s.rootFault
    else if good && locked then (s.put2 F.CLK_STAT_ROOT_OK 1).put2 F.CLK_SUP_ROOT_OK 1
    else s

def execRootRatioWindow (ratio : Nat) (locked line : Bool) (s : State) : Out := s.fin (rootRatio s ratio locked line)

/-- The PLL loses lock; under the stop line this is the commanded stop. -/
def pllLockLoss (s : State) : State :=
  let s := s.put2 F.CLK_STAT_PLL_LOCK 0
  if s.lane.stopLine then s else ({ s with safe := { s.safe with rootRun := 0 } } : State).rootFault

def execPllLockLoss (s : State) : Out := s.fin (pllLockLoss s)

/-- The sequencer restarts the root: the stop line is released and lock is awaited. -/
def rootRelease (s : State) : State :=
  if s.lane.stopLine then { s with lane := { s.lane with stopLine := false, awaitLock := true, rootBad := 0 } } else s

def execRootRelease (s : State) : Out := s.fin (rootRelease s)

/-- No lock 15 ms after the release. -/
def rootLockTimeout (s : State) : State :=
  if s.lane.awaitLock then ({ s with lane := { s.lane with awaitLock := false } } : State).rootFault else s

def execRootLockTimeout (s : State) : Out := s.fin (rootLockTimeout s)

/-! ### The sensors (R450) -/

/-- A reading that counts, in 0.1 °C. -/
def sensorOk : Option Int → Bool
  | some t => decide (-550 ≤ t) && decide (t ≤ 1500)
  | none => false

/-- One sensor's conversion: a failed one is marked, with 0x0404 at its failure. -/
def State.sensor (s : State) (k : Nat) (t : Option Int) : State :=
  let s := match t with
    | some t => s.p (F.THERM_Sk_T k) (ofSigned 16 t)
    | none => s
  let was := bitAt (s.g F.THERM_STAT_SENS_FAIL) k
  let ok := sensorOk t
  let s := s.p (F.THERM_Sk_VALID k) (b2n (ok && !was))
  if ok then s else (s.p F.THERM_STAT_SENS_FAIL (putBit (s.g F.THERM_STAT_SENS_FAIL) k true)).evIf (!was) 0x0404 0 [k]

/-- The largest reading of the valid sensors, with its index. -/
def maxSensor (fail : Nat) (ts : List (Option Int)) : Option (Int × Nat) :=
  (List.range 6).foldl (fun (m : Option (Int × Nat)) k =>
    if bitAt fail k then m
    else match ts.getD k none, m with
      | some t, some (u, j) => if u < t then some (t, k) else some (u, j)
      | some t, none => some (t, k)
      | none, m => m) none

/-! ### Levels (R451, R452) -/

/-- The entry and leaving values of the levels, in 0.1 °C. -/
def thermIn : List Int := [1000, 1100, 1250]
def thermOut : List Int := [920, 1020, 1170]

/-- The runs of samples at or above the entry values, and below the leaving values. -/
def Power.sampled (p : Power) (t : Int) : Power :=
  { p with
    hot := (p.hot.zip thermIn).map fun x => if x.2 ≤ t then min 4 (x.1 + 1) else 0
    cold := (p.cold.zip thermOut).map fun x => if t < x.2 then min 1000 (x.1 + 1) else 0 }

/-- The level after a sample: SHUTDOWN is not left here, and two failed sensors force at least Throttle. -/
def State.nextLevel (s : State) : Nat :=
  let level := s.g F.THERM_STAT_LEVEL
  let on (i : Nat) : Bool :=
    (decide (i ≤ level) && !(s.pwr.cold.getD (i - 1) 0 == 1000)) || s.pwr.hot.getD (i - 1) 0 == 4
  let n := if level = 3 || on 3 then 3 else if on 2 then 2 else if on 1 then 1 else 0
  if s.gb F.THERM_STAT_FORCED then max 2 n else n

/-- Throttling begins or ends (R452). -/
def State.throttle (s : State) (on : Bool) : State :=
  let d := if on then 10 else 5
  let s := (s.p F.SYS_STATE_THROTTLED (b2n on)).put2 F.CLK_STAT_THROTTLED (b2n on)
  let s := ((s.put2 F.CLK_CORE_DIV_DIV_A d).put2 F.CLK_CORE_DIV_DIV_B d).ev 0x0203
  let s := if on then s.bumpSat .a F.THERM_CNT_THROTTLES else s
  s.eisSuspend on

/-- The thermal-trip record (R456). -/
def State.tripRecord (s : State) (seq before : Nat) : NvBody :=
  let fail := s.g F.THERM_STAT_SENS_FAIL
  .trip seq s.nv.opsec s.nv.pwrcyc (s.snapEpoch % 2 ^ 32) (s.g F.THERM_MAX_SENSOR) before
    ((List.range 6).map fun k => if bitAt fail k then 0x8000 else s.g (F.THERM_Sk_T k)) fail

/-- Thermal shutdown is entered: SHUTDOWN, the window aborted, presence closed, the staging aborted, SF3 disarmed, the
record on its way (R453, R271). -/
def State.shutdown (s : State) : State :=
  let before := s.mode
  let seq := (s.g F.THERM_TRIP_SEQ_SEQ + 1) % 2 ^ 32
  let rec1 := s.tripRecord seq before
  let s := s.changeMode St.SHUTDOWN
  let s := s.ev 0x0403 0 (s.g F.THERM_MAX_SENSOR :: leBytes 2 (s.g F.THERM_MAX_T))
  let s := (((s.eisAbort 5).presenceEnd).stageCheck).disarm
  let s := { s with safe := { s.safe with awaiting := [] }, pwr := { s.pwr with shutAt := s.up } }
  let s := (s.p F.THERM_TRIP_SEQ_SEQ seq).bumpSat .a F.THERM_CNT_SHUTDOWNS
  (s.nvWrite (0x7C0000 + 64 * (seq % 1024)) seq rec1).protSettle

/-- The level changes, with what each level does at entry and at exit. -/
def State.setLevel (s : State) (n : Nat) : State :=
  let old := s.g F.THERM_STAT_LEVEL
  let crosses (i : Nat) : Bool := decide (i ≤ old) != decide (i ≤ n)
  let s := s.p F.THERM_STAT_LEVEL n
  let data := leBytes 2 (s.g F.THERM_MAX_T)
  let s := s.evIf (crosses 1) 0x0401 0 data
  let s := if crosses 2 then (s.ev 0x0402 0 data).throttle (decide (2 ≤ n)) else s
  if crosses 3 && n == 3 then s.shutdown else s

/-- Every 1 ms: the six sensors, in 0.1 °C. -/
def thermSample (s : State) (ts : List (Option Int)) : State :=
  let s := (List.range 6).foldl (fun s k => s.sensor k (ts.getD k none)) s
  let fail := s.g F.THERM_STAT_SENS_FAIL
  let s := s.p F.THERM_STAT_FORCED (b2n (decide (2 ≤ popCount 6 fail)))
  let s := match maxSensor fail ts with
    | none => s
    | some (t, k) =>
      let s := (s.p F.THERM_MAX_T (ofSigned 16 t)).p F.THERM_MAX_SENSOR k
      let peak := s.rd .a Pg.THERM 0x05C
      let s := if peak = 0 || decide (toSigned 16 peak.toNat < t) then
          (s.p F.THERM_PEAK_T (ofSigned 16 t)).p F.THERM_PEAK_SENSOR k
        else s
      { s with pwr := s.pwr.sampled t }
  s.setLevel s.nextLevel

def execThermSample (ts : List (Option Int)) (s : State) : Out := s.fin (thermSample s ts)

/-! ### Thermal shutdown (R453 to R455) -/

/-- 200 ms: the outputs are off, and both TRIP pairs are at TRIP for as long as SHUTDOWN lasts. -/
def shutdownOff (s : State) : State :=
  if s.mode = St.SHUTDOWN && !s.safe.shutTrip then
    let s := s.runTo (s.pwr.shutAt + 200000000)
    (({ s with safe := { s.safe with shutTrip := true } } : State).outputsOff).pairs
  else s

def execShutdownOutputsOff (s : State) : Out := s.fin (shutdownOff s)

/-- 250 ms: both lanes are held in reset and the root is stopped on purpose; nothing of them runs. -/
def lanesStop (s : State) : State :=
  if s.mode ≠ St.SHUTDOWN then s
  else
    let s := lanes.foldl (fun s l =>
      let s := (s.linkDown l).mapCbus l fun c => { c with sending := none }
      let s := (s.put l F.CBUS_STAT_ON 0).put l F.CBUS_STAT_IDLE 0
      s.p (laneFld l) 0) s
    let s := ((s.p F.LANE_AUTH_OWNER 0).showMerge false).p F.LANE_STAT_SYNCING 0
    let s := (s.p F.LANE_STAT_DUAL 0).put2 F.CLK_STAT_PLL_LOCK 0
    let s := s.p F.MEAS_STAT_RUNNING 0
    { s with
      lane := { s.lane with merge := none, sync := none, together := false, stopLine := true }
      chain := { s.chain with gap := false }
      front := { s.front with fastOn := false, fast := [], fastGap := true }, forming := none, late := []
      pwr := { s.pwr with service := false } }

def execShutdownLanesStop (s : State) : Out := s.fin (lanesStop s)

/-- S1 held for 2 s after 1,000 samples below 117 °C: the module resets with cause 3. -/
def shutdownExit (s : State) (aBad bBad : List Nat) (bad : List (Lane × Nat × Nat)) : State :=
  if s.mode = St.SHUTDOWN && s.pwr.cold.getD 2 0 == 1000 then s.moduleRestart 3 aBad bBad bad else s

def execShutdownExit (aBad bBad : List Nat) (bad : List (Lane × Nat × Nat)) (s : State) : Out :=
  s.fin (shutdownExit s aBad bBad bad)

end Sys2Proof.Machine
end

