-- ==== Sys2Proof/Machine/Upd.lean ====
section
/-! DEFINITION. Staging and activation, the owner lock and the rollback counter (R457 to R466, R469). -/

namespace Sys2Proof.Machine

open Sys2Proof

/-! ### Access in recovery (R463) -/

/-- An access to the UPD page: what stages or activates an image the boot ROM of a lane in recovery serves too. -/
def State.accessBoot (s : State) (r : Req) (off : Nat) (cs : List Chk) (eff : State → State) : Nat × State :=
  if s.bootServes r Pg.UPD && bootWrites off then
    match refusal cs with
    | some c => (c, s.refuse r Pg.UPD off c)
    | none => (0, eff s)
  else s.access r Pg.UPD off cs eff

/-- The rules of R465 that staging and activation share: the owner lock, then the conditions of state. -/
def State.stageChecks (s : State) : List Chk :=
  let c := match s.stageCond with
    | some (_, code) => code == 0x01
    | none => false
  [(.lock, !s.inRecovery && s.gb F.SYS_STATE_OWNER_LOCK), (.state, c)]

/-! ### Staging (R465) -/

/-- KIND and LEN_KIB of a staging: an image of at most 30 MiB, or a package of exactly 512 KiB. -/
def stageLenBad (v : Word) : Bool :=
  let n := getBits v 15 0
  n == 0 || decide (30720 < n) || (getBits v 29 29 == 1 && n != 512)

/-- Staging starts: the inactive slot or the area is being written. -/
def State.stageStart (s : State) (r : Req) (kind : Nat) : State :=
  let f := { s.flash with staging := some (kind, r.lane, []) }
  let f := if kind = 0 then f.setSlot f.idle ⟨1, none, 0, 0, []⟩ else f.setPackage none
  { s with flash := f }

/-- A write of UPD_STAGE: only the service port writes it; ABORT ends a running staging, START starts one. -/
def updStageWrite (s : State) (r : Req) (v : Word) : Nat × State :=
  let old := s.rd r.lane Pg.UPD 0x050
  let start := getBits v 31 31 == 1
  let abort := getBits v 30 30 == 1
  let acts := start || abort || getBits v 29 29 != getBits old 29 29 || getBits v 15 0 != getBits old 15 0
  let kind := getBits v 29 29
  let conds := if start then
      s.stageChecks ++ [(.state, s.inRecovery && kind == 1), (.busy, s.flash.staging.isSome || s.flash.acting.isSome),
        (.value, stageLenBad v)]
    else []
  s.accessBoot r 0x050 ((.rights, acts && r.path != .service) :: (conds ++ regChecks s r false Pg.UPD 0x050 v)) fun s =>
    let s := s.store r Pg.UPD 0x050 v
    let s := (s.put r.lane F.UPD_STAGE_START 0).put r.lane F.UPD_STAGE_ABORT 0
    let s := if abort then s.stageAbort 7 else s
    if start then s.stageStart r kind else s

def execUpdStageStart (r : Req) (v : Word) (s : State) : Out := s.answered (updStageWrite s r (setBits v 31 31 1))

/-- UPD_STAGE.ABORT, or a condition of R465 that has arisen. -/
def execUpdStageAbort (r : Option Req) (s : State) : Out :=
  match r with
  | some r => s.answered (updStageWrite s r (setBits (s.rd r.lane Pg.UPD 0x050) 30 30 1))
  | none => s.fin s.stageCheck

/-- Staging data on bulk OUT 2, up to LEN_KIB. -/
def stagingData (s : State) (bs : List Nat) : State :=
  let s := s.stageCheck
  match s.flash.staging with
  | some (kind, l, have1) =>
    if s.pwr.service then
      let room := 1024 * s.get l F.UPD_STAGE_LEN_KIB - have1.length
      { s with flash := { s.flash with staging := some (kind, l, have1 ++ (bs.take room).map (· % 256)) } }
    else s
  | none => s

def execStagingData (bs : List Nat) (s : State) : Out := s.fin (stagingData s bs)

/-- Staging ends: the CRC-32C of the bytes in each flash is compared, and a package's own CRC checked; `okA` and `okB` tell
whether the bytes read back from the flashes are those written. -/
def stagingComplete (s : State) (okA okB : Bool) : State :=
  let s := s.stageCheck
  match s.flash.staging with
  | none => s
  | some (kind, l, bs) =>
    let good := okA && okB && crc32c bs == s.get l F.UPD_STAGE_CRC_CRC
    if kind = 0 then
      if good then
        let f := s.flash
        let f := { f.setSlot f.idle ⟨2, some bs, imgBuild bs, imgRollback bs, imgHash bs⟩ with staging := none }
        ({ s with flash := f } : State).ev 0x1901 0 ([0, f.idle] ++ leBytes 4 (imgBuild bs))
      else s.stageAbort 8
    else if good && bs.length == 524288 && Config.packageOk bs then
      ({ s with flash := { (s.flash.setPackage (some bs)) with staging := none } } : State).ev 0x1901 0
        ([1, 1 - s.nv.cfgSlot] ++ leBytes 4 0)
    else s.stageAbort 8

def execStagingComplete (okA okB : Bool) (s : State) : Out := s.fin (stagingComplete s okA okB)

/-! ### Activation (R466) -/

/-- The configuration that a package makes; one that proves invalid holds no register. -/
def packageBody (bs : List Nat) : NvBody :=
  .config ((Config.packageWords bs).getD []) ((Config.packageTally bs).map tallyParse) (Config.packageOwner bs)
    (Config.packageWords bs).isSome

/-- ACT 1: the boot record names the staged slot. -/
def State.actImage (s : State) : State :=
  let f := s.flash
  let s := { s with flash := { (f.nameSlot f.idle) with acting := some 1 } }
  s.ev 0x1902 0 [1, s.flash.active]

/-- ACT 2: the package goes to the inactive configuration slot of both MRAMs, as a commit does; `cfgCommitDone` makes that
slot the active one. -/
def State.actConfig (s : State) (bs : List Nat) : State :=
  let slot := 1 - s.nv.cfgSlot
  let s := { s with nv := { s.nv with commit := some slot }, flash := { s.flash with acting := some 2 } }
  s.nvWrite (cfgOff slot) (s.nv.cfgSeq + 1) (packageBody bs) 127

/-- A write of UPD_ACT.ACT: presence outside recovery, the conditions of R465, and a complete item. -/
def updAct (s : State) (r : Req) (v : Word) : Nat × State :=
  let act := getBits v 1 0
  let item := if act = 1 then s.flash.complete s.flash.idle
    else act == 2 && s.flash.package.isSome
  let go := act == 1 || act == 2
  let conds : List Chk := if go then
      s.stageChecks ++ [(.state, s.inRecovery && act == 2),
        (.busy, s.flash.staging.isSome || s.flash.acting.isSome || (act == 2 && s.nv.commit.isSome))]
    else []
  s.accessBoot r 0x05C
    ([(.hw, act == 2 && s.nv.gone), (.presence, act != 0 && !s.inRecovery && s.noPresence r)] ++ conds ++
      [(.value, !go), (.entry, go && !item)]) fun s =>
      if act = 1 then s.actImage else s.actConfig (s.flash.package.getD [])

def execUpdAct (r : Req) (v : Word) (s : State) : Out := s.answered (updAct s r v)

/-! ### The owner lock (R458) and the rollback counter (R464) -/

/-- UPD_OWNER.SET or CLR: a commit with the lock as it is to be. -/
def updOwner (s : State) (r : Req) (on : Bool) : Nat × State :=
  s.access r Pg.UPD 0x060 (s.commitChecks r) fun s => s.commitStart on

def execOwnerSet (r : Req) (s : State) : Out := s.answered (updOwner s r true)
def execOwnerClr (r : Req) (s : State) : Out := s.answered (updOwner s r false)

/-- UPD_RB_COMMIT.COMMIT: the counter takes the ROLLBACK of the booted image; the refusal of R86 raises 0x1805. DESIGN
CHOICE: that refusal stands after presence, for R471 does not list it (notes/assumptions/16). -/
def updRbCommit (s : State) (r : Req) : Nat × State :=
  let new := (s.flash.slot .a s.flash.booted).rollback
  let old := s.flash.rollback
  let x := s.access r Pg.UPD 0x064
    [(.hw, s.nv.gone), (.presence, s.noPresence r), (.lock, s.nv.j1), (.state, s.inRecovery || decide (new < old))] fun s =>
      let s := { s with flash := { s.flash with rollback := new } }
      (s.nvWrite keyOff (s.nv.next keyOff) (.rollback new)).ev 0x1906 0 (leBytes 2 old ++ leBytes 2 new)
  (x.1, if x.1 = 0x02 then x.2.ev 0x1805 else x.2)

def execRbCommit (r : Req) (s : State) : Out := s.answered (updRbCommit s r)

/-! ### The service port (R460) -/

/-- Management firmware runs in a lane, or a boot ROM is in recovery. -/
def State.served (s : State) : Bool :=
  s.inRecovery || lanes.any fun l => decide (2 ≤ s.laneState l) && decide (s.laneState l ≤ 5)

/-- A USB host is attached: the device enumerates, never in LULL or SHUTDOWN, nor while the bank feeds the module without trunk
power (R29, R460). -/
def serviceAttach (s : State) : State :=
  if s.served && !s.bo && !s.gb F.PWR_STAT_INPUT_OPEN && s.mode != St.LULL && s.mode != St.SHUTDOWN then { s with pwr := { s.pwr with service := true } } else s

def execServicePortAttach (s : State) : Out := s.fin (serviceAttach s)

end Sys2Proof.Machine
end

