-- ==== Sys2Proof/Machine/Mram.lean ====
section
/-! DEFINITION. What the cores read of the MRAM window and of the boot flash window: the bytes of each unit as its chapter
lays them out (R72, R102, R196, R221, R312, R456, R462). A byte whose place or value the manual does not give is none. -/

namespace Sys2Proof.Machine

open Sys2Proof

/-- The bytes of a unit from its header on, where its layout is given whole. -/
def NvBody.bytes : NvBody → List Nat
  | .event e => evBytes e
  | .commit c =>
    let b := [0x43, 0x4F, 0, 0] ++ leBytes 4 c.seq ++ leBytes 8 c.tc ++ padTo 176 c.order ++ List.replicate 12 0
    b ++ leBytes 4 (crc32c b)
  | .done d => d.bytes ++ leBytes 4 (crc32c d.bytes)
  | .trip seq opsec pwrcyc epoch sensor before temps fail =>
    let b := leBytes 4 seq ++ leBytes 4 opsec ++ leBytes 4 pwrcyc ++ leBytes 4 epoch ++ [sensor, before, 0, 0] ++
      padTo 12 (temps.flatMap (leBytes 2)) ++ leBytes 4 fail ++ List.replicate 24 0
    b ++ leBytes 4 (crc32c b)
  | _ => []

/-- The size of a unit. -/
def NvBody.size : NvBody → Nat
  | .event _ => 32
  | .commit _ => 0xD0
  | .done _ => 0x30
  | .control .. => 0x800
  | .config .. => 0x80000
  | .trip .. => 64
  | .est 0 .. => 0x1000
  | .est 1 .. => 0x4000
  | .est .. => 0x79000
  | .profile _ => 0x20000
  | .wipe _ => 0
  | .seal .. | .lockout .. | .rollback _ => 0x1000

/-- The eight bytes of a position in the state record; zeros for a position that it does not hold. -/
def stateRowBytes (r : List Nat) : List Nat :=
  leBytes 2 (r.getD 0 0) ++ leBytes 2 (r.getD 1 0) ++ leBytes 2 (r.getD 2 0) ++ [r.getD 3 0 % 256, r.getD 4 0 % 256]

/-- A row of an estimator record. -/
def estRow (rows : List (Nat × List Nat)) (k : Nat) : List Nat := ((rows.find? fun x => x.1 == k).map (·.2)).getD []

/-- The bytes of the state record before its CRC: a header whose places are free, then the positions. -/
def stateImage (seq : Nat) (hdr : List Nat) (rows : List (Nat × List Nat)) : List Nat :=
  (List.range 0xC0).map (Config.estHeaderByte (0 :: seq :: hdr)) ++
    ((List.range 480).flatMap fun p => stateRowBytes (estRow rows (p + 1))) ++ List.replicate 0x3C 0

/-- A byte of an estimator record (R184, R221). -/
def estByte (kind seq : Nat) (hdr : List Nat) (rows : List (Nat × List Nat)) (i : Nat) : Option Nat :=
  if kind = 0 then
    let b := stateImage seq hdr rows
    if i < 0xFFC then some (b.getD i 0) else some (leAt (leBytes 4 (crc32c b)) (i - 0xFFC) 1)
  else if kind = 1 then
    let r := estRow rows ((i - 0x040) / 32 + 1)
    let o := (i - 0x040) % 32
    if i < 0x040 ∨ 0x3C40 ≤ i ∨ 12 ≤ o then none
    else some ((leBytes 4 (r.getD 0 0) ++ leBytes 4 (r.getD 1 0) ++ leBytes 2 (r.getD 2 0) ++ leBytes 2 (r.getD 3 0)).getD o 0)
  else if i < 0x1000 then none
  else
    let r := estRow rows ((i - 0x1000) / 8)
    some ((leBytes 4 (r.getD 0 0x7FC00000) ++ leBytes 4 (r.getD 1 0x7FC00000)).getD ((i - 0x1000) % 8) 0)

/-- A byte of a unit. -/
def NvUnit.byte (u : NvUnit) (i : Nat) : Option Nat :=
  match u.body with
  | .event _ | .commit _ | .done _ | .trip .. => some (u.body.bytes.getD i 0)
  | .est kind hdr rows => estByte kind u.seq hdr rows i
  | .profile cells => some (memByte cells i)
  | .rollback v => some (Config.factoryByte (0x7F0000 + i) v % 256)
  | .control .. | .config .. | .seal .. | .lockout .. | .wipe _ => none

/-- A byte of a lane's MRAM: the unit that covers it; the slots of the recorder without a record are zero, as are the
reserved places; the calibration and key regions hold what the factory wrote (R8, R102, R448, R459). -/
def State.mramByte (s : State) (l : Lane) (off : Nat) : Option Nat :=
  match (if l = .a then s.nv.a else s.nv.b).find? fun x => decide (x.1 ≤ off) && decide (off < x.1 + x.2.body.size) with
  | some (o, u) => u.byte (off - o)
  | none =>
    if off < 0x400000 ∨ (0x421000 ≤ off ∧ off < 0x440000) ∨ (0x53C000 ≤ off ∧ off < 0x640000) ∨ 0x7F2000 ≤ off then some 0
    else if 0x7E0000 ≤ off ∧ off < 0x7F1000 then some (Config.factoryByte off 0 % 256)
    else none

/-- A byte of a lane's boot flash: what was staged, and the reserved rest. -/
def State.flashByte (s : State) (l : Lane) (off : Nat) : Option Nat :=
  let f := s.flash.lane.get l
  if off < 0x3C00000 then ((f.slot (off / 0x1E00000)).bytes.bind fun bs => bs[off % 0x1E00000]?)
  else if off < 0x3E00000 then (f.package.bind fun bs => bs[off - 0x3C00000]?)
  else if off < 0x3E20000 then none
  else some 0

/-- A word of four bytes; a word with a byte that is not given is a free value. -/
def State.wordOf (s : State) (byte : Nat → Option Nat) (off : Nat) : Nat × State :=
  match byte off, byte (off + 1), byte (off + 2), byte (off + 3) with
  | some a, some b, some c, some d => (ofLe [a, b, c, d], s)
  | _, _, _, _ => (s.draw % 2 ^ 32, s.drawn)

end Sys2Proof.Machine
end

