-- ==== Sys2Proof/Machine/View.lean ====
section
/-! DEFINITION. What a register shows: the stored word, or the word that a page forms from the state of its block (R75 to R83
and the register tables of the pages). -/

namespace Sys2Proof.Machine

open Sys2Proof

/-! ### Multi-word values (R81) -/

/-- The multi-word registers that are read: page, offset of the lowest word, offsets of the upper words. -/
def multiWords : List (Nat × Nat × List Nat) :=
  [(Pg.SYS, 0x048, [0x04C]), (Pg.TIME, 0x040, [0x044]), (Pg.CHAIN, 0x050, [0x054]), (Pg.CHAIN, 0x058, [0x05C]),
    (Pg.CHAIN, 0x060, [0x064]), (Pg.CHAIN, 0x0A4, [0x0A8]), (Pg.CHAIN, 0x0AC, [0x0B0]), (Pg.MEAS, 0x04C, [0x050]),
    (Pg.SNAP, 0x040, [0x044]), (Pg.SNAP, 0x04C, [0x050]), (Pg.SNAP, 0x058, [0x05C]), (Pg.EIS, 0x06C, [0x070]),
    (Pg.EIS, 0x080, [0x084]), (Pg.EST, 0x0A0, (List.range 7).map fun k => 0x0A4 + 4 * k),
    (Pg.BAL, 0x054, [0x058, 0x05C, 0x060]), (Pg.PROT, 0x04C, [0x050]), (Pg.ORD, 0x04C, [0x050]), (Pg.ORD, 0x054, [0x058]),
    (Pg.LANE, 0x060, [0x064]), (Pg.CBUS, 0x074, [0x078]), (Pg.CBUS, 0x07C, [0x080]), (Pg.PLNK, 0x048, [0x04C]),
    (Pg.PLNK, 0x050, [0x054, 0x058, 0x05C]), (Pg.PLNK, 0x060, [0x064, 0x068, 0x06C]), (Pg.PLNK, 0x070, [0x074, 0x078, 0x07C]),
    (Pg.PLNK, 0x080, [0x084, 0x088, 0x08C]), (Pg.EVR, 0x050, (List.range 7).map fun k => 0x054 + 4 * k),
    (Pg.UPD, 0x080, (List.range 15).map fun k => 0x084 + 4 * k)]

/-- The upper words of the multi-word value whose lowest word stands at an offset. -/
def upperOf (page off : Nat) : List Nat :=
  ((multiWords.find? fun m => m.1 == page && m.2.1 == off).map (·.2.2)).getD []

/-- Is a register an upper word? -/
def isUpper (page off : Nat) : Bool := multiWords.any fun m => m.1 == page && m.2.2.contains off

/-- A read of a register without further effect: the shadow for an upper word; a read of the lowest word latches the upper
ones for the requester. -/
def State.plainRead (s : State) (r : Req) (page off : Nat) : Nat × State :=
  if isUpper page off then ((s.shadowWord r page off).toNat, s)
  else ((s.view r.lane page off).toNat, s.latchUpper r page ((upperOf page off).map fun o => (o, s.view r.lane page o)))

/-! ### Reads with their effects -/

/-- A read of a register of a page: its value and the state after it. -/
def State.readPage (s : State) (r : Req) (page off : Nat) : Nat × State :=
  let l := r.lane
  if page = Pg.TIME ∧ (off = 0x060 ∨ off = 0x068) then tsqPop s l (off == 0x068)
  else if page = Pg.TIME ∧ off = 0x070 then tsqDropRead s l
  else if page = Pg.CBUS ∧ off = 0x2C8 then fifoPop s l
  else if page = Pg.CBUS ∧ (off = 0x300 ∨ off = 0x380) then rxLock s l ((off - 0x300) / 0x80)
  else if page = Pg.CBUS ∧ (off = 0x348 ∨ off = 0x3C8) then rxRelease s l ((off - 0x348) / 0x80)
  else if page = Pg.CBUS ∧ off = 0x08C then rxlostRead s l
  else if page = Pg.CBUS ∧ off = 0x050 then cbusErrRead s l
  else if page = Pg.PLNK ∧ off = 0x0C0 then rxdropRead s l
  else if page = Pg.QUE ∧ 0x080 ≤ off ∧ off < 0x100 ∧ off % 16 = 12 then queCntRead s l ((off - 0x080) / 16)
  else if page = Pg.ICU ∧ off = 0x00C then icuStatRead s l
  else if page = Pg.ICU ∧ off = 0x05C then icuUnmatchedRead s l
  else if page = Pg.ICU ∧ 0x100 ≤ off ∧ off < 0x140 ∧ off % 16 = 0 then icuClaim s r ((off - 0x100) / 16)
  else s.plainRead r page off

/-- A read of an address in a requester's map: refusal code, value, state. A core may read every region; the other paths
reach the register pages and the trace window (R72, R88). What the boot ROM holds is not given: a free value. -/
def State.readAt (s : State) (r : Req) (addr : Nat) : Nat × Nat × State :=
  let l := r.lane
  let core := r.path != .hpp && r.path != .service
  let served := match place addr with
    | .page p _ => s.bootServes r p
    | _ => false
  if !core && s.deadLane r && !served then
    match place addr with
    | .page p off => (0x09, 0, s.refuse r p off 0x09)
    | _ => (0x09, 0, s)
  else match place addr with
  | .page p off =>
    let x := s.readPage r p off
    (0, x.1, x.2)
  | .trace off => (0, sget (fun _ => 0) (s.cle.get l).traces (off / 4), s)
  | .sram off => if core then (0, memWord (s.sram.get l) off, s) else (0x04, 0, s)
  | .dram => if core then (0, memWord (s.dram.get l) addr, s) else (0x04, 0, s)
  | .mram off => if core then (0, s.wordOf (s.mramByte l) off) else (0x04, 0, s)
  | .readonly =>
    if core then (0, s.wordOf (if addr < 0x10000000 then fun _ => none else s.flashByte l) (addr - 0x10000000)) else (0x04, 0, s)
  | .nowhere =>
    if core then
      let x := unmapped s r addr
      (x.1, 0, x.2)
    else (0x04, 0, s)

/-- The lowest word of a multi-word value is read (R81). -/
def execMultiwordLowRead (r : Req) (addr : Nat) (s : State) : Out :=
  let x := s.readAt r (addr % 2 ^ 32)
  s.fin { x.2.2 with answer := (x.1, x.2.1) }

end Sys2Proof.Machine
end

