-- ==== Sys2Proof/Machine/Access.lean ====
section
/-! DEFINITION. Writes of registers: the xx_CTRL registers with their actions and soft resets (R76), the values that a page
checks beyond its table (R9, R472), and the way of every register write to its operation. -/

namespace Sys2Proof.Machine

open Sys2Proof

/-! ### Soft resets (R76) -/

/-- A field set to 0 in a lane's map, for each of a list. -/
def State.zero (s : State) (l : Lane) (fs : List Fld) : State := fs.foldl (fun s f => s.put l f 0) s

/-- The state that the SRESET of a page resets, in the words of the page's chapter; a page that names none resets none. -/
def State.sreset (s : State) (l : Lane) (page : Nat) : State :=
  if page = Pg.SYS then s.zero l [F.SYS_UNMAPPED_ADDR, F.SYS_RST_CAUSE_STICKY]
  else if page = Pg.PWR then (s.p F.PWR_MIN_MIN 0xFFFF).p F.PWR_BO_COUNT 0
  else if page = Pg.CLK then s.put l F.CLK_FMON_FAIL_FAIL 0
  else if page = Pg.TIME then
    let s : State := { s with clock := { s.clock with tsq := s.clock.tsq.set l [], tsqc := s.clock.tsqc.set l [] } }
    s.zero l [F.TIME_TSQ_DROP_DROP_C, F.TIME_TSQ_DROP_DROP_P]
  else if page = Pg.THERM then s.zero l [F.THERM_PEAK_SENSOR, F.THERM_PEAK_T, F.THERM_CNT_THROTTLES]
  else if page = Pg.CDT then
    let s : State := { s with cdt := s.cdt.set l { s.cdt.get l with cache := [] } }
    s.zero l [F.CDT_HITS_HITS, F.CDT_MISSES_MISSES, F.CDT_BAD_COUNT, F.CDT_BAD_INDEX]
  else if page = Pg.SNAP then s.zero l [F.SNAP_TIMING_LATE, F.SNAP_TIMING_MAX_US]
  else if page = Pg.MEAS then s.p F.MEAS_STAT_OVERLOAD 0
  else if page = Pg.CHAIN then (s.p F.CHAIN_SWEEP_MAX_US 0).wr l Pg.CHAIN 0x09C 0 |>.wr l Pg.CHAIN 0x06C 0
  else if page = Pg.EIS then s.zero l [F.EIS_CNT_DONE, F.EIS_CNT_ABORTED, F.EIS_ABORT_CAUSE, F.EIS_ABORT_WINDOW]
  else if page = Pg.EST then s.zero l [F.EST_CNT_LEARNED, F.EST_CNT_REJECTED]
  else if page = Pg.BAL then s.zero l [F.BAL_CNT_PLANS, F.BAL_CNT_FAILS]
  else if page = Pg.PROT then
    let s := (List.range 11).foldl (fun (s : State) k => (s.p (F.PROT_Lk_ST_WORST k) 0).p (F.PROT_Lk_ST_WORST_CH k) 0)
      { s with prot := { s.prot with worst := [] } }
    s.zero l [F.PROT_CNT_SQUALL, F.PROT_CNT_TRIPS]
  else if page = Pg.SAFE then s.wr l Pg.SAFE F.SAFE_CNT_DEMANDS.off 0
  else if page = Pg.CLE then s.cleReset l
  else if page = Pg.CLINK then (s.wr l Pg.CLINK F.CLINK_ERR_CRC.off 0).wr l Pg.CLINK F.CLINK_LOSTCNT_LOST.off 0
  else if page = Pg.ORD then (s.wr l Pg.ORD 0x068 0).wr l Pg.ORD 0x06C 0
  else if page = Pg.TALLY then (s.zero l [F.TALLY_EXEC_MAX_US, F.TALLY_STAT_OVR]).wr l Pg.TALLY 0x054 0
  else if page = Pg.LANE then (s.wr l Pg.LANE 0x068 0).wr l Pg.LANE 0x05C 0
  else if page = Pg.CBUS then
    let s := (s.mapCbus l fun c => { c with fifo := [] }).showFifo l
    ((s.wr l Pg.CBUS 0x088 0).wr l Pg.CBUS 0x08C 0).wr l Pg.CBUS 0x090 0 |>.put l F.CBUS_STAQ_OVERTAKEN 0
  else if page = Pg.PLNK then s.mapPlink l fun p => { p with tx := 0, rx := 0, early := 0 }
  else if page = Pg.QUE then
    s.mapPlink l fun p => { p with queues := p.queues.map fun q => { q with drop := 0, discard := 0, underrun := 0 } }
  else if page = Pg.ICU then s.icuSreset l
  else if page = Pg.EVR then { s with recorder := { s.recorder with dropped := 0, lost := 0 } }
  else if page = Pg.NVM then (s.wr l Pg.NVM 0x044 0).wr l Pg.NVM 0x058 0
  else if page = Pg.UPD then s.put l F.UPD_STAT_FALLBACK 0
  else s

/-- xx_CTRL.SRESET: the CDT page refuses it while an invalidation runs or is pending; CHAIN_CTRL is the authority lane's
(R141). -/
def pageSreset (s : State) (r : Req) (page : Nat) : Nat × State :=
  s.access r page 0x008
    [(.auth, page == Pg.CHAIN && !s.isAuth r.lane),
     (.busy, page == Pg.CDT && (s.getB r.lane F.CDT_STAT_INV_BUSY || s.getB r.lane F.CDT_STAT_DEFER_PEND))] fun s =>
      s.sreset r.lane page

def execPageSreset (r : Req) (page : Nat) (s : State) : Out := s.answered (pageSreset s r (page % 26))

/-! ### xx_CTRL (R76) -/

/-- May ENABLE of a page be written 0 now? Only some pages can be disabled, in the states that they name. -/
def State.mayDisable (s : State) (l : Lane) (page : Nat) : Bool :=
  if page = Pg.CDT ∨ page = Pg.CHAIN ∨ page = Pg.CBUS ∨ page = Pg.PLNK then s.mode == St.CONFIG
  else if page = Pg.CLINK then s.mode == St.CONFIG && s.g F.CLINK_REF_I_REF == 0
  else if page = Pg.EIS then !(s.eis.get l).running
  else false

/-- A change of ENABLE shows where a block follows it. -/
def State.enabled (s : State) (l : Lane) (page : Nat) : State :=
  if page = Pg.CDT then s.cdtReady l
  else if page = Pg.CBUS then (if s.getB l F.CBUS_CTRL_ENABLE then s else (s.put l F.CBUS_STAT_ON 0).put l F.CBUS_STAT_IDLE 0)
  else if page = Pg.PLNK then s.txStart l
  else s

/-- The plain fields of xx_CTRL: ENABLE, and AUTO_REC of CBUS_CTRL. -/
def ctrlPlain (s : State) (r : Req) (page : Nat) (v : Word) : Nat × State :=
  let e : Fld := ⟨page, 0x008, 0, 0⟩
  let change := getBits v 0 0 != s.get r.lane e
  let v := setBits v 9 9 0
  s.access r page 0x008
    ((.auth, page == Pg.CHAIN && change && !s.isAuth r.lane) ::
      (.state, change && getBits v 0 0 == 0 && !s.mayDisable r.lane page) :: regChecks s r false page 0x008 v) fun s =>
      let s := s.store r page 0x008 v
      if change then s.enabled r.lane page else s

/-- The actions that a write of xx_CTRL asks for, in ascending bit order. -/
def ctrlActs (r : Req) (page : Nat) (v : Word) : List (State → Nat × State) :=
  let act (k : Nat) (f : State → Nat × State) : List (State → Nat × State) := if bitAt v.toNat k then [f] else []
  let own : List (State → Nat × State) :=
    if page = Pg.SYS then act 7 (sysHold · r) ++ act 8 (sysGo · r) ++ act 9 (sysMreset · r)
    else if page = Pg.TIME then act 4 (timeReset · r)
    else if page = Pg.CHAIN then act 2 (chainReenum · r) ++ act 3 (owAll · r) ++ act 4 (serTake · r)
    else if page = Pg.EIS then act 3 (eisStart · r) ++ act 4 (eisAbortWrite · r)
    else if page = Pg.BAL then act 2 (balPlanNow · r) ++ act 3 (balStopAll · r)
    else if page = Pg.PROT then act 2 (clrTrip · r)
    else if page = Pg.SAFE then act 2 (clrSf · r)
    else if page = Pg.ORD then act 2 (rebase · r)
    else if page = Pg.TALLY then act 3 (tallyLoad · r) ++ act 4 (tallyRunWrite · r) ++ act 5 (tallyStop · r)
    else if page = Pg.LANE then
      act 2 (laneReset · r) ++ act 3 (laneSync · r) ++ act 4 (laneSwap · r) ++ act 5 (laneInject · r)
    else if page = Pg.CBUS then act 4 (boRec · r)
    else if page = Pg.PLNK then act 2 (linkRst · r)
    else if page = Pg.QUE then (if getBits v 23 16 = 0 then [] else [fun s => queFlush s r (getBits v 23 16)])
    else []
  let plain : State → Nat × State :=
    if page = Pg.BAL then (fun s => balEnable s r (getBits v 0 0)) else fun s => ctrlPlain s r page v
  plain :: act 1 (pageSreset · r page) ++ own

/-- Refusal codes in the order of R471. -/
def codeOrder : List Nat := [0x09, 0x0A, 0x03, 0x02, 0x01, 0x05, 0x04, 0x0B]

/-- A write of xx_CTRL: refused whole with the first code of R471 that one of its parts meets, else carried out part by
part (R10, R471). -/
def ctrlWrite (s : State) (r : Req) (page : Nat) (v : Word) : Nat × State :=
  let acts := ctrlActs r page v
  match codeOrder.find? fun c => acts.any fun f => (f s).1 == c with
  | some c => (c, s.refuse r page 0x008 c)
  | none => (0, acts.foldl (fun s f => let x := f s; if x.1 = 0 then x.2 else s) s)

/-! ### Values that a page checks beyond its table -/

/-- The sum of MAX_MIB over the queues in bytes, with one queue's as written (R426). -/
def State.queSum (s : State) (l : Lane) (k : Nat) (mib : Nat) : Nat :=
  ((List.range 8).map fun n => if n = k then mib else s.get l (F.QUE_Qn_CFG_MAX_MIB n)).sum * 2 ^ 20

/-- Does a value break a relation or a range that the page's table names beyond the field's own values (R9, R472)? -/
def State.pageBad (s : State) (l : Lane) (page off : Nat) (v : Word) : Bool :=
  let x := v.toNat
  if page = Pg.MEAS ∧ off = 0x064 then !inDram (getBits v 31 9 * 512) (512 * s.g F.MEAS_FAST_BLOCKS_BLOCKS)
  else if page = Pg.EIS ∧ off = 0x064 then !inDram (s.get l F.EIS_BASE_BASE * 0x1000) x
  else if page = Pg.EST ∧ off = 0x04C then decide (getBits v 7 0 ≤ getBits v 15 8)
  else if page = Pg.EST ∧ off = 0x05C then !inDram (getBits v 31 15 * 0x8000) 0x8000
  else if page = Pg.TALLY ∧ off = 0x040 then !inDram (getBits v 31 6 * 64) 35652
  else if page = Pg.PLNK ∧ off = 0x0AC then
    x % 4096 != 0 || (x != 0 && !inDram (s.get l F.PLNK_RET_BASE_BASE * 0x1000) x)
  else if page = Pg.QUE ∧ off = 0x044 then
    (x != 0 && !inDram (s.get l F.QUE_SPILL_BASE_BASE * 0x1000) x) || decide (x < s.queSum l 8 0)
  else if page = Pg.QUE ∧ 0x080 ≤ off ∧ off % 16 = 0 then
    decide (s.get l F.QUE_SPILL_SIZE_SIZE < s.queSum l ((off - 0x080) / 16) (getBits v 6 0))
  else false

/-- Does a page keep a register for the authority lane beside its own operations (R141)? -/
def authOnly (page off : Nat) : Bool := page == Pg.CHAIN && off == 0x098

/-- A write of a register that has plain fields only; UPD_STAGE_CRC is served in recovery too. -/
def tableWrite1 (s : State) (r : Req) (page off : Nat) (v : Word) : Nat × State :=
  (if page = Pg.UPD then s.accessBoot r off else s.access r page off)
    ((.auth, authOnly page off && !s.isAuth r.lane) :: (.busy, page == Pg.CBUS && txBufBusy s r.lane off) ::
      (.value, s.pageBad r.lane page off v) :: regChecks s r false page off v) fun s => s.store r page off v

/-! ### The registers whose write is an operation, page by page -/

/-- CHAIN_SER_CFG: the configured serial of the ID that CHAIN_SER_SEL names (R135). -/
def serCfgWrite (s : State) (r : Req) (v : Word) : Nat × State :=
  let hi := s.stagedWord r Pg.CHAIN 0x0A8 % 2 ^ 16
  let k := s.g F.CHAIN_SER_SEL_MON
  let x := s.access r Pg.CHAIN 0x0A4 [(.lock, !s.holds r Pg.CHAIN), (.state, s.mode != St.CONFIG)] fun s =>
    ({ s with chain := s.chain.setInf k { s.chain.inf k with serCfg := v.toNat + 2 ^ 32 * hi } } : State).keepLock r Pg.CHAIN
  (x.1, x.2.unstage r Pg.CHAIN [0x0A8])

/-- The lowest word of a plant address: the four words take effect as one (R81, R425). A new static address ends DAD_FAIL
(R403). -/
def addrWrite (s : State) (r : Req) (off : Nat) (v : Word) : Nat × State :=
  let l := r.lane
  let ups := [off + 4, off + 8, off + 12]
  let x := s.access r Pg.PLNK off [(.lock, !s.holds r Pg.PLNK), (.state, s.mode != St.CONFIG)] fun s =>
    let ws := ups.map fun o => (o, s.stagedWord r Pg.PLNK o)
    let s := ws.foldl (fun s w => s.wr l Pg.PLNK w.1 (BitVec.ofNat 32 w.2)) (s.wr l Pg.PLNK off v)
    let s := s.keepLock r Pg.PLNK
    if off = 0x050 then
      (s.put l F.PLNK_STAT_DAD_FAIL 0).put l F.PLNK_STAT_ADDR_OK (s.get l F.PLNK_STAT_LINK_UP)
    else s
  (x.1, x.2.unstage r Pg.PLNK ups)

/-- The staged upper words that a write of the lowest word commits (R81). -/
def stagedUppers (page off : Nat) : List Nat :=
  if (page = Pg.TIME ∧ off = 0x048) ∨ (page = Pg.SNAP ∧ off = 0x040) ∨ (page = Pg.CHAIN ∧ off = 0x0A4) ∨
      (page = Pg.CBUS ∧ off = 0x074) then [off + 4]
  else if page = Pg.CDT ∧ off = 0x050 then [0x054, 0x058]
  else if page = Pg.PLNK ∧ 0x050 ≤ off ∧ off < 0x090 ∧ off % 16 = 0 then [off + 4, off + 8, off + 12]
  else []

/-- Upper words that are written: they are staged for their requester (R81). -/
def isStaged (page off : Nat) : Bool :=
  (page == Pg.TIME && off == 0x04C) || (page == Pg.SNAP && off == 0x044) || (page == Pg.CDT && (off == 0x054 || off == 0x058)) ||
    (page == Pg.CHAIN && off == 0x0A8) || (page == Pg.CBUS && off == 0x078) ||
    (page == Pg.PLNK && decide (0x050 ≤ off) && decide (off < 0x090) && off % 16 != 0)

/-- A thing that each action bit of an RWP register starts (R472): nothing for a write of zeros. -/
def ifBits (s : State) (r : Req) (page off : Nat) (on : Bool) (f : State → Nat × State) : Nat × State :=
  if on then f s else s.access r page off [] id

/-- UPD_OWNER: SET, CLR, or both, of which CLR is the later (R458). -/
def ownerWrite (s : State) (r : Req) (v : Word) : Nat × State :=
  ifBits s r Pg.UPD 0x060 (getBits v 1 0 != 0) fun s => updOwner s r (getBits v 1 1 == 0)

/-- ICU_Tt_THR: a slot may become deliverable. -/
def thrWrite (s : State) (r : Req) (off : Nat) (v : Word) : Nat × State :=
  let x := tableWrite1 s r Pg.ICU off v
  (x.1, x.2.icuRouse r.lane)

/-- The operations of the pages SYS, TIME, SNAP, CDT, NVM and CHAIN. -/
def writeA (s : State) (r : Req) (page off : Nat) (v : Word) : Option (Nat × State) :=
  if page = Pg.SYS ∧ off = 0x044 then
    some (ifBits s r Pg.SYS 0x044 (getBits v 29 29 == 1) fun s => presenceClose s r)
  else if page = Pg.TIME ∧ off = 0x048 then some (timeStep s r v)
  else if page = Pg.TIME ∧ off = 0x050 then some (timeRateWrite s r v)
  else if page = Pg.SNAP ∧ off = 0x040 then some (snapOriginWrite s r v)
  else if page = Pg.SNAP ∧ off = 0x048 then some (snapPeriodWrite s r v)
  else if page = Pg.SNAP ∧ (off = 0x060 ∨ off = 0x064) then some (snapSlotsWrite s r (off == 0x064) v)
  else if page = Pg.CDT ∧ (off = 0x040 ∨ off = 0x044) then some (cdtRelocate s r (off == 0x044) v)
  else if page = Pg.CDT ∧ off = 0x050 then some (cdtInval s r v)
  else if page = Pg.NVM ∧ off = 0x048 then
    some (ifBits s r Pg.NVM 0x048 (getBits v 0 0 == 1) fun s => cfgCommit s r)
  else if page = Pg.CHAIN ∧ off = 0x068 then some (chainOwReq s r v)
  else if page = Pg.CHAIN ∧ off = 0x080 then some (chainLullWrite s r v)
  else if page = Pg.CHAIN ∧ off = 0x094 then some (chainMreg s r v)
  else if page = Pg.CHAIN ∧ off = 0x0A4 then some (serCfgWrite s r v)
  else none

/-- The operations of the pages EIS, EST, PROT, SAFE and CLE. -/
def writeB (s : State) (r : Req) (page off : Nat) (v : Word) : Option (Nat × State) :=
  if page = Pg.EIS ∧ eisPlanOffs.contains off then some (eisPlanWrite s r off v)
  else if page = Pg.EST ∧ off = 0x07C then
    some (ifBits s r Pg.EST 0x07C (getBits v 0 0 == 1) fun s => estEfcClr s r)
  else if page = Pg.EST ∧ off = 0x088 then some (estRelearn s r v)
  else if page = Pg.PROT ∧ off = 0x040 then some (protCcellWrite s r v)
  else if page = Pg.PROT ∧ off = 0x044 then some (squallThrWrite s r v)
  else if page = Pg.PROT ∧ off = 0x048 then some (squallClear s r (getBits v 4 4 + 2 * getBits v 3 3))
  else if page = Pg.PROT ∧ off = 0x054 then some (squallTest s r (getBits v 31 31 == 1) (getBits v 30 30))
  else if page = Pg.PROT ∧ 0x080 ≤ off ∧ off < 0x130 ∧ off % 16 < 12 then
    some (protLimitWrite s r false ((off - 0x080) / 16) (off % 16 / 4) v)
  else if page = Pg.SAFE ∧ 0x054 ≤ off ∧ off ≤ 0x060 then some (safeCfgWrite s r off v)
  else if page = Pg.CLE ∧ off = 0x040 then some (cleModeWrite s r v)
  else if page = Pg.CLE ∧ off = 0x044 then some (gtSelWrite s r v)
  else if page = Pg.CLE ∧ (off = 0x048 ∨ off = 0x04C) then some (gtWrite s r (off == 0x04C) v)
  else if page = Pg.CLE ∧ 0x100 ≤ off ∧ off < 0x500 then
    let k := (off - 0x100) / 0x80
    let o := off % 0x80
    if o = 0x0C then some (cleCtrlWrite s r k v)
    else if o = 0x50 then some (trcCfgWrite s r k v)
    else if o ≤ 0x08 ∨ o = 0x14 ∨ (0x28 ≤ o ∧ o ≤ 0x4C) then some (cleLoopWrite s r k o v)
    else none
  else none

/-- The operations of the pages LANE, CBUS, PLNK, ICU, EVR and UPD. -/
def writeC (s : State) (r : Req) (page off : Nat) (v : Word) : Option (Nat × State) :=
  if page = Pg.LANE ∧ off = 0x050 then some (laneWdog s r v)
  else if page = Pg.LANE ∧ off = 0x054 then some (appWdWrite s r v)
  else if page = Pg.LANE ∧ off = 0x058 then some (laneRdy s r v)
  else if page = Pg.CBUS ∧ (off = 0x044 ∨ off = 0x048) then some (cbusTimingWrite s r off v)
  else if page = Pg.CBUS ∧ off = 0x05C then some (cbusTxreqWrite s r v)
  else if page = Pg.CBUS ∧ off = 0x070 then some (cbusBarWrite s r v)
  else if page = Pg.CBUS ∧ off = 0x074 then some (cbusMaskWrite s r v)
  else if page = Pg.PLNK ∧ 0x050 ≤ off ∧ off < 0x090 ∧ off % 16 = 0 then some (addrWrite s r off v)
  else if page = Pg.ICU ∧ off = 0x040 then some (icuGdisWrite s r v)
  else if page = Pg.ICU ∧ 0x04C ≤ off ∧ off ≤ 0x054 then some (icuSlotWrite s r off v)
  else if page = Pg.ICU ∧ 0x0E0 ≤ off ∧ off < 0x100 then some (icuMaskWrite s r ((off - 0x0E0) / 4) v)
  else if page = Pg.ICU ∧ 0x100 ≤ off ∧ off < 0x140 ∧ off % 16 = 4 then some (icuEoi s r ((off - 0x100) / 16) v)
  else if page = Pg.ICU ∧ 0x100 ≤ off ∧ off < 0x140 ∧ off % 16 = 8 then some (thrWrite s r off v)
  else if page = Pg.EVR ∧ off = 0x078 then
    some (ifBits s r Pg.EVR 0x078 (getBits v 0 0 == 1) fun s => evrClear s r)
  else if page = Pg.UPD ∧ off = 0x050 then some (updStageWrite s r v)
  else if page = Pg.UPD ∧ off = 0x05C then some (updAct s r v)
  else if page = Pg.UPD ∧ off = 0x060 then some (ownerWrite s r v)
  else if page = Pg.UPD ∧ off = 0x064 then
    some (ifBits s r Pg.UPD 0x064 (getBits v 0 0 == 1) fun s => updRbCommit s r)
  else none

/-- The registers of the common header (R76 to R83). -/
def writeHeader (s : State) (r : Req) (page off : Nat) (v : Word) : Nat × State :=
  if off = 0x008 then ctrlWrite s r page v
  else if off = 0x014 then s.access r page off [] fun s => s.wr r.lane page off v
  else if off = 0x018 then evtClear s r page v
  else if off = 0x01C then evtSet s r page v
  else if off = 0x020 then errClear s r page v
  else if off = 0x024 then lockWrite s r page v
  else s.access r page off [] id

/-- A write of a register of a page: its refusal code and the state after it. -/
def writePage (s : State) (r : Req) (page off : Nat) (v : Word) : Nat × State :=
  if off < 0x040 then writeHeader s r page off v
  else if isStaged page off then s.access r page off [] fun s => s.stage r page off v
  else match writeA s r page off v with
    | some x => x
    | none =>
      match writeB s r page off v with
      | some x => x
      | none =>
        match writeC s r page off v with
        | some x => x
        | none => tableWrite1 s r page off v

/-! ### Writes by address (R72, R86, R88) -/

/-- A write to an address of a requester's map. A core writes SRAM and DRAM too; what it writes to the MRAM window changes
nothing, and with J1 fitted a write to the calibration or key region is refused. The plant link reaches the pages only; the
service port also reaches the trace window, which is read-only. A path that names a lane not running reaches nothing (R89).
DESIGN CHOICE: the refusal of R86 in the MRAM window is recorded in no page's xx_ERR, for the manual names none
(notes/assumptions/8). -/
def writeAt (s : State) (r : Req) (addr : Nat) (v : Word) : Nat × State :=
  let l := r.lane
  let core := r.path != .hpp && r.path != .service
  let served := match place addr with
    | .page p off => s.bootServes r p && bootWrites off
    | _ => false
  if !core && s.deadLane r && !served then
    match place addr with
    | .page p off => (0x09, (s.refuse r p off 0x09).unstage r p (stagedUppers p off))
    | _ => (0x09, s)
  else match place addr with
  | .page p off => writePage s r p off v
  | .sram off =>
    if core then (0, { s with sram := s.sram.set l (memStore (s.sram.get l) off (leBytes 4 v.toNat)) }) else (0x04, s)
  | .dram => if core then (0, s.dramStore l addr (leBytes 4 v.toNat)) else (0x04, s)
  | .mram off =>
    if !core then (0x04, s)
    else if s.nv.j1 && decide (0x7E0000 ≤ off) && decide (off < 0x7F1000) then (0x02, s.ev 0x1805)
    else (0, s)
  | .trace _ => (if r.path == .hpp then 0x04 else 0, s)
  | .readonly => (if core then 0 else 0x04, s)
  | .nowhere => if core then unmapped s r addr else (0x04, s)

/-- A write to a register without a row of its own. -/
def execRegisterWrite (r : Req) (addr : Nat) (v : Word) (s : State) : Out := s.answered (writeAt s r (addr % 2 ^ 32) v)

end Sys2Proof.Machine
end

