-- ==== Sys2Proof/Machine/Remote.lean ====
section
/-! DEFINITION. Register access by record: the HPP requests of the plant host (R82, R88, R89, R414), the record intake with
its checks in order (R416, R417) and the requests of the service port (R461). -/

namespace Sys2Proof.Machine

open Sys2Proof

/-! ### Execution of a request (R82, R414) -/

/-- The words that a request is answered for: at least one. -/
def wordsAnswered (count : Nat) : Nat := if count = 0 then 1 else count

/-- May a request of this address and count execute (R414)? -/
def reqOk (addr count : Nat) : Bool := addr % 4 == 0 && decide (1 ≤ count) && decide (count ≤ 64)

/-- `n` words read in ascending order from `addr`: the codes, the values (0 for a refused word) and the state. -/
def readWords (r : Req) : Nat → Nat → State → List Nat × List Nat × State
  | _, 0, s => ([], [], s)
  | addr, n + 1, s =>
    let x := s.readAt r (addr % 2 ^ 32)
    let y := readWords r (addr + 4) n x.2.2
    (x.1 :: y.1, (if x.1 = 0 then x.2.1 % 2 ^ 32 else 0) :: y.2.1, y.2.2)

/-- Words written in descending order, the first at `addr`: the codes, the first word's first, and the state. -/
def writeWords (r : Req) : Nat → List Word → State → List Nat × State
  | _, [], s => ([], s)
  | addr, w :: ws, s =>
    let y := writeWords r (addr + 4) ws s
    let x := writeAt y.2 r (addr % 2 ^ 32) w
    (x.1 :: y.1, x.2)

/-- The payload of a REG_RESP (R414). -/
def regResp (seq typ addr : Nat) (codes values : List Nat) : List Nat :=
  leBytes 4 seq ++ [typ, 0] ++ leBytes 2 codes.length ++ leBytes 4 addr ++ padTo ((codes.length + 3) / 4 * 4) codes ++
    values.flatMap (leBytes 4)

/-- The answer of a request that executes no word: the same code for every word. DESIGN CHOICE: nothing is recorded in an
xx_ERR, where R10 and R414 are silent (notes/assumptions/16). -/
def refuseAll (seq typ addr count code : Nat) : List Nat :=
  let n := wordsAnswered count
  regResp seq typ addr (List.replicate n code) (if typ = 8 then List.replicate n 0 else [])

/-- The code of a request whose form fails: a lane not running comes first (R89, R414, R471). -/
def formCode (s : State) (r : Req) : Nat := if s.deadLane r then 0x09 else 0x04

/-- A read request: the answer and the state. -/
def serveRead (s : State) (r : Req) (seq addr count : Nat) : List Nat × State :=
  if reqOk addr count then
    let x := readWords r addr count s
    (regResp seq 8 addr x.1 x.2.1, x.2.2)
  else (refuseAll seq 8 addr count (formCode s r), s)

/-- A write request: the answer and the state. A payload that does not hold COUNT words executes none. -/
def serveWrite (s : State) (r : Req) (seq addr count : Nat) (ws : List Word) : List Nat × State :=
  if reqOk addr count && ws.length == count then
    let x := writeWords r addr ws s
    (regResp seq 9 addr x.1 [], x.2)
  else (refuseAll seq 9 addr count (formCode s r), s)

/-! ### HPP requests (R89, R414, R417) -/

/-- A request of the REG stream: a new one executes once and every active lane answers it; a duplicate is answered from
retention, with the sequence of the first answer; a stale one is discarded. -/
def regRequest (s : State) (port : Lane) (seq : Nat) (src : List Nat) (f : State → List Nat × State) : State :=
  match s.regWin.judge seq with
  | .fresh =>
    let x := f (s.rxCount port)
    let resp := (x.2.plink.get x.2.evrLane).seqs.getD 6 0
    let s : State := { x.2 with regWin := x.2.regWin.add seq resp }
    s.emitAll 2 0x0A 0x07 s.snapEpoch x.1
  | .again resp =>
    (lanes.filter s.running).foldl (fun (s : State) l =>
      if (s.plink.get l).resend.length < 16 then
        (s.mapPlink l fun p => { p with resend := p.resend ++ [⟨7, resp, 1⟩] }).txStart l
      else s) (s.rxDrop port 4 src)
  | .stale => s.rxDrop port 4 src

/-- An accepted REG_READ. `lane`: the map it names; `src`: the last four bytes of its source address. -/
def regRead (s : State) (port lane : Lane) (seq addr count : Nat) (src : List Nat) : State :=
  regRequest s port seq src fun s => serveRead s ⟨lane, .hpp⟩ seq addr count

def execRegRead (port lane : Lane) (seq addr count : Nat) (src : List Nat) (s : State) : Out :=
  s.fin (regRead s port lane (seq % 2 ^ 32) (addr % 2 ^ 32) (count % 2 ^ 16) src)

/-- An accepted REG_WRITE. -/
def regWrite (s : State) (port lane : Lane) (seq addr count : Nat) (ws : List Word) (src : List Nat) : State :=
  regRequest s port seq src fun s => serveWrite s ⟨lane, .hpp⟩ seq addr count ws

def execRegWrite (port lane : Lane) (seq addr count : Nat) (ws : List Word) (src : List Nat) (s : State) : Out :=
  s.fin (regWrite s port lane (seq % 2 ^ 32) (addr % 2 ^ 32) (count % 2 ^ 16) ws src)

/-! ### The record intake (R416) -/

/-- Do the first `n` bits of two byte lists agree? -/
def samePrefix : Nat → List Nat → List Nat → Bool
  | n, a :: as, b :: bs =>
    if 8 ≤ n then a == b && samePrefix (n - 8) as bs
    else a / 2 ^ (8 - n) == b / 2 ^ (8 - n)
  | n, _, _ => n == 0

/-- Does a source lie within the port's accept prefix (R404)? -/
def State.accepts (s : State) (l : Lane) (v4 : Bool) (src : List Nat) : Bool :=
  if v4 then samePrefix (s.get l F.PLNK_PFX_A4) src (s.ip4Of l 0x09C)
  else samePrefix (s.get l F.PLNK_PFX_A6) src (s.ip6Of l 0x080)

/-- The form of a record's header (R406): MAGIC, VERSION, the reserved bits and LENGTH. -/
def formOk (b : List Nat) : Bool :=
  decide (32 ≤ b.length) && b.getD 0 0 == 0x48 && b.getD 1 0 == 1 && leAt b 2 2 / 2 ^ 12 == 0 && leAt b 6 2 == b.length - 32

/-- The CRC of a record (R406). -/
def hppCrcOk (b : List Nat) : Bool := crc32c (b.take 28 ++ b.drop 32) == leAt b 28 4

/-- The types and streams of the plant host (R407), with the payload lengths of R408. -/
def hostPair (typ stream len count : Nat) : Bool :=
  (typ == 0x05 && stream == 0x80 && decide (16 ≤ len)) || (typ == 0x08 && stream == 0x81 && len == 8) ||
    (typ == 0x09 && stream == 0x81 && (len == 8 + 4 * count || (decide (8 ≤ len) && (count == 0 || decide (64 < count))))) ||
    (typ == 0x0D && stream == 0x82 && len == 12)

/-- The reason for which the intake discards a record, in the order of its checks: 1 FORMAT, 2 CRC, 3 ADDR. `transport`
says that the datagram came to UDP port 4800, whole and with a good checksum. -/
def State.intakeDrop (s : State) (l : Lane) (transport v4 : Bool) (src b : List Nat) : Option Nat :=
  if !transport || !s.accepts l v4 src || !formOk b then some 1
  else if !hppCrcOk b then some 2
  else if leAt b 2 2 % 2 ^ 11 ≠ s.g F.SYS_NODE_NODE ∨ leAt b 8 8 ≠ s.get64 .a F.SYS_SERIAL_SERIAL_LO then some 3
  else if !hostPair (b.getD 4 0) (b.getD 5 0) (b.length - 32) (leAt b 36 2) then some 1
  else none

/-- `n` words of a byte list from `off`. -/
def wordsOf (b : List Nat) (off n : Nat) : List Word := (List.range n).map fun i => BitVec.ofNat 32 (leAt b (off + 4 * i) 4)

/-- An accepted record goes to its unit. -/
def State.intakeDo (s : State) (port : Lane) (src b : List Nat) : State :=
  let seq := leAt b 24 4
  let lane : Lane := if bitAt (leAt b 2 2) 11 then .b else .a
  let n := leAt b 36 2
  match b.getD 4 0 with
  | 0x05 => orderArrive s port seq (b.drop 32) src
  | 0x08 => regRead s port lane seq (leAt b 32 4) n src
  | 0x09 => regWrite s port lane seq (leAt b 32 4) n (wordsOf b 40 (if n ≤ 64 then n else 0)) src
  | _ => resendReq s port seq (b.getD 32 0) (leAt b 36 4) (leAt b 40 4) src

/-- A record that reaches a port. `src` is its source address, `b` its datagram. An IPv4 datagram reaches the intake only
while PLNK_CFG.IP4 is 1. -/
def hppIntake (s : State) (port : Lane) (transport v4 : Bool) (src b : List Nat) : State :=
  let b := b.map (· % 256)
  let tail := src.drop (src.length - 4)
  if !s.hears port || (v4 && !s.getB port F.PLNK_CFG_IP4) then s
  else match s.intakeDrop port transport v4 src b with
    | some k => s.rxDrop port k tail
    | none => s.intakeDo port tail b

def execHppRecordIntake (port : Lane) (transport v4 : Bool) (src b : List Nat) (s : State) : Out :=
  s.fin (hppIntake s port transport v4 src b)

/-! ### The service port (R461) -/

/-- The code of a service request that fails its CRC or its form: nothing executes. -/
def serviceBad (crcOk form : Bool) : Option Nat := if !crcOk then some 0x07 else if !form then some 0x04 else none

/-- An answer on bulk IN 1, while the service device has enumerated. -/
def State.bulk (s : State) (x : List Nat × State) : State := { x.2 with pwr := { x.2.pwr with bulkIn := x.1 }, answer := s.answer }

/-- A REG_READ request on bulk OUT 1. `crcOk` and `form`: its CRC and its form hold. -/
def serviceRead (s : State) (lane : Lane) (seq addr count : Nat) (crcOk form : Bool) : State :=
  if !s.pwr.service then s
  else match serviceBad crcOk form with
    | some c => s.bulk (refuseAll seq 8 addr count (if c = 0x04 then formCode s ⟨lane, .service⟩ else c), s)
    | none => s.bulk (serveRead s ⟨lane, .service⟩ seq addr count)

def execServiceRegRead (lane : Lane) (seq addr count : Nat) (crcOk form : Bool) (s : State) : Out :=
  s.fin (serviceRead s lane (seq % 2 ^ 32) (addr % 2 ^ 32) (count % 2 ^ 16) crcOk form)

/-- A REG_WRITE request on bulk OUT 1. -/
def serviceWrite (s : State) (lane : Lane) (seq addr count : Nat) (ws : List Word) (crcOk form : Bool) : State :=
  if !s.pwr.service then s
  else match serviceBad crcOk form with
    | some c => s.bulk (refuseAll seq 9 addr count (if c = 0x04 then formCode s ⟨lane, .service⟩ else c), s)
    | none => s.bulk (serveWrite s ⟨lane, .service⟩ seq addr count ws)

def execServiceRegWrite (lane : Lane) (seq addr count : Nat) (ws : List Word) (crcOk form : Bool) (s : State) : Out :=
  s.fin (serviceWrite s lane (seq % 2 ^ 32) (addr % 2 ^ 32) (count % 2 ^ 16) ws crcOk form)

end Sys2Proof.Machine
end

