-- ==== Sys2Proof/Machine/Dispatch.lean ====
section
/-! DEFINITION. What each command does: one direct call per constructor. -/

namespace Sys2Proof.Machine

open Sys2Proof

def exec (i : Instr) (s : State) : Host.Outcome State Fault Refusal :=
  match i with
  | .powerUp mv tMax sensor aBad bBad bad => Sys2Proof.Machine.execPowerUp mv tMax sensor aBad bBad bad s
  | .moduleReset aBad bBad bad => Sys2Proof.Machine.execModuleReset aBad bBad bad s
  | .bootComplete => Sys2Proof.Machine.execBootComplete s
  | .brownOutWarning mv => Sys2Proof.Machine.execBrownOutWarning mv s
  | .trunkOvervoltage mv => Sys2Proof.Machine.execTrunkOvervoltage mv s
  | .brownOutClear mv v => Sys2Proof.Machine.execBrownOutClear mv v s
  | .powerFailSwitchOff => Sys2Proof.Machine.execPowerFailSwitchOff s
  | .holdupExhausted => Sys2Proof.Machine.execHoldupExhausted s
  | .holdupFull => Sys2Proof.Machine.execHoldupFull s
  | .actUndervoltage mv => Sys2Proof.Machine.execActUndervoltage mv s
  | .actSupplyRestored mv => Sys2Proof.Machine.execActSupplyRestored mv s
  | .mreset r => Sys2Proof.Machine.execMreset r s
  | .go r => Sys2Proof.Machine.execGo r s
  | .hold r => Sys2Proof.Machine.execHold r s
  | .pageSreset r page => Sys2Proof.Machine.execPageSreset r page s
  | .registerWrite r addr v => Sys2Proof.Machine.execRegisterWrite r addr v s
  | .multiwordLowRead r addr => Sys2Proof.Machine.execMultiwordLowRead r addr s
  | .unmappedAccess r addr => Sys2Proof.Machine.execUnmappedAccess r addr s
  | .evtClear r page v => Sys2Proof.Machine.execEvtClear r page v s
  | .evtSet r page v => Sys2Proof.Machine.execEvtSet r page v s
  | .errClear r page v => Sys2Proof.Machine.execErrClear r page v s
  | .lockOpen r page => Sys2Proof.Machine.execLockOpen r page s
  | .lockClose r page => Sys2Proof.Machine.execLockClose r page s
  | .lockTimeout l page => Sys2Proof.Machine.execLockTimeout l page s
  | .presenceOpen => Sys2Proof.Machine.execPresenceOpen s
  | .presenceTimeout => Sys2Proof.Machine.execPresenceTimeout s
  | .presenceClose r => Sys2Proof.Machine.execPresenceClose r s
  | .sealPoll fitted => Sys2Proof.Machine.execSealPoll fitted s
  | .nvWriteComplete okA okB => Sys2Proof.Machine.execNvWriteComplete okA okB s
  | .nvmCfgCommit r => Sys2Proof.Machine.execNvmCfgCommit r s
  | .cfgCommitDone => Sys2Proof.Machine.execCfgCommitDone s
  | .cdtInvalImmediate r first count => Sys2Proof.Machine.execCdtInvalImmediate r first count s
  | .cdtInvalDeferred r first count ep => Sys2Proof.Machine.execCdtInvalDeferred r first count ep s
  | .cdtInvalDone l => Sys2Proof.Machine.execCdtInvalDone l s
  | .cdtTableRelocate r count v => Sys2Proof.Machine.execCdtTableRelocate r count v s
  | .fmonWindow l bad khz => Sys2Proof.Machine.execFmonWindow l bad khz s
  | .rootRatioWindow ratio locked line => Sys2Proof.Machine.execRootRatioWindow ratio locked line s
  | .pllLockLoss => Sys2Proof.Machine.execPllLockLoss s
  | .rootRelease => Sys2Proof.Machine.execRootRelease s
  | .rootLockTimeout => Sys2Proof.Machine.execRootLockTimeout s
  | .ptpSyncRx port dom gm seq twoStep t => Sys2Proof.Machine.execPtpSyncRx port dom gm seq twoStep t s
  | .ptpFollowUpRx port dom gm seq origin corr demand => Sys2Proof.Machine.execPtpFollowUpRx port dom gm seq origin corr demand s
  | .pdelayReqTx port tag t => Sys2Proof.Machine.execPdelayReqTx port tag t s
  | .pdelayReqRx port tag t => Sys2Proof.Machine.execPdelayReqRx port tag t s
  | .pdelayRespRx port t2 t3 t4 => Sys2Proof.Machine.execPdelayRespRx port t2 t3 t4 s
  | .ptpAnnounceRx port dom gm ds => Sys2Proof.Machine.execPtpAnnounceRx port dom gm ds s
  | .ptpUnsupportedRx port => Sys2Proof.Machine.execPtpUnsupportedRx port s
  | .syncLossTimeout => Sys2Proof.Machine.execSyncLossTimeout s
  | .timeStep r lo => Sys2Proof.Machine.execTimeStep r lo s
  | .timeRateWrite r v => Sys2Proof.Machine.execTimeRateWrite r v s
  | .timeReset r => Sys2Proof.Machine.execTimeReset r s
  | .tsqPop r cbus => Sys2Proof.Machine.execTsqPop r cbus s
  | .tsqDropRead r => Sys2Proof.Machine.execTsqDropRead r s
  | .snapOriginWrite r lo => Sys2Proof.Machine.execSnapOriginWrite r lo s
  | .snapPeriodWrite r v => Sys2Proof.Machine.execSnapPeriodWrite r v s
  | .snapSlotsWrite r slots v => Sys2Proof.Machine.execSnapSlotsWrite r slots v s
  | .chainReenum r => Sys2Proof.Machine.execChainReenum r s
  | .enumerationDone loop eIds wIds serials trims => Sys2Proof.Machine.execEnumerationDone loop eIds wIds serials trims s
  | .epochSample => Sys2Proof.Machine.execEpochSample s
  | .sampleLaunch => Sys2Proof.Machine.execSampleLaunch s
  | .enum k f base up => Sys2Proof.Machine.execEnum k f base up s
  | .echo k f => Sys2Proof.Machine.execEcho k f s
  | .readReg k f first n => Sys2Proof.Machine.execReadReg k f first n s
  | .writeReg k f first vs => Sys2Proof.Machine.execWriteReg k f first vs s
  | .sample k f epoch windowStart => Sys2Proof.Machine.execSample k f epoch windowStart s
  | .monitorSampleInstant k v => Sys2Proof.Machine.execMonitorSampleInstant k v s
  | .monitorConversionDone k eisOut faults => Sys2Proof.Machine.execMonitorConversionDone k eisOut faults s
  | .sweepStart => Sys2Proof.Machine.execSweepStart s
  | .readSweep k f first last => Sys2Proof.Machine.execReadSweep k f first last s
  | .sweepReplyRx p r crc => Sys2Proof.Machine.execSweepReplyRx p r crc s
  | .sweepSlotSilent p k => Sys2Proof.Machine.execSweepSlotSilent p k s
  | .sweepComplete us => Sys2Proof.Machine.execSweepComplete us s
  | .sampleLoopback hop => Sys2Proof.Machine.execSampleLoopback hop s
  | .chainReplyRx r => Sys2Proof.Machine.execChainReplyRx r s
  | .chainReplyTimeout => Sys2Proof.Machine.execChainReplyTimeout s
  | .unknownRingCommand k f code payload => Sys2Proof.Machine.execUnknownRingCommand k f code payload s
  | .trimMeasure k e w => Sys2Proof.Machine.execTrimMeasure k e w s
  | .owTest k f mask => Sys2Proof.Machine.execOwTest k f mask s
  | .owRoundDone k change => Sys2Proof.Machine.execOwRoundDone k change s
  | .owResultRx r res => Sys2Proof.Machine.execOwResultRx r res s
  | .owPeriodic => Sys2Proof.Machine.execOwPeriodic s
  | .chainOwReq r v => Sys2Proof.Machine.execChainOwReq r v s
  | .owAll r => Sys2Proof.Machine.execOwAll r s
  | .serTake r => Sys2Proof.Machine.execSerTake r s
  | .chainMreg r v => Sys2Proof.Machine.execChainMreg r v s
  | .chainLullEnter r v => Sys2Proof.Machine.execChainLullEnter r v s
  | .lullEntry => Sys2Proof.Machine.execLullEntry s
  | .lullEnter k f period vlo vhi tlo thi => Sys2Proof.Machine.execLullEnter k f period vlo vhi tlo thi s
  | .monitorLullCheck k v => Sys2Proof.Machine.execMonitorLullCheck k v s
  | .wakeBurst mon detail => Sys2Proof.Machine.execWakeBurst mon detail s
  | .selfWake => Sys2Proof.Machine.execSelfWake s
  | .s1Wake => Sys2Proof.Machine.execS1Wake s
  | .cbusWake f crcOk => Sys2Proof.Machine.execCbusWake f crcOk s
  | .wakeComplete => Sys2Proof.Machine.execWakeComplete s
  | .selfWakeRelull => Sys2Proof.Machine.execSelfWakeRelull s
  | .monitorSelfLull k => Sys2Proof.Machine.execMonitorSelfLull k s
  | .bleedPlan k f plan timers => Sys2Proof.Machine.execBleedPlan k f plan timers s
  | .bleedStop k f mask => Sys2Proof.Machine.execBleedStop k f mask s
  | .bleedDutyCycle k => Sys2Proof.Machine.execBleedDutyCycle k s
  | .bleedTimerEnd k n => Sys2Proof.Machine.execBleedTimerEnd k n s
  | .bleedReconcile k remain duty => Sys2Proof.Machine.execBleedReconcile k remain duty s
  | .stopAll r => Sys2Proof.Machine.execStopAll r s
  | .planNow r => Sys2Proof.Machine.execPlanNow r s
  | .eisSetup k f win tb nep pUs settle fmask => Sys2Proof.Machine.execEisSetup k f win tb nep pUs settle fmask s
  | .eisFreq k f first codes => Sys2Proof.Machine.execEisFreq k f first codes s
  | .eisAccept k f win idx count => Sys2Proof.Machine.execEisAccept k f win idx count s
  | .eisAbortFrame k f win => Sys2Proof.Machine.execEisAbortFrame k f win s
  | .eisRead k f win sel bins => Sys2Proof.Machine.execEisRead k f win sel bins s
  | .eisStart r => Sys2Proof.Machine.execEisStart r s
  | .eisWindowStart => Sys2Proof.Machine.execEisWindowStart s
  | .eisWindowEnd => Sys2Proof.Machine.execEisWindowEnd s
  | .eisResultsComplete => Sys2Proof.Machine.execEisResultsComplete s
  | .eisAbort r cause => Sys2Proof.Machine.execEisAbort r cause s
  | .decimatorResult t u charge hall v ntc eis => Sys2Proof.Machine.execDecimatorResult t u charge hall v ntc eis s
  | .shuntClip => Sys2Proof.Machine.execShuntClip s
  | .frontEndFault path => Sys2Proof.Machine.execFrontEndFault path s
  | .frontEndFaultClear path => Sys2Proof.Machine.execFrontEndFaultClear path s
  | .slotRelease => Sys2Proof.Machine.execSlotRelease s
  | .snapshotReady us shut => Sys2Proof.Machine.execSnapshotReady us shut s
  | .fastBlockWrite => Sys2Proof.Machine.execFastBlockWrite s
  | .estEpochProcessing => Sys2Proof.Machine.execEstEpochProcessing s
  | .restEvaluation => Sys2Proof.Machine.execRestEvaluation s
  | .estRelearn r v => Sys2Proof.Machine.execEstRelearn r v s
  | .estEfcClr r => Sys2Proof.Machine.execEstEfcClr r s
  | .stateRecordWrite => Sys2Proof.Machine.execStateRecordWrite s
  | .learnedRecordWrite => Sys2Proof.Machine.execLearnedRecordWrite s
  | .impedanceTableWrite => Sys2Proof.Machine.execImpedanceTableWrite s
  | .squallTrip negative t => Sys2Proof.Machine.execSquallTrip negative t s
  | .squallCmpRelease negative => Sys2Proof.Machine.execSquallCmpRelease negative s
  | .squallDacUpdate => Sys2Proof.Machine.execSquallDacUpdate s
  | .squallLatchClear r pos neg => Sys2Proof.Machine.execSquallLatchClear r pos neg s
  | .squallThrWrite r v => Sys2Proof.Machine.execSquallThrWrite r v s
  | .squallTest r negative => Sys2Proof.Machine.execSquallTest r negative s
  | .squallTestDone ns => Sys2Proof.Machine.execSquallTestDone ns s
  | .clrTrip r => Sys2Proof.Machine.execClrTrip r s
  | .protLimitWrite r k w v => Sys2Proof.Machine.execProtLimitWrite r k w v s
  | .protCcellWrite r v => Sys2Proof.Machine.execProtCcellWrite r v s
  | .tripReadbackFault pairB trip => Sys2Proof.Machine.execTripReadbackFault pairB trip s
  | .plausTripTimeout => Sys2Proof.Machine.execPlausTripTimeout s
  | .ntcBlindTimeout k => Sys2Proof.Machine.execNtcBlindTimeout k s
  | .safetyCycle rb bad cpuOk eccOk => Sys2Proof.Machine.execSafetyCycle rb bad cpuOk eccOk s
  | .safetyInputSample raw reset pulse => Sys2Proof.Machine.execSafetyInputSample raw reset pulse s
  | .testPulse tp2 highOk lowOk => Sys2Proof.Machine.execTestPulse tp2 highOk lowOk s
  | .darkTest n low ok => Sys2Proof.Machine.execDarkTest n low ok s
  | .ramMarchDone ok => Sys2Proof.Machine.execRamMarchDone ok s
  | .romCrcCheck ok => Sys2Proof.Machine.execRomCrcCheck ok s
  | .safetyWatchdogExpire => Sys2Proof.Machine.execSafetyWatchdogExpire s
  | .safetySupplyFault => Sys2Proof.Machine.execSafetySupplyFault s
  | .verdictSetRx crcOk => Sys2Proof.Machine.execVerdictSetRx crcOk s
  | .verdictTimeout => Sys2Proof.Machine.execVerdictTimeout s
  | .tickWatchdogExpire => Sys2Proof.Machine.execTickWatchdogExpire s
  | .resetInRelease ms => Sys2Proof.Machine.execResetInRelease ms s
  | .selfTestRunDone mask => Sys2Proof.Machine.execSelfTestRunDone mask s
  | .clrSf r => Sys2Proof.Machine.execClrSf r s
  | .closingStep => Sys2Proof.Machine.execClosingStep s
  | .prechargeEnd => Sys2Proof.Machine.execPrechargeEnd s
  | .prechargeTimeout => Sys2Proof.Machine.execPrechargeTimeout s
  | .feedbackTimeout n => Sys2Proof.Machine.execFeedbackTimeout n s
  | .openTimeout => Sys2Proof.Machine.execOpenTimeout s
  | .loopSample k t => Sys2Proof.Machine.execLoopSample k t s
  | .converterReturnFrame frame => Sys2Proof.Machine.execConverterReturnFrame frame s
  | .returnFrameTimeout => Sys2Proof.Machine.execReturnFrameTimeout s
  | .convRunTimeout => Sys2Proof.Machine.execConvRunTimeout s
  | .gainTableCommit r v => Sys2Proof.Machine.execGainTableCommit r v s
  | .clrPlaus r k => Sys2Proof.Machine.execClrPlaus r k s
  | .cleModeWrite r v => Sys2Proof.Machine.execCleModeWrite r v s
  | .traceArm r k v => Sys2Proof.Machine.execTraceArm r k v s
  | .traceForce r k v => Sys2Proof.Machine.execTraceForce r k v s
  | .order port q payload src => Sys2Proof.Machine.execOrder port q payload src s
  | .orderCommitDone => Sys2Proof.Machine.execOrderCommitDone s
  | .orderExecute => Sys2Proof.Machine.execOrderExecute s
  | .contactorWaitDone => Sys2Proof.Machine.execContactorWaitDone s
  | .relearnWritebackDone => Sys2Proof.Machine.execRelearnWritebackDone s
  | .orderCompletionCommit => Sys2Proof.Machine.execOrderCompletionCommit s
  | .gapResendRepeat => Sys2Proof.Machine.execGapResendRepeat s
  | .gapTimeout => Sys2Proof.Machine.execGapTimeout s
  | .rebase r => Sys2Proof.Machine.execRebase r s
  | .tallyCycle t twA twB => Sys2Proof.Machine.execTallyCycle t twA twB s
  | .tallyLoad r => Sys2Proof.Machine.execTallyLoad r s
  | .tallyLoadDone l => Sys2Proof.Machine.execTallyLoadDone l s
  | .tallyRun r => Sys2Proof.Machine.execTallyRun r s
  | .tallyStop r => Sys2Proof.Machine.execTallyStop r s
  | .stationInRx l node alive bits => Sys2Proof.Machine.execStationInRx l node alive bits s
  | .laneWdog r v => Sys2Proof.Machine.execLaneWdog r v s
  | .laneWdogExpire l => Sys2Proof.Machine.execLaneWdogExpire l s
  | .appWdKick r => Sys2Proof.Machine.execAppWdKick r s
  | .appWdExpire l => Sys2Proof.Machine.execAppWdExpire l s
  | .laneFail l bit => Sys2Proof.Machine.execLaneFail l bit s
  | .handover cause => Sys2Proof.Machine.execHandover cause s
  | .mergeEnd => Sys2Proof.Machine.execMergeEnd s
  | .swap r => Sys2Proof.Machine.execSwap r s
  | .inject r => Sys2Proof.Machine.execInject r s
  | .lreset r => Sys2Proof.Machine.execLreset r s
  | .laneAutoReset l => Sys2Proof.Machine.execLaneAutoReset l s
  | .laneBootComplete l => Sys2Proof.Machine.execLaneBootComplete l s
  | .laneRdy r v => Sys2Proof.Machine.execLaneRdy r v s
  | .sync r => Sys2Proof.Machine.execSync r s
  | .syncCopy => Sys2Proof.Machine.execSyncCopy s
  | .syncComplete => Sys2Proof.Machine.execSyncComplete s
  | .cbusTxreq r n => Sys2Proof.Machine.execCbusTxreq r n s
  | .cbusTxCancel r n => Sys2Proof.Machine.execCbusTxCancel r n s
  | .cbusTxDone l outcome sof => Sys2Proof.Machine.execCbusTxDone l outcome sof s
  | .cbusFrameRx l f ts => Sys2Proof.Machine.execCbusFrameRx l f ts s
  | .cbusFifoPop r => Sys2Proof.Machine.execCbusFifoPop r s
  | .cbusRxbufLock r k => Sys2Proof.Machine.execCbusRxbufLock r k s
  | .cbusRxbufRelease r k => Sys2Proof.Machine.execCbusRxbufRelease r k s
  | .cbusRxbufLockTimeout l k => Sys2Proof.Machine.execCbusRxbufLockTimeout l k s
  | .cbusError l tx fd heavy code => Sys2Proof.Machine.execCbusError l tx fd heavy code s
  | .boRec r => Sys2Proof.Machine.execBoRec r s
  | .cbusBusoffRecovered l => Sys2Proof.Machine.execCbusBusoffRecovered l s
  | .dominantTimeout l => Sys2Proof.Machine.execDominantTimeout l s
  | .shadowDrop l n => Sys2Proof.Machine.execShadowDrop l n s
  | .cbusErrRead r => Sys2Proof.Machine.execCbusErrRead r s
  | .cbusRxlostRead r => Sys2Proof.Machine.execCbusRxlostRead r s
  | .arrive r v => Sys2Proof.Machine.execArrive r v s
  | .barrierTimeout l => Sys2Proof.Machine.execBarrierTimeout l s
  | .plinkLinkUp l => Sys2Proof.Machine.execPlinkLinkUp l s
  | .plinkLinkDown l => Sys2Proof.Machine.execPlinkLinkDown l s
  | .dadFail l => Sys2Proof.Machine.execDadFail l s
  | .linkRst r => Sys2Proof.Machine.execLinkRst r s
  | .hppRecordIntake port transport v4 src b => Sys2Proof.Machine.execHppRecordIntake port transport v4 src b s
  | .regRead port lane seq addr count src => Sys2Proof.Machine.execRegRead port lane seq addr count src s
  | .regWrite port lane seq addr count ws src => Sys2Proof.Machine.execRegWrite port lane seq addr count ws src s
  | .resendReq port seq stream first count src => Sys2Proof.Machine.execResendReq port seq stream first count src s
  | .heartbeat t => Sys2Proof.Machine.execHeartbeat t s
  | .recordTxDone l => Sys2Proof.Machine.execRecordTxDone l s
  | .txUnderrun l => Sys2Proof.Machine.execTxUnderrun l s
  | .retentionExpire l => Sys2Proof.Machine.execRetentionExpire l s
  | .flush r mask => Sys2Proof.Machine.execFlush r mask s
  | .flushEffect l n => Sys2Proof.Machine.execFlushEffect l n s
  | .eventBatchSend => Sys2Proof.Machine.execEventBatchSend s
  | .plnkRxdropRead r => Sys2Proof.Machine.execPlnkRxdropRead r s
  | .queCntRead r n => Sys2Proof.Machine.execQueCntRead r n s
  | .icuClaim r t => Sys2Proof.Machine.execIcuClaim r t s
  | .icuEoi r t k => Sys2Proof.Machine.execIcuEoi r t k s
  | .icuModTimeout l k => Sys2Proof.Machine.execIcuModTimeout l k s
  | .icuHoldoffEnd l g => Sys2Proof.Machine.execIcuHoldoffEnd l g s
  | .icuRerouteTimeout l k => Sys2Proof.Machine.execIcuRerouteTimeout l k s
  | .icuTargetSleep l t => Sys2Proof.Machine.execIcuTargetSleep l t s
  | .icuTargetWake l t => Sys2Proof.Machine.execIcuTargetWake l t s
  | .icuGdisWrite r v => Sys2Proof.Machine.execIcuGdisWrite r v s
  | .icuMaskWrite r n v => Sys2Proof.Machine.execIcuMaskWrite r n v s
  | .icuStatRead r => Sys2Proof.Machine.execIcuStatRead r s
  | .icuUnmatchedRead r => Sys2Proof.Machine.execIcuUnmatchedRead r s
  | .evrRepeatWriteback => Sys2Proof.Machine.execEvrRepeatWriteback s
  | .evrHoldEnd => Sys2Proof.Machine.execEvrHoldEnd s
  | .evrClear r => Sys2Proof.Machine.execEvrClear r s
  | .evrClearDone => Sys2Proof.Machine.execEvrClearDone s
  | .thermSample ts => Sys2Proof.Machine.execThermSample ts s
  | .shutdownOutputsOff => Sys2Proof.Machine.execShutdownOutputsOff s
  | .shutdownLanesStop => Sys2Proof.Machine.execShutdownLanesStop s
  | .shutdownExit aBad bBad bad => Sys2Proof.Machine.execShutdownExit aBad bBad bad s
  | .serviceRegRead lane seq addr count crcOk form => Sys2Proof.Machine.execServiceRegRead lane seq addr count crcOk form s
  | .serviceRegWrite lane seq addr count ws crcOk form => Sys2Proof.Machine.execServiceRegWrite lane seq addr count ws crcOk form s
  | .updStageStart r v => Sys2Proof.Machine.execUpdStageStart r v s
  | .updStageAbort r => Sys2Proof.Machine.execUpdStageAbort r s
  | .stagingData bs => Sys2Proof.Machine.execStagingData bs s
  | .stagingComplete okA okB => Sys2Proof.Machine.execStagingComplete okA okB s
  | .updAct r v => Sys2Proof.Machine.execUpdAct r v s
  | .ownerSet r => Sys2Proof.Machine.execOwnerSet r s
  | .ownerClr r => Sys2Proof.Machine.execOwnerClr r s
  | .rbCommit r => Sys2Proof.Machine.execRbCommit r s
  | .announceReceiptTimeout port gm => Sys2Proof.Machine.execAnnounceReceiptTimeout port gm s
  | .exhaustionFlagLost => Sys2Proof.Machine.execExhaustionFlagLost s
  | .monitorPowerUp k => Sys2Proof.Machine.execMonitorPowerUp k s
  | .servicePortAttach => Sys2Proof.Machine.execServicePortAttach s
  | .cbusBusIntegration l => Sys2Proof.Machine.execCbusBusIntegration l s
  | .icmpEchoRequestRx l v4 target body => Sys2Proof.Machine.execIcmpEchoRequestRx l v4 target body s
  | .neighborDiscoveryRx l v4 target => Sys2Proof.Machine.execNeighborDiscoveryRx l v4 target s
  | .squallDacSettled => Sys2Proof.Machine.execSquallDacSettled s

end Sys2Proof.Machine
end

