-- ==== Sys2Proof/Machine/Step.lean ====
section
/-! DEFINITION. One step: the command at the front of the queue, or one tick of the time counter. -/

namespace Sys2Proof.Machine

open Sys2Proof

/-- A tick without a command: the time counter of a powered module advances by one tick (R476). -/
def State.idle (s : State) : State := if s.pwr.on then s.settle (s.elapse s.tickNs) else s

/-- The front command is carried out with the queue's rest; on an empty queue a tick passes. -/
def step (s : State) : Host.Outcome State Fault Refusal :=
  match s.pending with
  | [] => .next s.idle
  | c :: cs => exec c { s with pending := cs }

/-- The command that a word spells, put at the front of the queue; no word spells one. -/
def State.withFetchWord (s : State) (nbits w : Nat) : State :=
  match decodeTableWord nbits w with
  | some c => { s with pending := c :: s.pending }
  | none => s

end Sys2Proof.Machine
end

