-- ==== Sys2Proof/Safety.lean ====
section
/-! DEFINITION. The terms of the claims: what a command does, what it leaves alone, and the canonical forms that every state
of a sound run has. -/

namespace Sys2Proof.Machine

open Sys2Proof

/-- Registers that a frame lets change: by lane map, page and offset. -/
abbrev Regs := Lane → Nat → Nat → Bool

/-- No register. -/
def noRegs : Regs := fun _ _ _ => false

/-- The register of a field, in every lane map. -/
def fieldReg (f : Fld) : Regs := fun _ p o => p == f.page && o == f.off

/-- The register of a field in one lane's map. -/
def laneReg (l : Lane) (f : Fld) : Regs := fun k p o => k == l && p == f.page && o == f.off

/-- Registers of either set. -/
def Regs.or (a b : Regs) : Regs := fun l p o => a l p o || b l p o

/-- Every register reads as before but those of `may`, the page epochs, and the event latches where `ev` says so. -/
def KeepsRegs (ev : Bool) (may : Regs) (s t : State) : Prop :=
  ∀ l p o, p < 26 → o < 4096 → o ≠ 0x028 → (ev && (o == 0x010 || o == 0x018)) = false → may l p o = false →
    t.rd l p o = s.rd l p o

/-- The frame of a command that writes registers only: every other part of the state, memories included, is as before, but
for the answer to the requester and the hold of IN_MOTION. -/
def OnlyRegs (may : Regs) (s t : State) : Prop :=
  t = { s with regs := t.regs, still := t.still, answer := t.answer } ∧ KeepsRegs false may s t

/-- The frame of a command that writes registers and raises events: the ICUs, the recorder, the exporter, the record queues,
the queue of NV writes and the once-a-minute marks may change too. -/
def OnlyEvents (may : Regs) (s t : State) : Prop :=
  t = { s with
    regs := t.regs, still := t.still, answer := t.answer, recorder := t.recorder, exporter := t.exporter, icu := t.icu
    plink := t.plink, nv := { s.nv with queue := t.nv.queue, busy := t.nv.busy }, marks := t.marks } ∧
  KeepsRegs true may s t

/-- Every byte of the lanes' memories reads as before. -/
def SameMemory (s t : State) : Prop :=
  ∀ l a, memByte (t.dram.get l) a = memByte (s.dram.get l) a ∧ memByte (t.sram.get l) a = memByte (s.sram.get l) a

/-- An event is latched in a lane's copy of its page (xx_EVT, R77). -/
def Latched (t : State) (l : Lane) (code : Nat) : Prop :=
  bitAt (t.rd l (code / 0x100) 0x018).toNat (evtBit code) = true

/-- Crystal time has run, by ticks, to an instant of `up`: to the first tick at or after it, not at all where it is past. -/
def State.RunsTo (s t : State) (x : Nat) : Prop := max s.up x ≤ t.up ∧ t.up < max s.up x + s.tickNs

/-- A scheduled instant of the count has fired: at once where the count is at or after it, else at the first tick at which it
is (R476), which lies less than one tick of the count after it. -/
def State.Fires (s t : State) (x : Nat) : Prop :=
  (x ≤ s.clock.count → t.clock.count = s.clock.count) ∧
  (s.clock.count < x → 0 ≤ s.clock.frac → s.clock.frac < 2 ^ 40 → x + 64 < 2 ^ 64 →
    x ≤ t.clock.count ∧ t.clock.count ≤ x + s.tickNs)

/-- A state at the time of a later one: `up`, the count and the operating seconds are those of `t`. -/
def State.later (s t : State) : State :=
  { s with
    up := t.up, clock := { s.clock with count := t.clock.count, frac := t.clock.frac }
    nv := { s.nv with opsec := t.nv.opsec, opsecNs := t.nv.opsecNs } }

/-- A monitor that a frame has passed: a self-Lull ends, and the frame is repeated (R109, R110, R140). -/
def Monitor.met (m : Monitor) (f : Frame) : Monitor :=
  { m with self := false, passed := some (f.port.other, (f.hop + 1) % 256, (f.hopN + 255) % 256) }

/-- The module has power and the requester's path meets no dead lane. -/
abbrev State.hears1 (s : State) (r : Req) : Prop := s.pwr.on = true ∧ s.deadLane r = false

/-- The canonical form of a lane's memory: addresses strictly rising, no byte listed that reads as an unlisted one. -/
def Memory.wf (m : List Host.Cell) : Bool := swf (fun _ => (0 : Byte)) m

/-- The canonical form of the register file. -/
def regsWf (m : List (Nat × Word)) : Bool := swf resetWord m

/-- The instant since which IN_MOTION reads 0 is kept exactly while it reads 0 (R136, R474). -/
def State.motionKept (s : State) : Bool := s.inMotion != s.still.isSome

end Sys2Proof.Machine
end

