-- ==== Sys2Proof/Certificates/Slice0/Obligations.lean ====
section
/-! DEFINITION. The statements for the provers. -/

open Sys2Proof Sys2Proof.Machine

/-! ### The whole machine -/

/-- A step carries out the front command with the queue's rest; on an empty queue a powered module's counter takes one
tick, of 40 ns in LULL and of 4 ns elsewhere, and an unpowered module stays as it is (the model's choice,
notes/assumptions/2). -/
def Obligations.StepRunsTheFrontCommand : Prop :=
  (∀ (s : State) (c : Instr) (cs : List Instr), s.pending = c :: cs → step s = exec c { s with pending := cs }) ∧
  (∀ s : State, s.pending = [] → s.pwr.on = true →
    step s = .next (s.settle (s.elapse (if s.mode = St.LULL then 40 else 4)))) ∧
  (∀ s : State, s.pending = [] → s.pwr.on = false → step s = .next s)

/-- No command stops the module: a refused access, an internal fault, a shutdown and a loss of power are next states. -/
def Obligations.EveryCommandGoesOn : Prop := ∀ (c : Instr) (s : State), ∃ t, exec c s = .next t

/-- The queue of waiting commands is first in, first out: a step takes its front and leaves the rest as it was. -/
def Obligations.CommandsLeaveTheQueue : Prop :=
  ∀ (c : Instr) (cs : List Instr) (s t : State), s.pending = c :: cs → step s = .next t → t.pending = cs

/-- Whatever the command: where a page whose registers do not derive from snapshots has a block-specific register that
reads other than before, its xx_EPOCH holds the low 32 bits of the epoch of the latest sample instant (R78). -/
def Obligations.PageEpochFollowsEveryChange : Prop :=
  ∀ (c : Instr) (s t : State), s.pwr.on = true → exec c s = .next t → ∀ k ∈ pageCopies, pageWords s k ≠ pageWords t k →
    sget resetWord t.regs (k * 4096 + 0x028) = BitVec.ofNat 32 t.sampleEpoch

/-- Without power nothing of the module changes, whatever is commanded: the monitors, which live from their cells, with the
free values they draw, the exhaustion flag, and a power-up apart; and only a POWER_UP command within 40 V to 62 V gives
the module power. -/
def Obligations.PowerComesFromThePowerUp : Prop :=
  (∀ (c : Instr) (s t : State), s.pwr.on = false → exec c s = .next t → t.pwr.on = false →
    t = { s with mons := t.mons, free := t.free, pwr := { s.pwr with exhausted := t.pwr.exhausted } }) ∧
  (∀ (c : Instr) (s t : State), s.pwr.on = false → exec c s = .next t → t.pwr.on = true →
    ∃ mv tMax sensor aBad bBad bad, c = .powerUp mv tMax sensor aBad bBad bad ∧ 40000 ≤ mv ∧ mv ≤ 62000)

/-- Every step keeps the run of IN_MOTION: the instant since which it reads 0 is held exactly while it reads 0. -/
def Obligations.StepKeepsMotionRun : Prop :=
  ∀ s t : State, s.motionKept = true → step s = .next t → t.motionKept = true

/-- The run of IN_MOTION is in step right after reset, the memories and the register file are in canonical form, no command
waits, and the module has no power (the model's choice, notes/assumptions/3). -/
def Obligations.ResetState : Prop :=
  State.reset.motionKept = true ∧ regsWf State.reset.regs = true ∧
    (∀ l, Memory.wf (State.reset.dram.get l) = true ∧ Memory.wf (State.reset.sram.get l) = true) ∧
    State.reset.pending = [] ∧ State.reset.pwr.on = false ∧ State.reset.mode = St.BOOT ∧ State.reset.auth = none ∧
    (∀ l, State.reset.laneState l = 0) ∧ (∀ l, (State.reset.plink.get l).seqs = List.replicate 9 0) ∧
    State.reset.regWin = ⟨none, []⟩ ∧ State.reset.resendWin = ⟨none, []⟩

/-! ### The module's states, accesses and events -/

/-- GO takes CONFIG to OPERATE for the lane in authority with a valid configuration. HOLD takes OPERATE to CONFIG while
IN_MOTION reads 0; in BOOT it is kept for the end of the boot; with IN_MOTION, in LULL and in SHUTDOWN it is refused with
0x01 and nothing but the refusal record changes. The end of BOOT is OPERATE with a valid configuration and no HOLD, else
CONFIG; in any other state the firmware's report changes nothing (R100). -/
def Obligations.GoHoldAndBoot : Prop :=
  (∀ (r : Req) (s : State), s.hears1 r → s.isAuth r.lane = true → s.mode = St.CONFIG → s.cfgGood = true →
    ∃ t, exec (.go r) s = .next t ∧ t.mode = St.OPERATE ∧ t.answer = (0, 0) ∧ (∀ l, Latched t l 0x0001) ∧ SameMemory s t ∧
      t.mons = s.mons ∧ t.clock = s.clock ∧ t.chain = s.chain) ∧
  (∀ (r : Req) (s : State), s.hears1 r → s.isAuth r.lane = true →
    (s.mode = St.OPERATE → s.inMotion = false →
      ∃ t, exec (.hold r) s = .next t ∧ t.mode = St.CONFIG ∧ t.answer = (0, 0) ∧ t.mons = s.mons) ∧
    (s.mode = St.BOOT → ∃ t, exec (.hold r) s = .next t ∧ t.lane = { s.lane with holdBoot := true } ∧ t.mode = St.BOOT) ∧
    (s.mode = St.OPERATE ∧ s.inMotion = true ∨ s.mode = St.LULL ∨ s.mode = St.SHUTDOWN →
      ∃ t, exec (.hold r) s = .next t ∧ t.answer = (0x01, 0) ∧ OnlyRegs (laneReg r.lane ⟨Pg.SYS, 0x020, 31, 0⟩) s t)) ∧
  (∀ s : State, s.pwr.on = true →
    (s.mode = St.BOOT → s.auth.isSome = true → ∃ t, exec .bootComplete s = .next t ∧
      t.mode = (if s.lane.holdBoot || !s.cfgGood then St.CONFIG else St.OPERATE) ∧ t.lane.holdBoot = false) ∧
    (s.mode ≠ St.BOOT → ∃ t, exec .bootComplete s = .next t ∧ OnlyRegs noRegs s t))

/-- MRESET is accepted with the SYS lock held and IN_MOTION 0; the accepted reset then starts the module anew in BOOT, with
the monitors and the lanes' memories as they are, and its counters, links and records as at reset. A power-up between 40 V
and 62 V starts the module in BOOT with empty memories, whether or not the hold-up bank was exhausted, and in SHUTDOWN with
117 °C or more measured; at another voltage nothing happens. An MRAM whose test write fails is lost (R46, R104, R473,
R479, R480). -/
def Obligations.ResetsAndPowerUp : Prop :=
  ((∀ (r : Req) (s : State), s.hears1 r → s.holds r Pg.SYS = true → s.inMotion = false →
    ∃ t, exec (.mreset r) s = .next t ∧ t.resetting = true ∧ t.answer = (0, 0) ∧ (∀ l, Latched t l 0x0005) ∧ SameMemory s t) ∧
  (∀ (aBad bBad : List Nat) (bad : List (Lane × Nat × Nat)) (s : State), s.pwr.on = true → s.resetting = true →
    ∃ t, exec (.moduleReset aBad bBad bad) s = .next t ∧ t.resetting = false ∧ t.pwr.on = true ∧ t.up = 0 ∧ t.mode = St.BOOT ∧
      t.clock = { Clock.reset with asym := t.clock.asym, domain := t.clock.domain } ∧ t.sampleEpoch = 0 ∧
      t.plink = Pair.of Plink.reset ∧ t.regWin = ⟨none, []⟩ ∧ t.orders = Orders.reset ∧ t.recorder = Recorder.reset ∧
      t.mons = s.mons ∧ t.dram = s.dram ∧ t.sram = s.sram ∧ t.pending = s.pending ∧
      (aBad = [] → t.nv.aOk = true) ∧ (testOff ∈ aBad → t.nv.aOk = false) ∧
      (bBad = [] → t.nv.bOk = true) ∧ (testOff ∈ bBad → t.nv.bOk = false))) ∧
  (∀ (mv : Nat) (tMax : Int) (sensor : Nat) (aBad bBad : List Nat) (bad : List (Lane × Nat × Nat)) (s : State),
    s.pwr.on = false →
    (40000 ≤ mv → mv ≤ 62000 → ∃ t, exec (.powerUp mv tMax sensor aBad bBad bad) s = .next t ∧ t.pwr.on = true ∧
      t.mode = (if 1170 ≤ tMax then St.SHUTDOWN else St.BOOT) ∧ t.pwr.exhausted = false ∧ t.up = 0 ∧
      t.dram = Pair.of [] ∧ t.sram = Pair.of [] ∧ t.mons = s.mons ∧ t.pending = s.pending ∧
      t.clock = { Clock.reset with asym := t.clock.asym, domain := t.clock.domain } ∧
      (aBad = [] → t.nv.aOk = true) ∧ (testOff ∈ aBad → t.nv.aOk = false) ∧
      (bBad = [] → t.nv.bOk = true) ∧ (testOff ∈ bBad → t.nv.bOk = false)) ∧
    (mv < 40000 ∨ 62000 < mv → exec (.powerUp mv tMax sensor aBad bBad bad) s = .next s))

/-- A write of ones to xx_EVT clears those bits of the lane's latch and of xx_EVT_RAW and leaves the others, a write of
xx_EVT_SET latches the events it names, and a write of ones to xx_ERR clears bits of CODE and OVR only (R77, R79). An
unmapped access of a core answers an access fault, keeps the address in the lane's SYS_UNMAPPED and raises 0x0004; by the
plant link or the service port it is refused with 0x04 and changes nothing (R72, R88). -/
def Obligations.EventAndErrorRegisters : Prop :=
  (∀ (r : Req) (page : Nat) (v : Word) (s : State), s.hears1 r → page < 26 →
    (∃ t, exec (.evtClear r page v) s = .next t ∧ t.rd r.lane page 0x018 = s.rd r.lane page 0x018 &&& ~~~v ∧
      t.rd r.lane page 0x010 = s.rd r.lane page 0x010 &&& ~~~v ∧ t.answer = (0, 0) ∧ OnlyRegs (Regs.or (laneReg r.lane ⟨page, 0x018, 31, 0⟩) (fieldReg ⟨page, 0x010, 31, 0⟩)) s t) ∧
    (∃ t, exec (.evtSet r page v) s = .next t ∧ t.answer = (0, 0) ∧ OnlyEvents noRegs s t ∧
      ∀ k, k < 32 → bitAt v.toNat k = true → bitAt (t.rd r.lane page 0x018).toNat k = true) ∧
    (∃ t, exec (.errClear r page v) s = .next t ∧ t.rd r.lane page 0x020 = s.rd r.lane page 0x020 &&& ~~~(v &&& 0x1FF#32) ∧
      t.answer = (0, 0) ∧ OnlyRegs (laneReg r.lane ⟨page, 0x020, 31, 0⟩) s t)) ∧
  (∀ (r : Req) (addr : Nat) (s : State), s.pwr.on = true →
    (addr < 2 ^ 32 → place addr = .nowhere → r.path ≠ .hpp → r.path ≠ .service →
      ∃ t, exec (.unmappedAccess r addr) s = .next t ∧ t.answer = (0x100, 0) ∧ t.get r.lane F.SYS_UNMAPPED_ADDR = addr ∧
        (∀ l, Latched t l 0x0004) ∧ OnlyEvents (laneReg r.lane F.SYS_UNMAPPED_ADDR) s t) ∧
    (r.path = .hpp ∨ r.path = .service →
      ∃ t, exec (.unmappedAccess r addr) s = .next t ∧ t.answer = (0x04, 0) ∧ OnlyRegs noRegs s t))

/-- The locks of the pages (R83): the open key opens a closed lock for 60 s and restarts the owner's own; its owner closes it
with 0; any other value, and a close by anyone else, is refused with 0x02, an open of a lock that another holds with 0x05; it
closes by itself at its time, which an accepted write of TIME_RATE by the owner sets anew, and at a module reset; a page of
shared or mixed scope has one lock for both lanes; REMAIN reads the time left. -/
def Obligations.PageLocks : Prop :=
  (∀ (r : Req) (page : Nat) (s : State), s.hears1 r → page < 26 →
    (getBits (s.lockWord r.lane page) 31 31 = 0 ∨ s.holds r page = true → ∃ t, exec (.lockOpen r page) s = .next t ∧
      t.holds r page = true ∧ t.answer = (0, 0) ∧
      sget (fun _ => 0) t.lockT (regKey page 0x024 r.lane) = s.up + 60000000000 ∧
      (page ≠ Pg.TIME → KeepsRegs false (fieldReg ⟨page, 0x024, 31, 0⟩) s t)) ∧
    (s.holds r page = true → ∃ t, exec (.lockClose r page) s = .next t ∧ t.holds r page = false ∧ t.lockWord r.lane page = 0 ∧
      t.answer = (0, 0) ∧ (page ≠ Pg.TIME → KeepsRegs false (fieldReg ⟨page, 0x024, 31, 0⟩) s t)) ∧
    (getBits (s.lockWord r.lane page) 31 31 = 1 → s.holds r page = false → ∃ t, exec (.lockOpen r page) s = .next t ∧
      t.answer = (0x05, 0) ∧ OnlyRegs (laneReg r.lane ⟨page, 0x020, 31, 0⟩) s t) ∧
    (s.holds r page = false → ∃ t, exec (.lockClose r page) s = .next t ∧
      t.answer = (0x02, 0) ∧ OnlyRegs (laneReg r.lane ⟨page, 0x020, 31, 0⟩) s t) ∧
    (∀ (addr : Nat) (v : Word), addr < 2 ^ 32 → place addr = .page page 0x024 → v ≠ 0 → v.toNat ≠ 0x4C4B0000 + page →
      ∃ t, exec (.registerWrite r addr v) s = .next t ∧ t.answer = (0x02, 0) ∧
        OnlyRegs (laneReg r.lane ⟨page, 0x020, 31, 0⟩) s t)) ∧
  (∀ (l : Lane) (page : Nat) (s : State), s.pwr.on = true → page < 26 → getBits (s.lockWord l page) 31 31 = 1 →
    getBits (s.view l page 0x024) 15 0 = min 0xFFFF ((sget (fun _ => 0) s.lockT (regKey page 0x024 l) - s.up) / 10000000) ∧
    ∃ t, exec (.lockTimeout l page) s = .next t ∧ t.lockWord l page = 0 ∧
      s.RunsTo t (sget (fun _ => 0) s.lockT (regKey page 0x024 l)) ∧ SameMemory s t ∧
      (page ≠ Pg.TIME → KeepsRegs false (fieldReg ⟨page, 0x024, 31, 0⟩) s t)) ∧
  (∀ (r : Req) (v : Word) (s : State), s.hears1 r → s.isAuth r.lane = true → s.holds r Pg.TIME = true →
    -549755813 ≤ toSigned 32 v.toNat → toSigned 32 v.toNat ≤ 549755813 → ∃ t, exec (.timeRateWrite r v) s = .next t ∧
      sget (fun _ => 0) t.lockT (regKey Pg.TIME 0x024 r.lane) = s.up + 60000000000) ∧
  (∀ (aBad bBad : List Nat) (bad : List (Lane × Nat × Nat)) (s : State), s.pwr.on = true → s.resetting = true →
    ∃ t, exec (.moduleReset aBad bBad bad) s = .next t ∧ ∀ l page, page < 26 → t.lockWord l page = 0) ∧
  (∀ (page : Nat) (s : State), sharedPage page = true →
    s.lockWord .a page = s.lockWord .b page)

/-- The presence window: S1 opens it for 120 s outside LULL and SHUTDOWN, with 0x0002 where it was closed,
and starts the time of an open one anew; its end and a
write of CLOSE from any requester close it with 0x0003; a module reset closes it (R84, R457). -/
def Obligations.PresenceWindow : Prop :=
  ∀ s : State, s.pwr.on = true →
    (s.mode ≠ St.LULL → s.mode ≠ St.SHUTDOWN → ∃ t, exec .presenceOpen s = .next t ∧ t.g F.SYS_PRESENCE_OPEN = 1 ∧
      t.pwr = { s.pwr with presence := some (s.up + 120000000000) } ∧
      (s.g F.SYS_PRESENCE_OPEN = 0 → ∀ l, Latched t l 0x0002) ∧ SameMemory s t) ∧
    (s.g F.SYS_PRESENCE_OPEN = 1 → ∀ x, s.pwr.presence = some x → ∃ t, exec .presenceTimeout s = .next t ∧
      t.g F.SYS_PRESENCE_OPEN = 0 ∧ t.pwr.presence = none ∧ s.RunsTo t x ∧ ∀ l, Latched t l 0x0003) ∧
    (∀ r : Req, s.deadLane r = false → s.g F.SYS_PRESENCE_OPEN = 1 → ∃ t, exec (.presenceClose r) s = .next t ∧
      t.g F.SYS_PRESENCE_OPEN = 0 ∧ t.pwr = { s.pwr with presence := none } ∧ t.answer = (0, 0) ∧ ∀ l, Latched t l 0x0003) ∧
    (s.resetting = true → ∀ aBad bBad bad, ∃ t, exec (.moduleReset aBad bBad bad) s = .next t ∧
      t.g F.SYS_PRESENCE_OPEN = 0 ∧ t.pwr.presence = none)

/-! ### Registers, soft resets and the NV path -/

/-- A register write: xx_EVT_EN takes the word written, in the requester's lane alone; an upper word is staged for its
requester; a register with plain fields takes, field by field, what may be written, where no rule of its rows refuses it;
the write of any other register is the operation that its page gives it. A core's store changes the four bytes it names and
nothing else of the memories (R72, R77, R80, R81, R88). A read of the lowest word of a
multi-word value answers that word and keeps the upper words as they are at that instant for the requester; a read of an
upper word answers the word kept (R81). -/
def Obligations.WritesAndMultiWordReads : Prop :=
  (∀ (r : Req) (addr : Nat) (v : Word) (s : State), s.hears1 r → addr < 2 ^ 32 →
    (∀ p, place addr = .page p 0x014 → ∃ t, exec (.registerWrite r addr v) s = .next t ∧ t.rd r.lane p 0x014 = v ∧
      t.answer = (0, 0) ∧ OnlyRegs (laneReg r.lane ⟨p, 0x014, 31, 0⟩) s t) ∧
    (∀ p off, place addr = .page p off → off < 0x040 → ∃ t, exec (.registerWrite r addr v) s = .next t ∧
      t = s.settle { (writeHeader s r p off v).2 with answer := ((writeHeader s r p off v).1, 0) }) ∧
    (∀ p off, place addr = .page p off → 0x040 ≤ off → isStaged p off = true →
      ∃ t, exec (.registerWrite r addr v) s = .next t ∧ sget (fun _ => (0 : Word)) t.staged (shadowKey r p off) = v ∧
        t.answer = (0, 0) ∧ OnlyRegs noRegs { s with staged := t.staged } t) ∧
    (∀ p off x, place addr = .page p off → 0x040 ≤ off → isStaged p off = false →
      writeA s r p off v = some x ∨ writeB s r p off v = some x ∧ writeA s r p off v = none ∨
        writeC s r p off v = some x ∧ writeA s r p off v = none ∧ writeB s r p off v = none →
      ∃ t, exec (.registerWrite r addr v) s = .next t ∧ t = s.settle { x.2 with answer := (x.1, 0) }) ∧
    (∀ p off, place addr = .page p off → 0x040 ≤ off → isStaged p off = false → p ≠ Pg.UPD →
      writeA s r p off v = none → writeB s r p off v = none → writeC s r p off v = none →
      (authOnly p off = true → s.isAuth r.lane = true) → (p = Pg.CBUS → txBufBusy s r.lane off = false) →
      s.pageBad r.lane p off v = false → (∀ c ∈ regChecks s r false p off v, c.2 = false) →
      ∃ t, exec (.registerWrite r addr v) s = .next t ∧
        t.rd r.lane p off = (rowsAt p off).foldl (mergeRow v) (s.rd r.lane p off) ∧ t.answer = (0, 0) ∧
        OnlyRegs (fieldReg ⟨p, off, 31, 0⟩) { s with lockT := t.lockT } t) ∧
    (∀ off, place addr = .sram off → r.path ≠ .hpp → r.path ≠ .service → ∃ t, exec (.registerWrite r addr v) s = .next t ∧
      t.answer = (0, 0) ∧ OnlyRegs noRegs { s with sram := t.sram } t ∧
      (∀ k, k < 4 → memByte (t.sram.get r.lane) (off + k) = v.toNat / 2 ^ (8 * k) % 2 ^ 8) ∧
      (∀ l a, l ≠ r.lane ∨ a < off ∨ off + 4 ≤ a → memByte (t.sram.get l) a = memByte (s.sram.get l) a)) ∧
    (place addr = .dram → r.path ≠ .hpp → r.path ≠ .service → ∃ t, exec (.registerWrite r addr v) s = .next t ∧
      t.answer = (0, 0) ∧ OnlyRegs noRegs { s with dram := t.dram } t ∧
      (∀ k, k < 4 → memByte (t.dram.get r.lane) (addr + k) = v.toNat / 2 ^ (8 * k) % 2 ^ 8) ∧
      (∀ l a, l ≠ r.lane ∨ a < addr ∨ addr + 4 ≤ a → memByte (t.dram.get l) a = memByte (s.dram.get l) a))) ∧
  (∀ (r : Req) (addr p off : Nat) (s : State), s.hears1 r → addr < 2 ^ 32 → place addr = .page p off →
    (upperOf p off ≠ [] → ∃ t, exec (.multiwordLowRead r addr) s = .next t ∧ t.answer = (0, (s.view r.lane p off).toNat) ∧
      (∀ o ∈ upperOf p off, t.shadowWord r p o = s.view r.lane p o) ∧ OnlyRegs noRegs { s with shadow := t.shadow } t) ∧
    (isUpper p off = true → ∃ t, exec (.multiwordLowRead r addr) s = .next t ∧
      t.answer = (0, (s.shadowWord r p off).toNat) ∧ OnlyRegs noRegs s t))

/-- SRESET of the PWR, THERM, NVM and EVR pages resets the records that their chapters name; SRESET of CDT is refused with
0x05 while an invalidation runs; nothing else changes (R76). The configuration commit, with presence and without a
brown-out or a running commit, puts the configuration into the slot that is not active, under the next sequence number;
once written and verified, that slot is the active one, with 0x1803 and, where the owner lock changes, 0x1904 (R105,
R458). -/
def Obligations.SoftResetsAndConfigurationCommit : Prop :=
  (∀ (r : Req) (s : State), s.hears1 r →
    (∃ t, exec (.pageSreset r Pg.PWR) s = .next t ∧ t.g F.PWR_MIN_MIN = 0xFFFF ∧ t.g F.PWR_BO_COUNT = 0 ∧ t.answer = (0, 0) ∧
      t.g F.PWR_BO_BO = s.g F.PWR_BO_BO ∧ OnlyRegs (Regs.or (fieldReg F.PWR_MIN_MIN) (fieldReg F.PWR_BO_COUNT)) s t) ∧
    (∃ t, exec (.pageSreset r Pg.THERM) s = .next t ∧ t.g F.THERM_PEAK_T = 0 ∧ t.g F.THERM_CNT_THROTTLES = 0 ∧
      t.g F.THERM_CNT_SHUTDOWNS = s.g F.THERM_CNT_SHUTDOWNS ∧ t.answer = (0, 0) ∧
      OnlyRegs (Regs.or (fieldReg F.THERM_PEAK_T) (fieldReg F.THERM_CNT_THROTTLES)) s t) ∧
    (∃ t, exec (.pageSreset r Pg.NVM) s = .next t ∧ t.answer = (0, 0) ∧ t.rd r.lane Pg.NVM 0x044 = 0 ∧
      t.rd r.lane Pg.NVM 0x058 = 0 ∧
      OnlyRegs (Regs.or (laneReg r.lane ⟨Pg.NVM, 0x044, 31, 0⟩) (laneReg r.lane ⟨Pg.NVM, 0x058, 31, 0⟩)) s t) ∧
    (∃ t, exec (.pageSreset r Pg.EVR) s = .next t ∧ t.answer = (0, 0) ∧ OnlyRegs noRegs { s with recorder := { s.recorder with
      dropped := 0, lost := 0 } } t) ∧
    (s.getB r.lane F.CDT_STAT_INV_BUSY = true → ∃ t, exec (.pageSreset r Pg.CDT) s = .next t ∧ t.answer = (0x05, 0) ∧
      OnlyRegs (laneReg r.lane ⟨Pg.CDT, 0x020, 31, 0⟩) s t)) ∧
  ((∀ (r : Req) (s : State), s.hears1 r → s.nv.gone = false → s.noPresence r = false → s.nv.commit = none →
    (s.bo = false → ∃ t, exec (.nvmCfgCommit r) s = .next t ∧ t.answer = (0, 0) ∧ t.nv.commit = some (1 - s.nv.cfgSlot) ∧
      (∃ u ∈ t.nv.busy.toList ++ t.nv.queue, u.off = cfgOff (1 - s.nv.cfgSlot) ∧ u.seq = s.nv.cfgSeq + 1 ∧ u.left = 127) ∧
      OnlyRegs noRegs { s with nv := { s.nv with commit := t.nv.commit, queue := t.nv.queue, busy := t.nv.busy } } t) ∧
    (s.bo = true → ∃ t, exec (.nvmCfgCommit r) s = .next t ∧ t.answer = (0x01, 0) ∧
      OnlyRegs (laneReg r.lane ⟨Pg.NVM, 0x020, 31, 0⟩) s t)) ∧
  (∀ (slot o left : Nat) (ws : List (Nat × Word)) (p : Option TallyProg) (owner valid : Bool) (s : State),
    s.pwr.on = true → s.nv.commit = some slot → s.flash.acting = none →
    s.nv.unit (cfgOff slot) = some ⟨o, s.nv.cfgSeq + 1, .config ws p owner valid, left⟩ →
    (∀ u ∈ s.nv.busy.toList ++ s.nv.queue, u.off ≠ cfgOff slot) →
    ∃ t, exec .cfgCommitDone s = .next t ∧ t.nv.commit = none ∧ t.nv.cfgSlot = slot ∧ t.nv.cfgSeq = s.nv.cfgSeq + 1 ∧
      t.nv.cfgValid = valid ∧ t.g F.SYS_STATE_OWNER_LOCK = b2n owner ∧ t.mode = s.mode ∧ SameMemory s t ∧
      (∀ l, Latched t l 0x1803) ∧ (s.gb F.SYS_STATE_OWNER_LOCK ≠ owner → ∀ l, Latched t l 0x1904)))

/-- The last unit of an NV write completes in both MRAMs and is counted; a copy that fails its read-back loses its MRAM, with
0x1806 and 0x1801, and when both are lost, 0x1807, nothing waits any more (R103). The first 10 ms reading of J1 that
shows a removal raises 0x1804 and counts the removal in NV, or keeps it while PWR_BO is asserted; a further reading of
the same removal changes nothing of it (R106). -/
def Obligations.NvWritesAndTheSeal : Prop :=
  (∀ (u : NvUnit) (s : State), s.pwr.on = true → s.nv.busy = some u → u.left = 0 →
    (∀ c, u.body ≠ .wipe c) → u.off < 2 ^ 23 → s.nv.aOk = true → s.nv.bOk = true →
    (∃ t, exec (.nvWriteComplete true true) s = .next t ∧ t.nv.writes = (s.nv.writes + 1) % 2 ^ 32 ∧
      unitAt t.nv.a u.off = some u ∧ unitAt t.nv.b u.off = some u ∧ t.nv.aOk = true ∧ t.nv.bOk = true ∧
      (∀ o, o ≠ u.off → unitAt t.nv.a o = unitAt s.nv.a o ∧ unitAt t.nv.b o = unitAt s.nv.b o) ∧
      KeepsRegs false (fieldReg F.SAFE_LOCKOUT_NV_PEND) s t ∧ SameMemory s t) ∧
    (∃ t, exec (.nvWriteComplete false true) s = .next t ∧ t.nv.aOk = false ∧ t.nv.bOk = true ∧
      (∀ l, t.get l F.NVM_FAULT_MRAM = 0 ∧ t.get l F.NVM_FAULT_OFFSET = u.off) ∧ unitAt t.nv.b u.off = some u ∧ t.nv.a = s.nv.a ∧
      ∀ l, Latched t l 0x1806 ∧ Latched t l 0x1801) ∧
    (∃ t, exec (.nvWriteComplete true false) s = .next t ∧ t.nv.aOk = true ∧ t.nv.bOk = false ∧
      (∀ l, t.get l F.NVM_FAULT_MRAM = 1 ∧ t.get l F.NVM_FAULT_OFFSET = u.off) ∧ unitAt t.nv.a u.off = some u ∧ t.nv.b = s.nv.b ∧
      ∀ l, Latched t l 0x1806 ∧ Latched t l 0x1801) ∧
    (∃ t, exec (.nvWriteComplete false false) s = .next t ∧ t.nv.aOk = false ∧ t.nv.bOk = false ∧ t.nv.queue = [] ∧
      t.nv.a = s.nv.a ∧ t.nv.b = s.nv.b ∧ ∀ l, Latched t l 0x1806 ∧ Latched t l 0x1807)) ∧
  (∀ s : State, s.pwr.on = true →
    (s.nv.j1 = true → ∃ t, exec (.sealPoll false) s = .next t ∧ t.nv.j1 = false ∧ (∀ l, Latched t l 0x1804) ∧
      (s.bo = false → t.nv.removals = satInc 0xFFFF s.nv.removals ∧ t.nv.sealed.isSome = true) ∧
      (s.bo = true → t.nv.removed = s.nv.removed ++ [s.nv.opsec] ∧ t.nv.removals = s.nv.removals)) ∧
    (s.nv.j1 = false → ∃ t, exec (.sealPoll false) s = .next t ∧ OnlyRegs noRegs s t) ∧
    (∃ t, exec (.sealPoll true) s = .next t ∧ t.nv = { s.nv with j1 := true } ∧ SameMemory s t))

/-! ### Power, clocks and temperature -/

/-- The power-fail sequence: below 38.0 V or above 62.0 V PWR_BO asserts with 0x0101 and the isolation switch opens; 200 ms
later the outputs switch off; 10 ms within 40 V to 60 V end it with 0x0102 (R42, R43). -/
def Obligations.PowerFailSequence : Prop :=
  ∀ (mv : Nat) (s : State), s.pwr.on = true →
    (s.bo = false → mv < 38000 → ∃ t, exec (.brownOutWarning mv) s = .next t ∧ t.g F.PWR_BO_BO = 1 ∧ t.g F.PWR_BO_OV = 0 ∧
      t.g F.PWR_STAT_INPUT_OPEN = 1 ∧ t.g F.PWR_TRUNK_MV_MV = mv ∧ ∀ l, Latched t l 0x0101) ∧
    (s.bo = false → 62000 < mv → mv < 65536 → ∃ t, exec (.trunkOvervoltage mv) s = .next t ∧ t.g F.PWR_BO_BO = 1 ∧
      t.g F.PWR_BO_OV = 1 ∧ t.g F.PWR_STAT_INPUT_OPEN = 1 ∧ t.g F.PWR_TRUNK_MV_MV = mv ∧ ∀ l, Latched t l 0x0101) ∧
    (s.bo = true → s.safe.powerOff = false → ∃ t, exec .powerFailSwitchOff s = .next t ∧ t.safe.powerOff = true ∧
      t.g F.SAFE_STATE_OUT_CMD = 0 ∧ t.g F.SAFE_STATE_SEQ = 0 ∧ s.RunsTo t (s.pwr.failAt + 200000000) ∧
      ∀ l, Latched t l 0x0D0C) ∧
    (∀ v, s.bo = true → 40000 ≤ mv → mv ≤ 60000 → ∃ t, exec (.brownOutClear mv v) s = .next t ∧ t.bo = false ∧
      t.g F.PWR_STAT_INPUT_OPEN = 0 ∧ t.safe.powerOff = false ∧ t.nv.removed = [] ∧ (∀ l, Latched t l 0x0102) ∧
      t.g F.PWR_STAT_HOLDUP_FULL = b2n (s.gb F.PWR_STAT_HOLDUP_FULL && decide (950 ≤ v)) ∧
      t.g F.PWR_STAT_CHARGING = b2n (!(s.gb F.PWR_STAT_HOLDUP_FULL && decide (950 ≤ v))))

/-- The end of the bank: the module loses power with the exhaustion flag set, no lane runs, no lane has authority, nothing
waits for NV; without power the flag decays and nothing else changes (R44, R45, R479). The bank at 95.0 V is full, with
0x0103 where it was not and the trunk feeds it; ACT_24V below 16 V switches every output off with
0x0D0A and no lock-out, and at 18 V or more it is good again (R40, R478). -/
def Obligations.HoldupBankAndActuatorSupply : Prop :=
  (∀ s : State,
    (s.pwr.on = true → s.bo = true → ∃ t, exec .holdupExhausted s = .next t ∧ t.pwr.on = false ∧ t.pwr.exhausted = true ∧
      (∀ l, t.laneState l = 0) ∧ t.auth = none ∧ t.g F.SAFE_STATE_OUT_CMD = 0 ∧ t.nv.queue = [] ∧ t.nv.busy = none ∧
      t.recorder.held = [] ∧ t.mons = s.mons ∧ SameMemory s t) ∧
    (s.pwr.on = false → exec .exhaustionFlagLost s = .next { s with pwr := { s.pwr with exhausted := false } }) ∧
    (s.pwr.on = true → ∃ t, exec .exhaustionFlagLost s = .next t ∧ OnlyRegs noRegs s t)) ∧
  (∀ (mv : Nat) (s : State), s.pwr.on = true →
    (s.bo = false → s.g F.PWR_STAT_HOLDUP_FULL = 0 → ∃ t, exec .holdupFull s = .next t ∧ t.g F.PWR_STAT_HOLDUP_FULL = 1 ∧
      t.g F.PWR_STAT_CHARGING = 0 ∧ (∀ l, Latched t l 0x0103) ∧ OnlyEvents (fieldReg F.PWR_STAT_HOLDUP_FULL) s t) ∧
    (s.bo = true ∨ s.g F.PWR_STAT_HOLDUP_FULL = 1 → ∃ t, exec .holdupFull s = .next t ∧ OnlyRegs noRegs s t) ∧
    (mv < 16000 → ∃ t, exec (.actUndervoltage mv) s = .next t ∧ t.g F.PWR_STAT_ACT_OK = 0 ∧
      t.g F.PWR_ACT_MV_MV = mv ∧ t.safe.actLow = true ∧ t.g F.SAFE_STATE_OUT_CMD = 0 ∧
      t.g F.SAFE_LOCKOUT_LATCHED = s.g F.SAFE_LOCKOUT_LATCHED ∧ (s.safe.actLow = false → ∀ l, Latched t l 0x0D0A)) ∧
    (18000 ≤ mv → mv < 65536 → ∃ t, exec (.actSupplyRestored mv) s = .next t ∧ t.g F.PWR_STAT_ACT_OK = 1 ∧
      t.g F.PWR_ACT_MV_MV = mv ∧ OnlyRegs (Regs.or (fieldReg F.PWR_ACT_MV_MV) (fieldReg F.PWR_STAT_ACT_OK))
        { s with safe := { s.safe with actLow := false } } t))

/-- The clocks' supervision: a domain bad in two windows in a row marks CLK_FMON_FAIL and raises 0x0202 in its lane, one bad
window alone does not; a good window of the root with lock shows it good; a loss of lock is a root fault but under the stop
line, and so is a stop line without the sequencer's report; the release awaits lock, which the first window with lock
ends, and whose absence is a root fault (R49 to R52, R477). -/
def Obligations.ClockSupervision : Prop :=
  ∀ s : State, s.pwr.on = true →
    (∀ l bad khz, s.lane.stopLine = false → s.laneState l ≠ 0 → bad < 2 ^ 11 → khz < 2 ^ 16 →
      (Nat.land bad (s.lane.fmon.get l) = 0 → ∃ t, exec (.fmonWindow l bad khz) s = .next t ∧ t.get l F.CLK_FMON_FREQ_KHZ = khz ∧
        OnlyRegs (laneReg l F.CLK_FMON_FREQ_KHZ) { s with lane := { s.lane with fmon := s.lane.fmon.set l bad } } t) ∧
      (Nat.land bad (s.lane.fmon.get l) ≠ 0 → ∃ t, exec (.fmonWindow l bad khz) s = .next t ∧
        t.get l F.CLK_FMON_FAIL_FAIL = Nat.lor (s.get l F.CLK_FMON_FAIL_FAIL) (Nat.land bad (s.lane.fmon.get l)) ∧
        Latched t l 0x0202)) ∧
    (∀ ratio, 9000 ≤ ratio → ratio ≤ 11000 → s.lane.stopLine = false → s.lane.awaitLock = false →
      ∃ t, exec (.rootRatioWindow ratio true false) s = .next t ∧
        t.lane.rootBad = 0 ∧ (∀ l, t.get l F.CLK_STAT_PLL_LOCK = 1 ∧ t.get l F.CLK_STAT_ROOT_OK = 1 ∧ t.get l F.CLK_SUP_ROOT_OK = 1 ∧
          t.get l F.CLK_SUP_RATIO = ratio) ∧ SameMemory s t) ∧
    (∀ ratio, s.lane.stopLine = false → (∀ locked, ∃ t, exec (.rootRatioWindow ratio locked true) s = .next t ∧
        ∀ l, t.get l F.CLK_STAT_ROOT_OK = 0 ∧ t.get l F.CLK_SUP_ROOT_OK = 0) ∧
      (s.lane.awaitLock = true → ∃ t, exec (.rootRatioWindow ratio true false) s = .next t ∧ t.lane.awaitLock = false ∧
        (∀ l, t.get l F.CLK_STAT_PLL_LOCK = 1) ∧
        OnlyRegs (fieldReg F.CLK_STAT_PLL_LOCK) { s with lane := { s.lane with awaitLock := false, rootBad := 0 } } t)) ∧
    (s.lane.stopLine = true → ∃ t, exec .pllLockLoss s = .next t ∧ (∀ l, t.get l F.CLK_STAT_PLL_LOCK = 0) ∧
      OnlyRegs (fieldReg F.CLK_STAT_PLL_LOCK) s t) ∧
    (s.lane.stopLine = false → ∃ t, exec .pllLockLoss s = .next t ∧ ∀ l, t.get l F.CLK_STAT_PLL_LOCK = 0 ∧
      t.get l F.CLK_STAT_ROOT_OK = 0 ∧ t.get l F.CLK_SUP_ROOT_OK = 0) ∧
    (s.lane.stopLine = true → ∃ t, exec .rootRelease s = .next t ∧ OnlyRegs noRegs { s with lane := { s.lane with
      stopLine := false, awaitLock := true, rootBad := 0 } } t) ∧
    (s.lane.awaitLock = true → ∃ t, exec .rootLockTimeout s = .next t ∧ t.lane.awaitLock = false ∧
      ∀ l, t.get l F.CLK_STAT_ROOT_OK = 0)

/-- Every thermal sample shows the six sensors and the largest reading; below every level's run it changes nothing else; the
fourth sample in a row at or above 110 °C throttles the module, at or above 125 °C shuts it down (R450 to R453). Thermal
shutdown: the outputs off and both TRIP pairs held at TRIP, then both lanes held in reset with the root stopped; a press
of S1 after the cold run starts the module anew, before it nothing happens (R453 to R455). -/
def Obligations.ThermalLevelsAndShutdown : Prop :=
  (∀ (ts : List (Option Int)) (tMax : Int) (k : Nat) (s : State), s.pwr.on = true → s.g F.THERM_STAT_SENS_FAIL = 0 →
    (∀ j, j < 6 → ∃ x, ts.getD j none = some x ∧ -550 ≤ x ∧ x ≤ 1500) → maxSensor 0 ts = some (tMax, k) →
    (s.g F.THERM_STAT_LEVEL = 0 → s.pwr.hot = [0, 0, 0] → ∃ t, exec (.thermSample ts) s = .next t ∧ t.g F.THERM_STAT_LEVEL = 0 ∧
      t.g F.THERM_MAX_T = ofSigned 16 tMax ∧ t.g F.THERM_MAX_SENSOR = k ∧
      (∀ j, j < 6 → t.g (F.THERM_Sk_VALID j) = 1 ∧ some (t.g (F.THERM_Sk_T j)) = (ts.getD j none).map (ofSigned 16)) ∧
      OnlyRegs (fun _ p _ => p == Pg.THERM) { s with pwr := t.pwr } t) ∧
    (s.g F.THERM_STAT_LEVEL = 1 → s.pwr.hot = [4, 3, 0] → s.pwr.cold = [0, 0, 0] → 1100 ≤ tMax →
      ∃ t, exec (.thermSample ts) s = .next t ∧ t.g F.THERM_STAT_LEVEL = 2 ∧ t.throttled = true ∧
        ∀ l, Latched t l 0x0402 ∧ Latched t l 0x0203) ∧
    (s.g F.THERM_STAT_LEVEL = 2 → s.pwr.hot = [4, 4, 3] → s.mode = St.OPERATE → 1250 ≤ tMax →
      ∃ t, exec (.thermSample ts) s = .next t ∧ t.g F.THERM_STAT_LEVEL = 3 ∧ t.mode = St.SHUTDOWN ∧ t.g F.SYS_PRESENCE_OPEN = 0 ∧
        t.safe.awaiting = [] ∧ ∀ l, Latched t l 0x0403)) ∧
  (∀ s : State, s.pwr.on = true → s.mode = St.SHUTDOWN →
    (s.safe.shutTrip = false → ∃ t, exec .shutdownOutputsOff s = .next t ∧ t.safe.shutTrip = true ∧
      t.g F.SAFE_STATE_OUT_CMD = 0 ∧ s.RunsTo t (s.pwr.shutAt + 200000000) ∧ (s.prot.exhausted = false → t.prot.cmd = 2 ∧
        (s.prot.cmd ≠ 2 → t.g F.PROT_SQ_STAT_RB_A = 1 ∧ t.g F.PROT_SQ_STAT_RB_B = 1))) ∧
    (∃ t, exec .shutdownLanesStop s = .next t ∧ (∀ l, t.laneState l = 0) ∧ t.auth = none ∧ t.lane.stopLine = true ∧
      (∀ l, t.get l F.CLK_STAT_PLL_LOCK = 0) ∧ t.mode = St.SHUTDOWN ∧ t.forming = none) ∧
    (∀ aBad bBad bad, s.pwr.cold.getD 2 0 = 1000 → ∃ t, exec (.shutdownExit aBad bBad bad) s = .next t ∧ t.mode = St.BOOT ∧
      t.up = 0 ∧ t.clock = { Clock.reset with asym := t.clock.asym, domain := t.clock.domain } ∧ t.dram = s.dram ∧
      t.mons = s.mons ∧ (aBad = [] → t.nv.aOk = true) ∧ (testOff ∈ aBad → t.nv.aOk = false)) ∧
    (∀ aBad bBad bad, s.pwr.cold.getD 2 0 ≠ 1000 → ∃ t, exec (.shutdownExit aBad bBad bad) s = .next t ∧ OnlyRegs noRegs s t))

/-! ### Time -/

/-- TIME_STEP by the holder of TIME_LOCK in the authority lane: the counter takes the offset once, STEPPED is set, the
quality is HOLDOVER and the plant grid governs; a second step is refused with 0x01 and raises 0x0304 (R58, R60, R481). A
time reset makes the quality UNSET and starts the local grid anew where the ring runs (R60, R64, R475). -/
def Obligations.TimeStepsAndResets : Prop :=
  (∀ (r : Req) (lo : Word) (off : Int) (s : State), s.hears1 r → s.isAuth r.lane = true → s.holds r Pg.TIME = true →
    off = toSigned 64 (lo.toNat + 2 ^ 32 * s.stagedWord r Pg.TIME 0x04C) →
    (s.g F.TIME_STAT_STEPPED = 0 → (s.originReg : Int) + 2000000 ≤ s.clock.count + off → ∃ t, exec (.timeStep r lo) s = .next t ∧
      t.answer = (0, 0) ∧ t.clock.count = ((s.clock.count + off) % 2 ^ 64).toNat ∧ t.g F.TIME_STAT_STEPPED = 1 ∧
      t.g F.TIME_STAT_QUAL = 1 ∧ t.clock.plant = true ∧ t.g F.SNAP_STAT_LOCAL = 0 ∧ t.stagedWord r Pg.TIME 0x04C = 0 ∧
      (∀ l, Latched t l 0x0303) ∧ SameMemory s t) ∧
    (s.g F.TIME_STAT_STEPPED = 1 → ∃ t, exec (.timeStep r lo) s = .next t ∧ t.answer = (0x01, 0) ∧ t.clock = s.clock ∧
      (∀ l, Latched t l 0x0304) ∧ t.stagedWord r Pg.TIME 0x04C = 0 ∧
      OnlyEvents (laneReg r.lane ⟨Pg.TIME, 0x020, 31, 0⟩) { s with staged := t.staged } t)) ∧
  (∀ (r : Req) (s : State), s.hears1 r → s.isAuth r.lane = true → s.holds r Pg.TIME = true →
    ∃ t, exec (.timeReset r) s = .next t ∧ t.answer = (0, 0) ∧ t.g F.TIME_STAT_STEPPED = 0 ∧ t.g F.TIME_STAT_QUAL = 0 ∧
      t.clock.plant = false ∧ t.clock.count = s.clock.count ∧
      t.clock.next = (if s.clock.ringAt.isSome then some (0, s.clock.count + s.periodReg) else none) ∧
      (∀ l, Latched t l 0x0308) ∧ SameMemory s t)

/-- TIME_RATE (R59): a value within −549,755,813 to +549,755,813 in units of 2⁻⁴⁰ is taken, and the next tick of the counter
applies it; one outside is refused with 0x04; it is 0 at reset. -/
def Obligations.TimeRateCorrectsTheCounter : Prop :=
  State.reset.rd .a Pg.TIME 0x050 = 0 ∧
  ∀ (r : Req) (v : Word) (s : State), s.hears1 r → s.isAuth r.lane = true → s.holds r Pg.TIME = true →
    (-549755813 ≤ toSigned 32 v.toNat → toSigned 32 v.toNat ≤ 549755813 → ∃ t, exec (.timeRateWrite r v) s = .next t ∧
      t.answer = (0, 0) ∧ t.rd .a Pg.TIME 0x050 = v ∧
      OnlyRegs (fieldReg F.TIME_RATE_RATE) { s with lockT := t.lockT } t ∧
      ∃ u, step { t with pending := [] } = .next u ∧ (t.clock.count < 2 ^ 63 → 0 ≤ t.clock.frac → t.clock.frac < 2 ^ 40 →
        (2 ^ 40 * u.clock.count + u.clock.frac : Int) =
          2 ^ 40 * (t.clock.count + s.tickNs) + t.clock.frac + s.tickNs * toSigned 32 v.toNat)) ∧
    (toSigned 32 v.toNat < -549755813 ∨ 549755813 < toSigned 32 v.toNat → ∃ t, exec (.timeRateWrite r v) s = .next t ∧
      t.answer = (0x04, 0) ∧ OnlyRegs (laneReg r.lane ⟨Pg.TIME, 0x020, 31, 0⟩) s t)

/-- The timestamp queues: an event message of a port takes an entry while fewer than eight wait, else it is counted as
dropped; a pop answers VALID, LEVEL and TAG of the oldest and shows its time; the drop counts clear with their read
(R62, R70). -/
def Obligations.TimestampQueues : Prop :=
  ∀ (l : Lane) (tag time : Nat) (s : State), s.pwr.on = true →
    ((s.clock.tsq.get l).length < 8 →
      (∃ t, exec (.pdelayReqRx l tag time) s = .next t ∧
        t.clock.tsq.get l = s.clock.tsq.get l ++ [(tag % 2 ^ 16, time % 2 ^ 32)] ∧
        OnlyRegs noRegs { s with clock := { s.clock with tsq := t.clock.tsq } } t) ∧
      (∃ t, exec (.pdelayReqTx l tag time) s = .next t ∧
        t.clock.tsq.get l = s.clock.tsq.get l ++ [(tag % 2 ^ 16, time % 2 ^ 32)] ∧ t.clock.pdReq.get l = some time ∧
        OnlyRegs noRegs { s with clock := { s.clock with tsq := t.clock.tsq, pdReq := t.clock.pdReq } } t)) ∧
    (8 ≤ (s.clock.tsq.get l).length → ∃ t, exec (.pdelayReqRx l tag time) s = .next t ∧ t.clock = s.clock ∧
      t.get l F.TIME_TSQ_DROP_DROP_P = satInc 0xFFFF (s.get l F.TIME_TSQ_DROP_DROP_P) ∧
      (s.get l F.TIME_TSQ_DROP_DROP_P = 0 → Latched t l 0x0301) ∧
      OnlyEvents (laneReg l F.TIME_TSQ_DROP_DROP_P) s t) ∧
    (∀ (r : Req) (x : Nat × Nat) (rest : List (Nat × Nat)), s.deadLane r = false → s.clock.tsq.get r.lane = x :: rest →
      ∃ t, exec (.tsqPop r false) s = .next t ∧ t.answer = (0, 2 ^ 31 + rest.length * 2 ^ 16 + x.1 % 2 ^ 16) ∧
        t.clock.tsq.get r.lane = rest ∧ t.get r.lane F.TIME_TSQ_NS_NS = x.2 % 2 ^ 32 ∧
        OnlyRegs (laneReg r.lane F.TIME_TSQ_NS_NS) { s with clock := { s.clock with tsq := t.clock.tsq } } t) ∧
    (∀ r : Req, s.deadLane r = false → ∃ t, exec (.tsqDropRead r) s = .next t ∧ t.answer = (0, (s.rd r.lane Pg.TIME 0x070).toNat) ∧
      t.rd r.lane Pg.TIME 0x070 = 0 ∧ OnlyRegs (laneReg r.lane F.TIME_TSQ_DROP_DROP_P) s t)

/-- An Announce enters its master with the announced data set and keeps the others, and the best data set is the grandmaster;
a silent master is dropped; path delays follow from the two transits. A two-step Sync of the chosen grandmaster waits for
its Follow_Up, and one that replaces another ends the run towards LOCKED; the completed pair on the authority lane's port
shows the offset and, while the servo runs, writes the demand into TIME_RATE; frames of another domain have no effect; what
the profile does not support raises 0x0309 at most once a minute; HOLD_TO without a pair turns LOCKED into HOLDOVER (R53,
R54, R55, R59, R61). -/
def Obligations.MastersAndSync : Prop :=
  (∀ (l : Lane) (gm : Nat) (s : State), s.pwr.on = true →
    (∀ ds : List Nat, ∃ t, exec (.ptpAnnounceRx l s.clock.domain gm ds) s = .next t ∧
      (∀ x, x ∈ t.clock.masters.get l ↔ x = (ds, gm) ∨ (x ∈ s.clock.masters.get l ∧ x.2 ≠ gm)) ∧
      ((∀ x ∈ s.clock.masters.get l, x.2 ≠ gm → ds < x.1) → t.grandmaster l = some gm) ∧
      OnlyRegs noRegs { s with clock := { s.clock with masters := t.clock.masters } } t) ∧
    (∃ t, exec (.announceReceiptTimeout l gm) s = .next t ∧
      (∀ x, x ∈ t.clock.masters.get l ↔ x ∈ s.clock.masters.get l ∧ x.2 ≠ gm) ∧
      OnlyRegs noRegs { s with clock := { s.clock with masters := t.clock.masters } } t) ∧
    (∀ t1 t2 t3 t4 : Nat, s.clock.pdReq.get l = some t1 → ∃ t, exec (.pdelayRespRx l t2 t3 t4) s = .next t ∧
      t.clock.pdelay.get l = (((t4 : Int) - t1) - ((t3 : Int) - t2)) / 2 ∧ t.clock.pdReq.get l = none ∧
      OnlyRegs noRegs { s with clock := { s.clock with pdReq := t.clock.pdReq, pdelay := t.clock.pdelay } } t)) ∧
  (∀ (l : Lane) (gm seq time : Nat) (s : State), s.pwr.on = true →
    (s.grandmaster l = some gm → ∃ t, exec (.ptpSyncRx l s.clock.domain gm seq true time) s = .next t ∧
      t.clock.sync.get l = some (seq % 2 ^ 16, time % 2 ^ 32) ∧
      t.clock.lockRun = (if (s.clock.sync.get l).isSome && s.isAuth l then 0 else s.clock.lockRun) ∧
      OnlyRegs noRegs { s with clock := { s.clock with sync := t.clock.sync, lockRun := t.clock.lockRun } } t) ∧
    (s.minuteOver 0x0309 = true → (∃ t, exec (.ptpUnsupportedRx l) s = .next t ∧ (∀ k, Latched t k 0x0309) ∧ OnlyEvents noRegs s t) ∧
      (∃ t, exec (.ptpSyncRx l s.clock.domain gm seq false time) s = .next t ∧ ∀ k, Latched t k 0x0309)) ∧
    (∀ (dom : Nat) (ds : List Nat) (two : Bool) (origin : Nat) (corr demand : Int), dom ≠ s.clock.domain →
      (∃ t, exec (.ptpAnnounceRx l dom gm ds) s = .next t ∧ OnlyRegs noRegs s t) ∧
      (∃ t, exec (.ptpSyncRx l dom gm seq two time) s = .next t ∧ OnlyRegs noRegs s t) ∧
      (∃ t, exec (.ptpFollowUpRx l dom gm seq origin corr demand) s = .next t ∧ OnlyRegs noRegs s t)) ∧
    (s.minuteOver 0x0309 = false → ∃ t, exec (.ptpUnsupportedRx l) s = .next t ∧ OnlyRegs noRegs s t) ∧
    (∀ (origin : Nat) (corr demand off : Int), s.clock.sync.get l = some (seq % 2 ^ 16, time) → s.grandmaster l = some gm →
      s.isAuth l = true → s.g F.TIME_STAT_SERVO_OFF = 0 →
      off = extend s.clock.count time - (origin + corr + s.clock.pdelay.get l + s.clock.asym.get l) →
      ∃ t, exec (.ptpFollowUpRx l s.clock.domain gm seq origin corr demand) s = .next t ∧ t.clock.sync.get l = none ∧
        t.clock.lastPair = some (seq % 2 ^ 16, s.up) ∧
        t.g F.TIME_OFFSET_OFFSET = ofSigned 32 (clampI (-2147483647) 2147483647 off) ∧ t.g F.TIME_STAT_PTP_PORT = l.idx ∧
        t.g F.TIME_RATE_RATE = ofSigned 32 (clampI (-549755813) 549755813 demand) ∧ t.clock.count = s.clock.count) ∧
    (∀ q x, s.clock.lastPair = some (q, x) →
      (s.g F.TIME_STAT_QUAL = 2 → ∃ t, exec .syncLossTimeout s = .next t ∧ t.g F.TIME_STAT_QUAL = 1 ∧
        s.RunsTo t (x + 1000000000 * s.g F.TIME_HOLD_HOLD_TO) ∧ (∀ k, Latched t k 0x0305) ∧
        OnlyEvents (fieldReg F.TIME_STAT_QUAL)
          (({ s with clock := { s.clock with lockRun := 0, badRun := 0 } } : State).later t) t) ∧
      (s.g F.TIME_STAT_QUAL ≠ 2 → ∃ t, exec .syncLossTimeout s = .next t ∧
        OnlyRegs noRegs (({ s with clock := { s.clock with lockRun := 0 } } : State).later t) t)))

/-! ### Epochs, snapshots and the string measurement -/

/-- SNAP_ORIGIN and SNAP_PERIOD are set by the holder of SNAP_LOCK while the quality is UNSET, SNAP_ORIGIN not after it; a
write of SNAP_SLOTS in CONFIG voids every slot of the ring (R63, R81, R156). At a sample instant the schedule moves on by P,
the epoch is the latest sampled one, its snapshot forms with the coulomb count of the instant beside those not ready yet, and
the instant has fired at the first tick at or after it (R63, R144, R149, R475). -/
def Obligations.ScheduleAndSampleInstant : Prop :=
  (∀ (r : Req) (v : Word) (s : State), s.hears1 r → s.holds r Pg.SNAP = true →
    (s.g F.TIME_STAT_QUAL = 0 → ∃ t, exec (.snapOriginWrite r v) s = .next t ∧ t.answer = (0, 0) ∧
      t.originReg = v.toNat + 2 ^ 32 * s.stagedWord r Pg.SNAP 0x044 ∧ t.stagedWord r Pg.SNAP 0x044 = 0 ∧
      OnlyRegs (Regs.or (fieldReg ⟨Pg.SNAP, 0x040, 31, 0⟩) (fieldReg ⟨Pg.SNAP, 0x044, 31, 0⟩))
        { s with lockT := t.lockT, staged := t.staged } t) ∧
    (s.g F.TIME_STAT_QUAL ≠ 0 → ∃ t, exec (.snapOriginWrite r v) s = .next t ∧ t.answer = (0x01, 0) ∧ t.originReg = s.originReg) ∧
    (s.g F.TIME_STAT_QUAL = 0 → getBits v 2 0 ≤ 5 → ∃ t, exec (.snapPeriodWrite r v) s = .next t ∧ t.answer = (0, 0) ∧
      t.g F.SNAP_PERIOD_P = getBits v 2 0 ∧ OnlyRegs (fieldReg F.SNAP_PERIOD_P) { s with lockT := t.lockT } t) ∧
    (s.mode = St.CONFIG → inDram (s.g F.SNAP_BASE_BASE * 0x2000) (getBits v 13 0 * 0x2000) = true →
      (∀ c ∈ regChecks s r false Pg.SNAP 0x064 v, c.2 = false) → ∃ t, exec (.snapSlotsWrite r true v) s = .next t ∧
        t.answer = (0, 0) ∧ t.g F.SNAP_SLOTS_SLOTS = getBits v 13 0 ∧
        (∀ l i, s.dramOpen l = true → i < getBits v 13 0 →
          memWord (t.dram.get l) (s.g F.SNAP_BASE_BASE * 0x2000 + i * 0x2000 + 0x14FC) = 0xFFFFFFFF) ∧
        ∀ l, s.dramOpen l = false → t.dram.get l = s.dram.get l)) ∧
  (∀ (n t0 : Nat) (s : State), s.pwr.on = true → s.clock.next = some (n, t0) → s.mode ≠ St.LULL → s.mode ≠ St.SHUTDOWN →
    ∃ t, exec .epochSample s = .next t ∧ t.sampleEpoch = n ∧ t.clock.next = some (n + 1, t0 + s.clock.p) ∧
      s.Fires t t0 ∧ t.front.qLast = some s.coulombs ∧ t.late = s.late ++ s.forming.toList ∧
      (∃ f, t.forming = some f ∧ f.epoch = n ∧ f.t = t0 ∧ f.q = s.coulombs ∧ f.latched = false) ∧
      t.mons = s.mons ∧
      t.nv.cfgSeq = s.nv.cfgSeq)

/-- The release of a slot sets its END word to all ones in every lane whose DRAM takes writes, and changes nothing else
(R155, R156). At readiness the snapshot is the latest ready one, its epoch stands in SNAP_EPOCH and in the page's
xx_EPOCH, LATE and 0x0602 mark one beyond the bound, 0x0601 announces it; of snapshots that still form the oldest becomes
ready first (R155 to R157). -/
def Obligations.SnapshotsFillTheirSlots : Prop :=
  (∀ (f : Snap) (a i : Nat) (s : State), s.pwr.on = true → s.forming = some f → f.slot = some (a, i) →
    ∃ t, exec .slotRelease s = .next t ∧ OnlyRegs noRegs { s with dram := t.dram } t ∧
      (∀ l, s.dramOpen l = true → memWord (t.dram.get l) (a + 0x14FC) = 0xFFFFFFFF) ∧
      ∀ l x, s.dramOpen l = false ∨ x < a + 0x14FC ∨ a + 0x1500 ≤ x →
        memByte (t.dram.get l) x = memByte (s.dram.get l) x) ∧
  (∀ (f : Snap) (us : Nat) (shut : List Lane) (s : State), s.pwr.on = true →
    s.late = [] ∧ s.forming = some f ∨ s.late.head? = some f → f.epoch < 2 ^ 64 →
    ∃ t, exec (.snapshotReady us shut) s = .next t ∧ t.late = s.late.tail ∧
      t.forming = (if s.late = [] then none else s.forming) ∧ (∃ g, t.snap = some g ∧ g.epoch = f.epoch ∧ g.t = f.t) ∧
      t.snapEpoch = f.epoch ∧ t.g F.SNAP_READY_LATE = b2n (decide (f.lateBound < 2 * us)) ∧
      t.rd .a Pg.SNAP 0x028 = BitVec.ofNat 32 f.epoch ∧ (∀ l, Latched t l 0x0601) ∧
      (f.lateBound < 2 * us → ∀ l, Latched t l 0x0602))

/-- A decimator result shows the current, adds its charge to the coulomb count and lets one clipped window pass; clipping
marks three windows with 0x0703; a path's fault sets its flag with its event and its clearing raises 0x0709 (R143 to
R148, R151). After 50 fast samples their block stands in the ring of fast blocks of every lane whose DRAM takes writes,
MEAS_FAST_WR names it, and the next block begins (R160). -/
def Obligations.StringMeasurementAndFastBlocks : Prop :=
  (∀ s : State, s.pwr.on = true →
    (∀ (x : Nat) (u charge hall : Int) (v : Nat) (ntc eis : List Int), s.mode ≠ St.LULL →
      ∃ t, exec (.decimatorResult x u charge hall v ntc eis) s = .next t ∧
        t.g F.MEAS_I_I = ofSigned 32 ((s.takeNtc ntc).shuntCurrent u) ∧
        t.front.q = s.front.q + (s.takeNtc ntc).shuntCharge charge ∧ t.g F.MEAS_STAT_RUNNING = 1 ∧
        t.front.clipWin = s.front.clipWin - 1 ∧ t.front.ntc = ntc) ∧
    (∃ t, exec .shuntClip s = .next t ∧ t.g F.MEAS_STAT_OVERLOAD = 1 ∧ (s.front.clipWin = 0 → ∀ l, Latched t l 0x0703) ∧
      OnlyEvents (fieldReg F.MEAS_STAT_OVERLOAD) { s with front := { s.front with
        clipWin := max 3 s.front.clipWin, mClipped := true } } t) ∧
    (∀ path, path < 3 →
      (s.g (faultFld path) = 0 → (∃ t, exec (.frontEndFault path) s = .next t ∧ t.g (faultFld path) = 1 ∧
        ∀ l, Latched t l ([0x0701, 0x0702, 0x0706].getD path 0)) ∧
        ∃ t, exec (.frontEndFaultClear path) s = .next t ∧ OnlyRegs noRegs s t) ∧
      (s.g (faultFld path) = 1 → (∃ t, exec (.frontEndFaultClear path) s = .next t ∧ t.g (faultFld path) = 0 ∧
        ∀ l, Latched t l 0x0709) ∧ ∃ t, exec (.frontEndFault path) s = .next t ∧ OnlyRegs noRegs s t))) ∧
  (∀ s : State, s.pwr.on = true → 50 ≤ s.front.fast.length → s.g F.MEAS_FAST_BLOCKS_BLOCKS ≠ 0 →
    ∃ t, exec .fastBlockWrite s = .next t ∧ t.g F.MEAS_FAST_WR_WR = s.front.fastNo % 2 ^ 32 ∧
      t.front.fast = s.front.fast.drop 50 ∧ t.front.fastNo = s.front.fastNo + 1 ∧
      t.front.fastT = s.front.fastT + 5000000 ∧ t.front.q = s.front.q ∧
      (∀ l, s.dramOpen l = true → memBytes (t.dram.get l)
        (512 * s.g F.MEAS_FAST_BASE_BASE + 512 * (s.front.fastNo % s.g F.MEAS_FAST_BLOCKS_BLOCKS)) 512 =
          fastBlock s.front (s.gb F.SNAP_STAT_LOCAL) (s.g F.TIME_STAT_QUAL)) ∧
      (∀ l, s.dramOpen l = false → t.dram.get l = s.dram.get l) ∧ t.sram = s.sram)

/-! ### The monitors of the ring -/

/-- Frames with register commands: every frame is repeated with HOP + 1 and HOP_N − 1, a bad one is counted in LINK_ERR and
has no other effect; ENUM numbers a monitor upwards or downwards by its hop; a unicast ECHO, READ_REG and unknown code are
answered toward the port of the command; WRITE_REG stores every register where all may be written and none else (R110, R112
to R115). -/
def Obligations.FramesReachTheirMonitor : Prop :=
  ∀ (k : Nat) (f : Frame) (s : State),
    (frameBad f 0x02 [] = true → ∃ t, exec (.echo k f) s = .next t ∧
      t.mon k = ((s.mon k).met f).setReg 0x0F (satInc 0xFFFF ((s.mon k).reg 0x0F))) ∧
    (f.toAll = true → ∀ base,
      (frameBad f 0x01 (packBytes [(6, base), (1, 0)]) = false → ∃ t, exec (.enum k f base true) s = .next t ∧
        t.mon k = ((s.mon k).met f).setReg 0x05 (base + f.h - 1) ∧ ∀ j, j ≠ k → t.mon j = s.mon j) ∧
      (frameBad f 0x01 (packBytes [(6, base), (1, 1)]) = false → (s.mon k).reg 0x05 = 0 → f.h ≤ base →
        ∃ t, exec (.enum k f base false) s = .next t ∧ t.mon k = ((s.mon k).met f).setReg 0x05 (base - (f.h - 1)))) ∧
    (f.names ((s.mon k).reg 0x05) = true →
      (frameBad f 0x02 [] = false → ∃ t, exec (.echo k f) s = .next t ∧
        t.mon k = { (s.mon k).met f with reply := some (f.port, ringReply 0x02 ((s.mon k).reg 0x05) []) } ∧
        ∀ j, j ≠ k → t.mon j = s.mon j) ∧
      (∀ first n, frameBad f 0x03 [first, n] = false → ∃ t, exec (.readReg k f first n) s = .next t ∧
        t.mon k = { (s.mon k).met f with reply := some (f.port, ringReply 0x03 ((s.mon k).reg 0x05)
          ((List.range n).flatMap fun i => leBytes 2 ((s.mon k).read (first + i)))) }) ∧
      (∀ code payload, frameBad f code payload = false → ∃ t, exec (.unknownRingCommand k f code payload) s = .next t ∧
        t.mon k = { (s.mon k).met f with reply := some (f.port, ringReply code ((s.mon k).reg 0x05) [0x04]) }) ∧
      (∀ (first : Nat) (vs : List Nat), frameBad f 0x04 (writePayload first vs) = false →
        (regsWritable first vs = true → ∃ t, exec (.writeReg k f first vs) s = .next t ∧
          (t.mon k).reply = some (f.port, ringReply 0x04 ((t.mon k).reg 0x05) [0x00]) ∧
          (∀ i, i < vs.length → (t.mon k).reg (first + i) = vs.getD i 0 % 2 ^ 16) ∧
          ∀ a, a < first ∨ first + vs.length ≤ a → (t.mon k).reg a = (s.mon k).reg a) ∧
        (regsWritable first vs = false → ∃ t, exec (.writeReg k f first vs) s = .next t ∧
          t.mon k = { (s.mon k).met f with reply := some (f.port, ringReply 0x04 ((s.mon k).reg 0x05) [0x04]) })))

/-- Sampling: a SAMPLE of a new epoch arms the sample delay and ends a running open-wire round, a repeat changes nothing; at
its instant the monitor holds its inputs under the epoch; the conversion is marked done and latches the faults found in
STATUS and FAULT; READ_SWEEP is answered within its hop range and only there (R115, R116, R119, R120, R132). -/
def Obligations.MonitorsSample : Prop :=
  ∀ (k : Nat) (f : Frame) (s : State),
    (f.toAll = true → ∀ epoch start, frameBad f 0x10 (samplePayload epoch start) = false →
      ((s.mon k).epoch ≠ some epoch → ∃ t, exec (.sample k f epoch start) s = .next t ∧ (t.mon k).epoch = some epoch ∧
        (t.mon k).delay = some ((((40 : Int) - f.h) * 160 + 400 - 10 * (s.mon k).trim f.port).toNat) ∧ (t.mon k).sink = 0 ∧
        (t.mon k).rounds = [] ∧ (t.mon k).held = (s.mon k).held ∧ bitAt (t.mon k).status 8 = ((s.mon k).sink != 0)) ∧
      ((s.mon k).epoch = some epoch → ∃ t, exec (.sample k f epoch start) s = .next t ∧
        t.mon k = ((s.mon k).met f).dutyRest s.up)) ∧
    (∀ d e v, (s.mon k).delay = some d → (s.mon k).epoch = some e → ∃ t, exec (.monitorSampleInstant k v) s = .next t ∧
      t.mon k = { (s.mon k) with delay := none, held := v, heldEp := e % 2 ^ 16, converted := false }) ∧
    (∀ out faults, ∃ t, exec (.monitorConversionDone k out faults) s = .next t ∧ (t.mon k).converted = true ∧
      (t.mon k).held = (s.mon k).held ∧ (t.mon k).status = Nat.land (s.mon k).status 0x0F3F + statusFaults faults ∧
      (t.mon k).reg 0x09 = Nat.lor ((s.mon k).reg 0x09) (statusFaults faults) % 2 ^ 16 ∧
      ∀ j, j < 12 → (t.mon k).timers.getD j 0 =
        if (s.mon k).held.coarse.getD j 0 < (s.mon k).vlo then 0 else (s.mon k).timers.getD j 0) ∧
    (f.toAll = true → ∀ first last, frameBad f 0x11 [first, last] = false →
      (first ≤ f.h → f.h ≤ last → ∃ t, exec (.readSweep k f first last) s = .next t ∧
        (t.mon k).reply = some (f.port, sweepFrame (s.mon k).sweep) ∧ bitAt (t.mon k).status 9 = false ∧
          bitAt (t.mon k).status 10 = false) ∧
      (f.h < first ∨ last < f.h → ∃ t, exec (.readSweep k f first last) s = .next t ∧
        t.mon k = (s.mon k).met f))

/-- Open-wire rounds and Lull in a monitor: OW_TEST switches the sinks of the first round on; the end of the last round
reports, in a coding that the manual leaves open (notes/assumptions/28); LULL_ENTER takes period and limits; a check outside
the limits sends a wake burst, one inside none; 60 s without a frame set LINK_LOST and Lull; a returning supply clears all
but what manufacture wrote (R115, R130, R136, R137, R140). -/
def Obligations.MonitorTestsAndLull : Prop :=
  ∀ (k : Nat) (f : Frame) (s : State),
    (f.names ((s.mon k).reg 0x05) = true → ∀ mask, frameBad f 0x30 (leBytes 2 mask) = false →
      ∃ t, exec (.owTest k f mask) s = .next t ∧ (t.mon k).owPort = f.port ∧
      (t.mon k).sink = (owRounds mask).headD 0 ∧ (t.mon k).rounds = (owRounds mask).tail ∧ (t.mon k).owRes = []) ∧
    (∀ change, (s.mon k).sink ≠ 0 → (s.mon k).rounds = [] → ∃ t, exec (.owRoundDone k change) s = .next t ∧ (t.mon k).sink = 0 ∧
      (t.mon k).owRes = (s.mon k).owRes ++ (((List.range 13).filter fun n => bitAt (s.mon k).sink n).map
        fun n => (n, owVerdict (change.getD n 0))) ∧
      ∃ w, (t.mon k).reply = some ((s.mon k).owPort, ringReply 0x30 ((s.mon k).reg 0x05) w) ∧ w.length = 2) ∧
    (f.toAll = true → ∀ period vlo vhi tlo thi, frameBad f 0x50 (lullPayload period vlo vhi tlo thi) = false → ∃ t, exec (.lullEnter k f period vlo vhi tlo thi) s = .next t ∧
      (t.mon k).lull = true ∧ (t.mon k).reg 0x0A = period % 2 ^ 16 ∧ (t.mon k).vlo = vlo ∧ (t.mon k).vhi = vhi ∧
        (t.mon k).tlo = tlo ∧ (t.mon k).thi = thi) ∧
    (∀ v, (s.mon k).lull = true →
      ((s.mon k).alarmed v = true → ∃ t, exec (.monitorLullCheck k v) s = .next t ∧ (t.mon k).burst = true ∧
        bitAt (t.mon k).status 9 = true) ∧
      ((s.mon k).alarmed v = false → ∃ t, exec (.monitorLullCheck k v) s = .next t ∧
        t.mon k = { (s.mon k) with burst := false })) ∧
    (∃ t, exec (.monitorSelfLull k) s = .next t ∧ (t.mon k).self = true ∧ bitAt (t.mon k).status 10 = true ∧
      (s.mon k).timers = (t.mon k).timers) ∧
    (∃ t, exec (.monitorPowerUp k) s = .next t ∧ (t.mon k).reg 0x05 = 0 ∧ (t.mon k).lull = false ∧
      (t.mon k).timers = List.replicate 12 0 ∧ ∀ a, 1 ≤ a ∧ a ≤ 4 ∨ 0x40 ≤ a → (t.mon k).reg a = (s.mon k).reg a)

/-- A bleed plan replaces a monitor's twelve timers and is acknowledged with its PLAN_ID; a stop ends the masked timers; a
duty cycle takes the on-time from the timers of the switches that were on; at its end a timer opens its switch (R234,
R236, R237). STOP_ALL of the authority lane ends every modelled timer in both lanes and raises 0x0B03, PLAN_NOW asks both
lanes for a plan; another lane is refused with 0x0A; a monitor's timers read within 2 s of the model confirm it (R231,
R238, R239). -/
def Obligations.BleedingInMonitorsAndLanes : Prop :=
  (∀ (k : Nat) (f : Frame) (s : State),
    (f.names ((s.mon k).reg 0x05) = true →
      (∀ plan timers, frameBad f 0x20 (planPayload plan timers) = false → ∃ t, exec (.bleedPlan k f plan timers) s = .next t ∧ (t.mon k).plan = plan % 256 ∧
        (t.mon k).reply = some (f.port, ringReply 0x20 ((s.mon k).reg 0x05) [0x00, plan % 256]) ∧
        (t.mon k).duty = bleedDuty (s.mon k).held.die ∧ (t.mon k).cycleAt = s.up ∧
        ∀ j, j < 12 → (t.mon k).timers.getD j 0 = timers.getD j 0 % 2 ^ 16 ∧
          (t.mon k).bleeding.getD j false = (decide (0 < timers.getD j 0 % 2 ^ 16) &&
            decide (0 < bleedDuty (s.mon k).held.die) && !(s.mon k).tests j)) ∧
      (∀ mask, frameBad f 0x21 (leBytes 2 mask) = false → ∃ t, exec (.bleedStop k f mask) s = .next t ∧
        (t.mon k).reply = some (f.port, ringReply 0x21 ((s.mon k).reg 0x05) [0x00]) ∧
        ∀ j, j < 12 → (t.mon k).timers.getD j 0 = if bitAt mask j then 0 else (s.mon k).timers.getD j 0)) ∧
    (∃ t, exec (.bleedDutyCycle k) s = .next t ∧ (t.mon k).duty = bleedDuty (s.mon k).held.die ∧
      (t.mon k).cycleAt = s.up ∧ (t.mon k).resting = false ∧ ∀ j, j < 12 → (t.mon k).timers.getD j 0 =
        if ((s.mon k).dutyRest s.up).bleeding.getD j false || (((s.mon k).dutyRest s.up).resting && !(s.mon k).tests j)
        then (bleedSpend ((s.mon k).timers.getD j 0) ((s.mon k).onMs.getD j 0) ((s.mon k).duty * 625)).1
        else (s.mon k).timers.getD j 0) ∧
    (∀ n, 1 ≤ n → n ≤ 12 → ∃ t, exec (.bleedTimerEnd k n) s = .next t ∧ (t.mon k).timers.getD (n - 1) 0 = 0 ∧
      (t.mon k).bleeding.getD (n - 1) false = false ∧ ∀ j, j ≠ n - 1 → (t.mon k).timers.getD j 0 = (s.mon k).timers.getD j 0)) ∧
  (∀ (r : Req) (s : State), s.hears1 r →
    (s.isAuth r.lane = true →
      (∃ t, exec (.stopAll r) s = .next t ∧ t.answer = (0, 0) ∧ (∀ l p, ((t.bal.get l).at1 p).remain = 0) ∧
        (∀ l, Latched t l 0x0B03) ∧ t.mons = s.mons) ∧
      (∃ t, exec (.planNow r) s = .next t ∧ t.answer = (0, 0) ∧ OnlyRegs noRegs { s with
        bal := ⟨{ s.bal.a with planNow := true }, { s.bal.b with planNow := true }⟩ } t)) ∧
    (s.isAuth r.lane = false → (∃ t, exec (.stopAll r) s = .next t ∧ t.answer = (0x0A, 0) ∧ t.bal = s.bal) ∧
      (∃ t, exec (.planNow r) s = .next t ∧ t.answer = (0x0A, 0) ∧ t.bal = s.bal)) ∧
    (∀ (k duty : Nat) (remain : List Nat) (l : Lane), 1 ≤ k → s.active l = true →
      (∀ j, j < 12 → (((s.bal.get l).at1 (12 * (k - 1) + j + 1)).remain - remain.getD j 0 * 1000000 : Int).natAbs < 2000000) →
      ∃ t, exec (.bleedReconcile k remain duty) s = .next t ∧ ((t.bal.get l).monAt k).duty = duty ∧
        ∀ j, j < 12 → ((t.bal.get l).at1 (12 * (k - 1) + j + 1)).bEst = false ∧
          ((t.bal.get l).at1 (12 * (k - 1) + j + 1)).remain = ((s.bal.get l).at1 (12 * (k - 1) + j + 1)).remain))

/-- The lock-in hardware of a monitor: SETUP awaits new codes, FREQ takes eight of them, an ACCEPT is counted and adds the held
partial of its epoch at every position that is not gated, in the window past its end as in the running one, which then moves
into the result buffer; ABORT discards the windows of its WIN_ID; EIS_READ answers the bins of a group in FMASK, the gate
record, or SEL 0xFF without a result (R176, R178, R179). -/
def Obligations.MonitorLockIn : Prop :=
  ∀ (k : Nat) (f : Frame) (s : State), f.names ((s.mon k).reg 0x05) = true →
    (∀ win tb nep pUs settle fmask, frameBad f 0x40 (eisPayload 1 [win, tb, nep, pUs, settle, fmask]) = false →
      ∃ t, exec (.eisSetup k f win tb nep pUs settle fmask) s = .next t ∧
        (t.mon k).eis.setup = [win % 256, tb, nep, pUs, settle, fmask] ∧ (t.mon k).eis.gotSetup = true ∧
        (t.mon k).eis.got0 = false ∧ (t.mon k).eis.got8 = false ∧
        (t.mon k).reply = some (f.port, ringReply 0x40 ((s.mon k).reg 0x05) [0x00])) ∧
    (∀ first codes, first = 0 ∨ first = 8 → frameBad f 0x40 (eisPayload 2 (first :: codes)) = false →
      ∃ t, exec (.eisFreq k f first codes) s = .next t ∧ ∀ i, i < 16 → (t.mon k).eis.codes.getD i 0 =
        if first ≤ i ∧ i < first + 8 then codes.getD (i - first) 0 else (s.mon k).eis.codes.getD i 0) ∧
    (∀ win idx count w, frameBad f 0x40 (eisPayload 3 [win, idx, count]) = false → w.win = win % 256 →
      ((s.mon k).eis.closing = none → (s.mon k).eis.cur = some w → ∃ t, exec (.eisAccept k f win idx count) s = .next t ∧
        (t.mon k).eis = { (s.mon k).eis with cur := some (w.accept idx) }) ∧
      ((s.mon k).eis.closing = some w → ∃ t, exec (.eisAccept k f win idx count) s = .next t ∧
        (t.mon k).eis.closing = none ∧ (t.mon k).eis.res = some { w.accept idx with held := none }) ∧
      (w.accept idx).accRx = w.accRx + 1 ∧ (w.held = some idx → (w.accept idx).held = none ∧ ∀ j, j < 12 →
        (w.accept idx).accepted.getD j 0 = w.accepted.getD j 0 + (if w.heldGate.getD j false then 0 else 1))) ∧
    (∀ win, frameBad f 0x40 (eisPayload 4 [win]) = false → ∃ t, exec (.eisAbortFrame k f win) s = .next t ∧
      (∀ w, (t.mon k).eis.cur = some w ∨ (t.mon k).eis.closing = some w → w.win ≠ win % 256) ∧
      ((t.mon k).eis.gotSetup = true → (t.mon k).eis.setup.getD 0 0 ≠ win % 256) ∧ (t.mon k).eis.res = (s.mon k).eis.res) ∧
    (∀ win sel bins, frameBad f 0x41 [win % 256, sel] = false → ∃ t, exec (.eisRead k f win sel bins) s = .next t ∧
      (t.mon k).eis = (s.mon k).eis ∧ ∃ p, (t.mon k).reply = some (f.port, ringReply 0x41 ((s.mon k).reg 0x05) p) ∧
        (4 < sel → p = [0x04]) ∧
        (sel ≤ 4 → ((s.mon k).eis.res.map fun w => w.win) ≠ some (win % 256) → p = [win % 256, 0xFF]) ∧
        (∀ w, (s.mon k).eis.res = some w → w.win = win % 256 →
          (sel < 4 → p = [win % 256, sel] ++ (maskBins w.fmask sel bins).flatMap (leBytes 4)) ∧
          (sel = 4 → p = [win % 256, 4] ++ leBytes 4 w.accRx ++ leBytes 2 w.ovfBits ++ w.ranges.flatMap gateBytes)))

/-! ### The chain master -/

/-- REENUM in CONFIG by the authority lane starts the enumeration; its end with every monitor counted closes the ring and
raises 0x080A, on an open ring it works open with 0x0801, with a wrong count it stops SAMPLE and raises 0x080B (R113, R125,
R134, R141). SAMPLE leaves 6,800 ns before its instant, closes the gap and empties the sweep; the sweep starts with the hops
of both ports; a reply in a slot that is read is counted at its port, kept where its CRC holds and asked for again where it
does not; a silent slot ends the read of its port, and the other port reads what is left; at the end the gap opens, and a
SAMPLE that came back with every hop shows the ring closed (R116, R120 to R122, R125, R126). -/
def Obligations.EnumerationAndSweep : Prop :=
  ((∀ (r : Req) (s : State), s.hears1 r →
    (s.isAuth r.lane = true → s.mode = St.CONFIG → ∃ t, exec (.chainReenum r) s = .next t ∧ t.answer = (0, 0) ∧
      t.g F.CHAIN_STAT_ENUM_BUSY = 1 ∧ t.mons = s.mons) ∧
    (s.isAuth r.lane = false → ∃ t, exec (.chainReenum r) s = .next t ∧ t.answer = (0x0A, 0) ∧
      OnlyRegs (laneReg r.lane ⟨Pg.CHAIN, 0x020, 31, 0⟩) s t)) ∧
  (∀ (loop : Option Nat) (eIds wIds : List Nat) (serials : List (Nat × Nat))
    (trims : List (Nat × Option Nat × Option Nat)) (s : State), s.pwr.on = true →
    (loop = some s.monCount → ∃ t, exec (.enumerationDone loop eIds wIds serials trims) s = .next t ∧
      t.g F.CHAIN_STAT_ENUM_BUSY = 0 ∧ t.g F.CHAIN_STAT_COUNT_OK = 1 ∧ t.g F.CHAIN_STAT_RING_CLOSED = 1 ∧
      t.g F.CHAIN_STAT_OPEN_MODE = 0 ∧ t.chain.wiring = false ∧ t.clock.ringAt.isSome = true ∧
      (trims = [] → t.mons = s.mons) ∧ ∀ l, Latched t l 0x080A) ∧
    (loop = none → openRingOk s.monCount eIds wIds = true → ∃ t, exec (.enumerationDone loop eIds wIds serials trims) s = .next t ∧
      t.g F.CHAIN_STAT_ENUM_BUSY = 0 ∧ t.g F.CHAIN_STAT_COUNT_OK = 1 ∧ t.g F.CHAIN_STAT_RING_CLOSED = 0 ∧
      t.g F.CHAIN_STAT_OPEN_MODE = 1 ∧ t.chain.edge = (eIds.length, wIds.length) ∧
      ∀ l, Latched t l 0x080A ∧ Latched t l 0x0801) ∧
    (∀ h, loop = some h → h ≠ s.monCount → ∃ t, exec (.enumerationDone loop eIds wIds serials trims) s = .next t ∧
      t.g F.CHAIN_STAT_ENUM_BUSY = 0 ∧ t.g F.CHAIN_STAT_COUNT_OK = 0 ∧ t.chain.wiring = true ∧
      t.g F.CHAIN_STAT_RING_CLOSED = 0 ∧ ∀ l, Latched t l 0x080B))) ∧
  (∀ s : State, s.pwr.on = true →
    (∀ n x, s.samples = true → s.clock.next = some (n, x) → ∃ t, exec .sampleLaunch s = .next t ∧ t.chain.gap = false ∧
      t.chain.looped = false ∧ t.chain.replies = [] ∧ t.chain.silent = [] ∧ t.chain.mE = 0 ∧ t.chain.mW = 0 ∧
      s.Fires t (x - 6800) ∧ t.mons = s.mons ∧ ∃ start, t.chain.wire =
        (if s.gb F.CHAIN_STAT_OPEN_MODE then [Ring.e, Ring.w] else [Ring.e]).map fun p =>
          (p, ringFrame 0 0x10 (samplePayload n start))) ∧
    (∃ t, exec .sweepStart s = .next t ∧ t.chain.mE = 0 ∧ t.chain.mW = 0 ∧ t.chain.replies = [] ∧
      (∀ p a b x, (p, a, b, x) ∈ t.chain.sweep ↔
        a = 1 ∧ x = false ∧ 1 ≤ b ∧ b = (if p = Ring.e then s.ranges.1 else s.ranges.2)) ∧
      OnlyRegs noRegs { s with chain := { s.chain with
        mE := 0, mW := 0, replies := [], again := [], silent := [], sweep := t.chain.sweep, wire := t.chain.wire } } t) ∧
    (∀ p r crc, (s.chain.readAt p (s.hopFrom p r.id) = none → ∃ t, exec (.sweepReplyRx p r crc) s = .next t ∧
        OnlyRegs noRegs s t) ∧
      ((s.chain.readAt p (s.hopFrom p r.id)).isSome = true → ∃ t, exec (.sweepReplyRx p r crc) s = .next t ∧
        t.chain.mE = s.chain.mE + (if p = Ring.e then 1 else 0) ∧ t.chain.mW = s.chain.mW + (if p = Ring.e then 0 else 1) ∧
        (crc = (sweepFrame r).crc → (∀ x, x ∈ t.chain.replies ↔ x = (p, r) ∨ (x ∈ s.chain.replies ∧ x.2.id ≠ r.id)) ∧
          OnlyRegs noRegs { s with chain := { s.chain with
            mE := t.chain.mE, mW := t.chain.mW, replies := t.chain.replies } } t) ∧
        (crc ≠ (sweepFrame r).crc → (p, r.id) ∈ t.chain.again ∧
          t.g F.CHAIN_LINKERR_CRC = satInc 0xFFFF (s.g F.CHAIN_LINKERR_CRC) ∧
          ((p, r.id) ∉ s.chain.again → (p, s.hopFrom p r.id, s.hopFrom p r.id, true) ∈ t.chain.sweep) ∧
          OnlyRegs (fieldReg F.CHAIN_LINKERR_CRC) { s with chain := { s.chain with
            mE := t.chain.mE, mW := t.chain.mW, again := t.chain.again, sweep := t.chain.sweep, wire := t.chain.wire } } t))) ∧
    (∀ p k x, s.chain.readAt p (s.hopFrom p k) = some x → ∃ t, exec (.sweepSlotSilent p k) s = .next t ∧
      t.chain.silent = (p, k) :: s.chain.silent ∧
      (x.2.2.2 = true → t.chain.sweep = s.chain.sweep.erase x) ∧
      (x.2.2.2 = false → t.chain.sweep =
        (p.other, s.monCount + 1 - x.2.2.1, s.monCount + 1 - s.hopFrom p k, true) :: s.chain.sweep.erase x) ∧
      OnlyRegs noRegs { s with chain := { s.chain with
        silent := t.chain.silent, sweep := t.chain.sweep, wire := t.chain.wire } } t) ∧
    (∀ us, us < 2 ^ 16 → ∃ t, exec (.sweepComplete us) s = .next t ∧ t.chain.gap = true ∧ t.g F.CHAIN_SWEEP_LAST_US = us ∧
      t.mons = s.mons ∧ (∀ f, s.forming = some f → ∃ g, t.forming = some g ∧ g.swept = true ∧ g.epoch = f.epoch)) ∧
    (s.g F.CHAIN_STAT_OPEN_MODE = 0 → ∃ t, exec (.sampleLoopback s.monCount) s = .next t ∧ t.chain.looped = true ∧
      t.g F.CHAIN_STAT_RING_CLOSED = 1 ∧
      OnlyRegs (fieldReg F.CHAIN_STAT_RING_CLOSED) { s with chain := { s.chain with looped := true } } t) ∧
    (s.g F.CHAIN_STAT_OPEN_MODE = 1 → ∃ t, exec (.sampleLoopback s.monCount) s = .next t ∧ t.chain.looped = true ∧
      t.g F.CHAIN_STAT_RING_CLOSED = 1 ∧ t.g F.CHAIN_STAT_OPEN_MODE = 0 ∧ ∀ l, Latched t l 0x0802))

/-- A valid reply to a register read through the mailbox shows its data and frees the mailbox; a reply whose CRC fails is
counted; the command of a reply that fails or stays out is sent again in a later gap, and after two repeats counted, with
result 0x08 in the mailbox; a measured trim is kept and written to its monitor (R111, R115, R117, R141). An open-wire result
with one verdict open declares the lead open, with 0x0806 and the 0x0B03 of the bleed stop beside it; a second intact verdict
in a row declares it intact with 0x0807 (R131, R237). -/
def Obligations.RepliesAndOpenWires : Prop :=
  (∀ s : State, s.pwr.on = true →
    (∀ mon reg x tries later r, s.chain.await = some ⟨.mreg mon reg false x, tries, later⟩ →
      (replyCrcOk r = true → replyTo r 0x03 mon = true → ∃ t, exec (.chainReplyRx r) s = .next t ∧ t.g F.CHAIN_MREG_BUSY = 0 ∧ t.g F.CHAIN_MREG_RESULT = 0 ∧
        t.g F.CHAIN_MREG_DATA_DATA = leAt r.payload 0 2 % 2 ^ 16 ∧ t.mons = s.mons) ∧
      (replyCrcOk r = false → tries < 2 → ∃ t, exec (.chainReplyRx r) s = .next t ∧
        t.g F.CHAIN_LINKERR_CRC = satInc 0xFFFF (s.g F.CHAIN_LINKERR_CRC) ∧
        (∃ q ∈ t.chain.queue, q.cmd = .mreg mon reg false x ∧ q.tries = tries + 1 ∧ q.later = true)) ∧
      (2 ≤ tries → ∃ t, exec .chainReplyTimeout s = .next t ∧ t.g F.CHAIN_MREG_BUSY = 0 ∧ t.g F.CHAIN_MREG_RESULT = 8 ∧
        t.g F.CHAIN_LINKERR_TIMEOUT = satInc 0xFFFF (s.g F.CHAIN_LINKERR_TIMEOUT)) ∧
      (tries < 2 → ∃ t, exec .chainReplyTimeout s = .next t ∧
        (∃ q ∈ t.chain.queue, q.cmd = .mreg mon reg false x ∧ q.tries = tries + 1 ∧ q.later = true) ∧
        t.g F.CHAIN_MREG_BUSY = s.g F.CHAIN_MREG_BUSY)) ∧
    (∀ k e w, ∃ t, exec (.trimMeasure k (some e) (some w)) s = .next t ∧ (t.chain.inf k).trimE = trimOf k e ∧
      (t.chain.inf k).trimW = trimOf (s.monCount + 1 - k) w ∧ (t.mon k).reg 0x06 = ofSigned 16 (trimOf k e) ∧
      (t.mon k).reg 0x07 = ofSigned 16 (trimOf (s.monCount + 1 - k) w) ∧ KeepsRegs false noRegs s t)) ∧
  (∀ (k leads tries n : Nat) (later : Bool) (r : RingReply) (s : State), s.pwr.on = true → n ≤ 12 →
    replyCrcOk r = true → replyTo r 0x30 k = true →
    (s.chain.inf k).leads.length = 13 → s.chain.await = some ⟨.ow k leads 2, tries, later⟩ →
    ((s.chain.inf k).openLead n = false → ∃ t, exec (.owResultRx r [(n, 1)]) s = .next t ∧ (t.chain.inf k).openLead n = true ∧
      (t.chain.inf k).testing = 0 ∧ (∀ l, Latched t l 0x0806 ∧ Latched t l 0x0B03) ∧ t.mons = s.mons) ∧
    ((s.chain.inf k).leads.getD n ⟨0, 0, false⟩ = ⟨0, 1, true⟩ → ∃ t, exec (.owResultRx r [(n, 0)]) s = .next t ∧
      (t.chain.inf k).openLead n = false ∧ ∀ l, Latched t l 0x0807))

/-- Requests on the CHAIN page by the authority lane: an open-wire request in order joins the waiting commands, OW_ALL and
the period test every lead of every monitor, SER_TAKE in CONFIG takes the enumerated serials, a mailbox access occupies the
mailbox; another lane is refused with 0x0A (R130, R135, R141). -/
def Obligations.ChainRequests : Prop :=
  ∀ (r : Req) (v : Word) (s : State), s.hears1 r →
    (s.isAuth r.lane = false → (∃ t, exec (.owAll r) s = .next t ∧ t.answer = (0x0A, 0) ∧ t.chain = s.chain) ∧
      (∃ t, exec (.chainMreg r v) s = .next t ∧ t.answer = (0x0A, 0) ∧ t.chain = s.chain)) ∧
    (s.isAuth r.lane = true →
      (s.mode ≠ St.LULL → s.g F.CHAIN_STAT_OW_BUSY = 0 → getBits v 29 24 ≠ 0 → getBits v 29 24 ≤ s.monCount →
        getBits v 12 0 ≠ 0 → s.chain.await.isSome = true → ∃ t, exec (.chainOwReq r v) s = .next t ∧ t.answer = (0, 0) ∧
          t.g F.CHAIN_STAT_OW_BUSY = 1 ∧ t.rd .a Pg.CHAIN 0x06C = 0 ∧
          ∃ q ∈ t.chain.queue, q.cmd = .ow (getBits v 29 24) (getBits v 12 0) 1) ∧
      (s.chain.await.isSome = true → ∃ t, exec (.owAll r) s = .next t ∧ t.answer = (0, 0) ∧
        ∀ k, 1 ≤ k → k ≤ s.monCount → ∃ q ∈ t.chain.queue, q.cmd = .ow k 0x1FFF 2) ∧
      (s.mode = St.CONFIG → ∃ t, exec (.serTake r) s = .next t ∧ t.answer = (0, 0) ∧
        (∀ x ∈ s.chain.info, ∃ y ∈ t.chain.info, y.1 = x.1 ∧
          y.2.serCfg = (if x.2.serEnum = 0 then x.2.serCfg else x.2.serEnum)) ∧
        OnlyRegs noRegs { s with chain := { s.chain with info := t.chain.info } } t) ∧
      (s.g F.CHAIN_MREG_BUSY = 0 → getBits v 29 24 ≠ 0 → getBits v 29 24 ≤ 40 → ∃ t, exec (.chainMreg r v) s = .next t ∧
        t.answer = (0, 0) ∧ t.g F.CHAIN_MREG_BUSY = 1 ∧ t.g F.CHAIN_MREG_MON = getBits v 29 24 ∧
          t.g F.CHAIN_MREG_REG = getBits v 23 16)) ∧
    (s.g F.CHAIN_OWCFG_OW_PERIOD ≠ 0 → s.chain.await.isSome = true → ∃ t, exec .owPeriodic s = .next t ∧
      ∀ k, 1 ≤ k → k ≤ s.monCount → ∃ q ∈ t.chain.queue, q.cmd = .ow k 0x1FFF 2) ∧
    (s.g F.CHAIN_OWCFG_OW_PERIOD = 0 → ∃ t, exec .owPeriodic s = .next t ∧ OnlyRegs noRegs s t)

/-- LULL: a request whose conditions hold is accepted, another is refused with 0x01; once it and the read-backs are through,
the entry stops the module with 0x080D; a wake source acts in LULL once, with its cause and 0x080E; the completed wake ends
in OPERATE; after ten clean snapshots of a self-wake the module enters LULL again (R136, R138, R139, R399). -/
def Obligations.LullAndWake : Prop :=
  (∀ (r : Req) (v : Word) (s : State), s.hears1 r → s.isAuth r.lane = true →
    (s.lullOk = true → (∀ c ∈ regChecks s r false Pg.CHAIN 0x080 (setBits v 31 31 1), c.2 = false) →
      ∃ t, exec (.chainLullEnter r v) s = .next t ∧ t.answer = (0, 0) ∧ t.chain.lullReq = true ∧ t.mode = St.OPERATE) ∧
    (s.lullOk = false → (∀ c ∈ regChecks s r false Pg.CHAIN 0x080 (setBits v 31 31 1), c.2 = false) →
      ∃ t, exec (.chainLullEnter r v) s = .next t ∧ t.answer = (0x01, 0) ∧ OnlyRegs (laneReg r.lane ⟨Pg.CHAIN, 0x020, 31, 0⟩) s t)) ∧
  (∀ s : State, s.pwr.on = true →
    (s.mode = St.OPERATE → s.chain.lullReq = true → s.chain.waits RingCmd.isLull = false → ∃ t, exec .lullEntry s = .next t ∧ t.mode = St.LULL ∧
      t.g F.SAFE_STATE_OUT_CMD = 0 ∧ t.lane.stopLine = true ∧ t.forming = none ∧ t.front.mPaused = true ∧
      ∀ l, Latched t l 0x080D ∧ Latched t l 0x0708) ∧
    (s.mode = St.OPERATE → s.alarmsSettled = true → s.noAlarm = true → ∀ n, 10 ≤ n → s.chain.clean = some n → ∃ t, exec .selfWakeRelull s = .next t ∧ t.mode = St.LULL) ∧
    (s.mode = St.LULL → s.chain.waking = none →
      (∀ mon detail, ∃ t, exec (.wakeBurst mon detail) s = .next t ∧ t.chain.waking = some 1 ∧
        t.rd .a Pg.CHAIN 0x090 = BitVec.ofNat 32 (2 ^ 28 + mon % 64 * 2 ^ 16 + detail % 2 ^ 16) ∧
        (∀ l, Latched t l 0x080E) ∧
        OnlyEvents (fieldReg ⟨Pg.CHAIN, 0x090, 31, 0⟩) { s with chain := { s.chain with waking := some 1 } } t) ∧
      (∃ t, exec .s1Wake s = .next t ∧ t.chain.waking = some 3 ∧ ∀ l, Latched t l 0x080E) ∧
      (∃ t, exec .selfWake s = .next t ∧ t.chain.waking = some 4 ∧ (∀ l, Latched t l 0x080E) ∧
        s.RunsTo t (s.chain.lullAt + 1000000000 * s.g F.CHAIN_LULL_WAKE_WAKE_S)) ∧
      (∀ f : CanFrame, f.fdf = false → f.ide = true → f.type = 0x01 → s.getB s.evrLane F.CBUS_WAKE_WAKE_EN = true →
        f.rem < 64 → ∃ t, exec (.cbusWake f true) s = .next t ∧ t.chain.waking = some 2 ∧ ∀ l, Latched t l 0x080E)) ∧
    (∀ cause, s.mode = St.LULL → s.chain.waking = some cause → ∃ t, exec .wakeComplete s = .next t ∧ t.mode = St.OPERATE ∧
      t.chain.waking = none ∧ t.lane.stopLine = false ∧ t.g F.MEAS_STAT_Q_PAUSED = 0 ∧
      t.chain.clean = (if cause = 4 then some 0 else none)) ∧
    (s.mode ≠ St.LULL → ∃ t, exec .s1Wake s = .next t ∧ OnlyRegs noRegs s t))

/-! ### The channel table, impedance, the estimator and balancing -/

/-- Invalidations of the channel table: an immediate one empties the Stall cache of the named entries and shows INV_BUSY and
the epoch that uses it, its end raises 0x0501; a deferred one waits for its epoch; while one runs another is refused with
0x05; a relocation empties the cache (R94, R96, R98, R101). -/
def Obligations.TableInvalidations : Prop :=
  ∀ (r : Req) (first count : Nat) (s : State), s.hears1 r →
    (s.getB r.lane F.CDT_STAT_INV_BUSY = false →
      s.getB r.lane F.CDT_STAT_DEFER_PEND = false → 1 ≤ count → count ≤ 2 ^ 14 → first + count ≤ 2 ^ 14 →
      (∃ t, exec (.cdtInvalImmediate r first count) s = .next t ∧ t.answer = (0, 0) ∧ t.getB r.lane F.CDT_STAT_INV_BUSY = true ∧
        (∀ x ∈ (t.cdt.get r.lane).cache, x ∈ (s.cdt.get r.lane).cache ∧ (x.1 < first ∨ first + count ≤ x.1)) ∧
        t.get r.lane F.CDT_INVAL_STAT_APPLY_EPOCH = s.nextEst r.lane % 2 ^ 32 ∧ SameMemory s t) ∧
      (∀ ep : Word, (ep.toNat + 2 ^ 32 - s.nextEst r.lane % 2 ^ 32) % 2 ^ 32 ≤ 2 ^ 31 →
        ∃ t, exec (.cdtInvalDeferred r first count ep) s = .next t ∧ t.answer = (0, 0) ∧
          t.getB r.lane F.CDT_STAT_DEFER_PEND = true ∧ (t.cdt.get r.lane).deferred = some (first, count, ep.toNat) ∧
          (t.cdt.get r.lane).cache = (s.cdt.get r.lane).cache)) ∧
    (s.getB r.lane F.CDT_STAT_INV_BUSY = true → ∃ t, exec (.cdtInvalImmediate r first count) s = .next t ∧
      t.answer = (0x05, 0) ∧ t.cdt = s.cdt) ∧
    (∀ l, s.getB l F.CDT_STAT_INV_BUSY = true → ∃ t, exec (.cdtInvalDone l) s = .next t ∧ t.getB l F.CDT_STAT_INV_BUSY = false ∧
      Latched t l 0x0501 ∧ OnlyEvents (Regs.or (laneReg l F.CDT_STAT_INV_BUSY) (fieldReg (tblCrcFld l))) s t) ∧
    (∀ v : Word, (∀ c ∈ regChecks s r false Pg.CDT 0x044 v, c.2 = false) →
      getBits v 14 0 = 0 ∨ tableFits (s.get r.lane F.CDT_BASE_BASE) (getBits v 14 0) = true →
      ∃ t, exec (.cdtTableRelocate r true v) s = .next t ∧ t.answer = (0, 0) ∧ (t.cdt.get r.lane).cache = [] ∧
        t.get r.lane F.CDT_COUNT_COUNT = getBits v 14 0 ∧ (t.cdt.get r.lane).runs = (s.cdt.get r.lane).runs)

/-- An impedance window: START by the authority lane prepares it in both lanes, and waits where one runs; it begins at the first
SAMPLE at or after its earliest instant, with 0x0901; past its last epoch it closes into its readout, and the window set up
under CONT begins at the same SAMPLE; its complete results are counted with 0x0902; an abort, by EIS_CTRL.ABORT or another
cause, removes it in both lanes with its cause and 0x0903; START in the wrong state is refused with 0x01 (R168, R181, R182,
R189, R190). -/
def Obligations.ImpedanceWindow : Prop :=
  ∀ s : State, s.pwr.on = true →
    (∀ r : Req, s.deadLane r = false → s.isAuth r.lane = true →
      (s.eisStateBad r.lane = false → s.eisPlanBad r.lane = false → s.eisNow.phase = 0 →
        ∃ t, exec (.eisStart r) s = .next t ∧ t.answer = (0, 0) ∧ (∀ l, (t.eis.get l).phase = 1 ∧
          (t.eis.get l).cur.number = s.eisNow.cur.number + 1) ∧ t.mons = s.mons) ∧
      (s.eisStateBad r.lane = false → s.eisPlanBad r.lane = false → s.eisNow.phase = 2 →
        ∃ t, exec (.eisStart r) s = .next t ∧ t.answer = (0, 0) ∧ (∀ l, (t.eis.get l).restart = true ∧
          t.get l F.EIS_STAT_PLAN_PEND = 1)) ∧
      (s.eisStateBad r.lane = true → ∃ t, exec (.eisStart r) s = .next t ∧ t.answer = (0x01, 0) ∧
        OnlyRegs (laneReg r.lane ⟨Pg.EIS, 0x020, 31, 0⟩) s t)) ∧
    (s.eisNow.phase = 1 →
      (∀ x, s.sampledAt = some x → s.eisNow.notBefore ≤ x → ∃ t, exec .eisWindowStart s = .next t ∧ (∀ l, (t.eis.get l).phase = 2 ∧
        (t.eis.get l).cur.startEp = s.sampleEpoch ∧ (t.eis.get l).cur.startT = x ∧ (t.eis.get l).cur.accepted = [] ∧
        t.get l F.EIS_STAT_WINDOW = 1 ∧ Latched t l 0x0901)) ∧
      (∀ x, s.sampledAt = some x → x < s.eisNow.notBefore → ∃ t, exec .eisWindowStart s = .next t ∧ OnlyRegs noRegs s t)) ∧
    (s.eisNow.phase = 2 → s.eisNow.cur.nep ≤ s.eisNow.cur.idx →
      (s.eisNow.next = none → s.eisNow.restart = false → ∃ t, exec .eisWindowEnd s = .next t ∧
        (∀ l, (t.eis.get l).phase = 0 ∧ (t.eis.get l).out = some (s.eis.get l).cur ∧ (t.eis.get l).reads = [] ∧
          (t.eis.get l).endEp = s.sampleEpoch ∧ t.get l F.EIS_STAT_WINDOW = 0 ∧ t.get l F.EIS_STAT_READOUT = 1)) ∧
      (∀ w, s.eisNow.next = some w → s.throttled = false → ∃ t, exec .eisWindowEnd s = .next t ∧
        (∀ l, (t.eis.get l).phase = 2 ∧ (t.eis.get l).cur.number = w.number ∧ (t.eis.get l).cur.startEp = s.sampleEpoch ∧
          (t.eis.get l).out = some (s.eis.get l).cur ∧ t.get l F.EIS_STAT_WINDOW = 1 ∧ t.get l F.EIS_STAT_READOUT = 1))) ∧
    (s.eisNow.phase = 2 → s.eisNow.cur.idx < s.eisNow.cur.nep → ∃ t, exec .eisWindowEnd s = .next t ∧ OnlyRegs noRegs s t) ∧
    (∀ w, s.eisNow.out = some w → ∃ t, exec .eisResultsComplete s = .next t ∧
      (∀ l, (t.eis.get l).out = none ∧ t.get l F.EIS_STAT_READOUT = 0 ∧ t.get l F.EIS_LAST_WINDOW = w.number % 2 ^ 32 ∧
        Latched t l 0x0902)) ∧
    (s.eisNow.out = none → ∃ t, exec .eisResultsComplete s = .next t ∧ OnlyRegs noRegs s t) ∧
    (∀ cause, cause < 16 → s.eisNow.phase ≠ 0 → s.eisNow.restart = false → ∃ t, exec (.eisAbort none cause) s = .next t ∧
      (∀ l, (t.eis.get l).phase = 0 ∧ t.get l F.EIS_STAT_WINDOW = 0 ∧ t.get l F.EIS_ABORT_CAUSE = cause ∧
        Latched t l 0x0903) ∧ t.mons = s.mons) ∧
    (∀ r : Req, s.deadLane r = false → s.isAuth r.lane = true → s.eisNow.phase ≠ 0 → s.eisNow.restart = false →
      ∃ t, exec (.eisAbort (some r) 1) s = .next t ∧ t.answer = (0, 0) ∧ (∀ l, (t.eis.get l).phase = 0 ∧
        t.get l F.EIS_STAT_WINDOW = 0 ∧ t.get l F.EIS_ABORT_CAUSE = 1 ∧ Latched t l 0x0903)) ∧
    (∀ cause, s.eisNow.phase = 0 → ∃ t, exec (.eisAbort none cause) s = .next t ∧ OnlyRegs noRegs s t)

/-- An active lane that takes the ready snapshot has processed its epoch; a position at rest whose slope lies within the
limit reaches a rest point, with 0x0A04; a lane that runs nothing keeps its estimates (R193, R201, R204). A relearn of
positions in range is scheduled two epochs ahead in both lanes, a second one is refused with 0x05; EFC_CLR with presence
clears both throughputs with 0x0A0D; each record goes to NV under its next sequence number, the learned record and the
impedance table only where they have changed (R207, R218, R222, R223). -/
def Obligations.EstimatorRuns : Prop :=
  ((∀ (l : Lane) (n : Snap) (s : State), s.pwr.on = true → s.snap = some n →
    (s.active l = true → s.skipRun.get l = false → (s.est.get l).last ≠ some n.epoch →
      ∃ t, exec .estEpochProcessing s = .next t ∧ (t.est.get l).last = some n.epoch ∧
        (t.est.get l).prev = some (n.t, n.q, n.iAvg)) ∧
    (s.active l = false → ∃ t, exec .estEpochProcessing s = .next t ∧ t.est.get l = s.est.get l)) ∧
  (∀ (l : Lane) (p : Nat) (x : EstPos) (time : Nat) (q i : Int) (s : State), s.pwr.on = true → s.active l = true →
    (s.est.get l).prev = some (time, q, i) → (p, x) ∈ (s.est.get l).pos → s.relaxNs l x.prof ≤ x.restNs →
    2 ≤ (x.fines.filter fun z => decide ((s.est.get l).upAt ≤ z.1 + min 600000000000 (s.relaxNs l x.prof))).length →
    |slopeOf (x.fines.filter fun z => decide ((s.est.get l).upAt ≤ z.1 + min 600000000000 (s.relaxNs l x.prof)))| <
      s.slopeLim l x.prof →
    ∃ t, exec .restEvaluation s = .next t ∧ Latched t l 0x0A04)) ∧
  (∀ s : State, s.pwr.on = true →
    (∀ (r : Req) (v : Word), s.deadLane r = false → s.isAuth r.lane = true →
      ((s.est.get r.lane).relearn = [] → 1 ≤ getBits v 8 0 → getBits v 8 0 + getBits v 24 16 ≤ 480 →
        ∃ t, exec (.estRelearn r v) s = .next t ∧ t.answer = (0, 0) ∧
          (t.est.get r.lane).relearn = [(getBits v 8 0, getBits v 24 16 + 1, s.snapEpoch + 2)] ∧
          ∀ l, t.get l F.EST_STAT_RELEARN_PEND = 1 ∧ t.get l F.EST_RELEARN_EP_EPOCH = (s.snapEpoch + 2) % 2 ^ 32) ∧
      ((s.est.get r.lane).relearn ≠ [] → ∃ t, exec (.estRelearn r v) s = .next t ∧ t.answer = (0x05, 0) ∧ t.est = s.est)) ∧
    (∀ r : Req, s.deadLane r = false → s.noPresence r = false → ∃ t, exec (.estEfcClr r) s = .next t ∧ t.answer = (0, 0) ∧
      ∀ l, (t.est.get l).recv = 0 ∧ (t.est.get l).deliv = 0 ∧ t.get l F.EST_EFC_EFC = 0 ∧ Latched t l 0x0A0D) ∧
    (∀ l, s.auth = some l → (s.est.get l).last.isSome = true → s.nv.gone = false →
      (∃ t, exec .stateRecordWrite s = .next t ∧ ∃ u ∈ t.nv.busy.toList ++ t.nv.queue,
        u.seq = ((s.estUnit 0).map NvUnit.seq).getD 0 + 1 ∧ u.body = .est 0 (s.estHeader l) (s.estRowsNow l 0)) ∧
      ((s.est.get l).dirtyL = true ∨ s.estChanged l 1 = true → ∃ t, exec .learnedRecordWrite s = .next t ∧ (∀ k, (t.est.get k).dirtyL = false) ∧
        ∃ u ∈ t.nv.busy.toList ++ t.nv.queue, u.seq = ((s.estUnit 1).map NvUnit.seq).getD 0 + 1 ∧
          u.body = .est 1 (s.estHeader l) (s.estRowsNow l 1)) ∧
      ((s.est.get l).dirtyL = false → s.estChanged l 1 = false → ∃ t, exec .learnedRecordWrite s = .next t ∧
        OnlyRegs noRegs s t) ∧
      ((s.est.get l).dirtyT = false → s.estChanged l 2 = false → ∃ t, exec .impedanceTableWrite s = .next t ∧
        OnlyRegs noRegs s t) ∧
      ((s.est.get l).dirtyT = true ∨ s.estChanged l 2 = true → ∃ t, exec .impedanceTableWrite s = .next t ∧ (∀ k, (t.est.get k).dirtyT = false) ∧
        ∃ u ∈ t.nv.busy.toList ++ t.nv.queue, u.seq = ((s.estUnit 2).map NvUnit.seq).getD 0 + 1 ∧
          u.body = .est 2 (s.estHeader l) (s.estRowsNow l 2))))

/-! ### Protection and safety -/

/-- The Squall path: a crossing of an armed comparator latches its polarity, captures the time, trips both pairs and raises
0x0C01; the latch clears for the authority lane once its comparator has released; the DACs follow the thresholds, which rise
only when they have settled; a test latches and measures, and is refused in motion (R252 to R258). -/
def Obligations.SquallPath : Prop :=
  (∀ (neg : Bool) (time : Nat) (s : State), s.pwr.on = true →
    (s.g F.PROT_SQ_STAT_LOADED = 1 → s.prot.exhausted = false → s.mode ≠ St.LULL → s.g F.CLK_STAT_PLL_LOCK = 1 →
      time < 2 ^ 64 → ∃ t, exec (.squallTrip neg time) s = .next t ∧ t.g (latchFld (b2n neg)) = 1 ∧ t.g (cmpFld (b2n neg)) = 1 ∧
        t.g F.PROT_STAT_SQUALL = 1 ∧ t.get64 .a F.PROT_SQ_T_T_LO = time ∧ t.prot.cmd = 2 ∧
        (s.prot.cmd ≠ 2 → t.g F.PROT_SQ_STAT_RB_A = 1 ∧ t.g F.PROT_SQ_STAT_RB_B = 1) ∧ ∀ l, Latched t l 0x0C01) ∧
    (s.g F.PROT_SQ_STAT_LOADED = 0 → ∃ t, exec (.squallTrip neg time) s = .next t ∧ OnlyRegs noRegs s t) ∧
    (∃ t, exec (.squallCmpRelease neg) s = .next t ∧ t.g (cmpFld (b2n neg)) = 0 ∧ t.g (latchFld (b2n neg)) = s.g (latchFld (b2n neg)) ∧
      OnlyRegs (fieldReg (cmpFld 0)) s t) ∧
    (s.g F.PROT_SQ_STAT_LOADED = 1 → ∃ t, exec .squallDacUpdate s = .next t ∧ OnlyRegs noRegs { s with prot := { s.prot with
      dac := (s.dacOf s.prot.thr.1, s.dacOf s.prot.thr.2) } } t) ∧
    (s.prot.settling = true → ∃ t, exec .squallDacSettled s = .next t ∧ t.prot.settling = false ∧
      t.prot.thr = (s.g F.PROT_SQ_THR_POS, s.g F.PROT_SQ_THR_NEG) ∧ OnlyRegs noRegs { s with prot := t.prot } t) ∧
    (∀ pol ns, s.prot.testing = some pol → ns < 1024 → ∃ t, exec (.squallTestDone ns) s = .next t ∧ t.prot.testing = none ∧
      t.g F.PROT_SQ_TEST_DONE = 1 ∧ t.g F.PROT_SQ_TEST_LAT_NS = ns / 4 * 4 ∧ (∀ l, Latched t l 0x0C0B) ∧
      (180 < ns / 4 * 4 → t.g F.PROT_STAT_RB_FAULT = 1 ∧ ∀ l, Latched t l 0x0C08))) ∧
  (∀ (r : Req) (v : Word) (s : State), s.hears1 r → s.isAuth r.lane = true →
    (s.g (cmpFld 0) = 0 → s.g (cmpFld 1) = 0 → s.g (latchFld 0) = 1 → ∃ t, exec (.squallLatchClear r true true) s = .next t ∧
      t.answer = (0, 0) ∧ t.g (latchFld 0) = 0 ∧ t.g (latchFld 1) = 0 ∧ t.g F.PROT_STAT_SQUALL = 0 ∧
        ∀ l, Latched t l 0x0C02) ∧
    (s.g (cmpFld 0) = 1 → ∃ t, exec (.squallLatchClear r true false) s = .next t ∧ t.answer = (0x01, 0) ∧
      t.g (latchFld 0) = s.g (latchFld 0)) ∧
    ((∀ c ∈ regChecks s r false Pg.PROT 0x044 v, c.2 = false) → ∃ t, exec (.squallThrWrite r v) s = .next t ∧ t.answer = (0, 0) ∧
      t.g F.PROT_SQ_THR_POS = getBits v F.PROT_SQ_THR_POS.hi F.PROT_SQ_THR_POS.lo ∧
      t.g F.PROT_SQ_THR_NEG = getBits v F.PROT_SQ_THR_NEG.hi F.PROT_SQ_THR_NEG.lo ∧ t.prot.settling = true ∧
      t.prot.thr = (min s.prot.thr.1 (t.g F.PROT_SQ_THR_POS), min s.prot.thr.2 (t.g F.PROT_SQ_THR_NEG))) ∧
    (∀ neg, s.inMotion = false → ∃ t, exec (.squallTest r neg) s = .next t ∧ t.answer = (0, 0) ∧
      t.prot.testing = some (b2n neg) ∧ t.g (latchFld (b2n neg)) = 1 ∧ t.g F.PROT_SQ_TEST_DONE = 0) ∧
    (∀ neg, s.inMotion = true → ∃ t, exec (.squallTest r neg) s = .next t ∧ t.answer = (0x01, 0) ∧
      OnlyRegs (laneReg r.lane ⟨Pg.PROT, 0x020, 31, 0⟩) s t))

/-- Limits and trips: the words of a limit block and PROT_CCELL take effect where their rules hold, and a TRIP threshold on
the wrong side of its WARN is refused with 0x04; CLR_TRIP clears exactly the trips back inside, with 0x0C07; lasting
implausibility and a bad read-back latch a trip with 0x0C06; a monitor without temperatures is told once (R247 to R251,
R259). -/
def Obligations.LimitsAndTrips : Prop :=
  (∀ (r : Req) (k : Nat) (v : Word) (s : State), s.hears1 r → s.isAuth r.lane = true → s.holds r Pg.PROT = true →
    s.mode = St.CONFIG → k ≤ 10 →
    (s.limitBad k 0 v = false → (∀ c ∈ regChecks s r false Pg.PROT (0x080 + 0x10 * k) v, c.2 = false) →
      ∃ t, exec (.protLimitWrite r k 0 v) s = .next t ∧ t.answer = (0, 0) ∧ t.g (F.PROT_Lk_THR_WARN k) = getBits v 31 16 ∧
        t.g (F.PROT_Lk_THR_TRIP k) = getBits v 15 0 ∧ SameMemory s t) ∧
    (thrBad k v = true → ∃ t, exec (.protLimitWrite r k 0 v) s = .next t ∧ t.answer = (0x04, 0) ∧
      OnlyRegs (laneReg r.lane ⟨Pg.PROT, 0x020, 31, 0⟩) s t) ∧
    (s.g (F.PROT_Lk_THR_TRIP 0) ≤ 20 * getBits v 27 16 → 20 * getBits v 11 0 ≤ s.g (F.PROT_Lk_THR_TRIP 1) →
      (∀ c ∈ regChecks s r false Pg.PROT 0x040 v, c.2 = false) → ∃ t, exec (.protCcellWrite r v) s = .next t ∧
        t.answer = (0, 0) ∧ t.g F.PROT_CCELL_VHI = getBits v 27 16 ∧ t.g F.PROT_CCELL_VLO = getBits v 11 0 ∧
        OnlyRegs (fieldReg F.PROT_CCELL_VHI) { s with lockT := t.lockT } t)) ∧
  (∀ (r : Req) (s : State), s.hears1 r → s.isAuth r.lane = true → ∃ t, exec (.clrTrip r) s = .next t ∧ t.answer = (0, 0) ∧
    (∀ k c, (t.prot.chan k c).tripped = ((s.prot.chan k c).tripped && !(s.prot.chan k c).inside)) ∧
    ∀ l, Latched t l 0x0C07) ∧
  (∀ s : State, s.pwr.on = true →
    (s.g F.MEAS_STAT_PLAUS_FAIL = 1 → s.g F.PROT_PLAUS_T_S ≠ 0 → s.g F.PROT_TRIP_PLAUS = 0 → ∃ t, exec .plausTripTimeout s = .next t ∧
      t.g F.PROT_TRIP_PLAUS = 1 ∧ s.RunsTo t (s.prot.plausAt.getD s.up + 1000000000 * s.g F.PROT_PLAUS_T_S) ∧ ∀ l, Latched t l 0x0C06) ∧
    (s.g F.MEAS_STAT_PLAUS_FAIL = 0 → ∃ t, exec .plausTripTimeout s = .next t ∧ OnlyRegs noRegs s t) ∧
    (∀ pairB trip, s.g F.PROT_TRIP_RB = 0 → ∃ t, exec (.tripReadbackFault pairB trip) s = .next t ∧ t.g F.PROT_STAT_RB_FAULT = 1 ∧
      t.g F.PROT_TRIP_RB = 1 ∧ t.g F.PROT_STAT_TRIP_LATCHED = 1 ∧ ∀ l, Latched t l 0x0C08 ∧ Latched t l 0x0C06) ∧
    (∀ k, (∀ x, s.blindAt k = some x → k ∉ s.prot.blind → ∃ t, exec (.ntcBlindTimeout k) s = .next t ∧ k ∈ t.prot.blind ∧
        s.RunsTo t x ∧ ∀ l, Latched t l 0x0C09) ∧
      (s.blindAt k = none ∨ k ∈ s.prot.blind → ∃ t, exec (.ntcBlindTimeout k) s = .next t ∧ OnlyRegs noRegs s t)))

/-- A failed self-test, a missed tick, a missed cycle and a supply fault latch the lock-out with their cause, switch every
output off and raise 0x0D03; a passed test only marks SAFE_STEST (R263, R267, R269, R274). A press of 200 ms to 5 s with
every cause cleared starts a full test run, a shorter one is told with 0x0D05; the passed run after a valid press clears
the lock-out with 0x0D04, a failed one latches it; CLR_SF clears SF3 once every position has been IN for two epochs
(R269, R275, R279). -/
def Obligations.LockoutAndItsReset : Prop :=
  (∀ s : State, s.pwr.on = true →
    (s.g F.SAFE_LOCKOUT_LATCHED = 0 →
      (∀ x ∈ ([(.ramMarchDone false, 2, 0x02), (.romCrcCheck false, 3, 0x03), (.safetyWatchdogExpire, 4, 0x04),
        (.safetySupplyFault, 5, 0x05), (.testPulse true false true, 7, 0x0C)] : List (Instr × Nat × Nat)),
        ∃ t, exec x.1 s = .next t ∧ t.g F.SAFE_LOCKOUT_LATCHED = 1 ∧ t.g F.SAFE_LOCKOUT_CAUSE = x.2.2 ∧
          t.g F.SAFE_STATE_OUT_CMD = 0 ∧ bitAt (t.g F.SAFE_STEST_PASS) x.2.1 = false ∧
          ∀ l, Latched t l 0x0D03) ∧
      (s.lane.stopLine = false → s.mode ≠ St.SHUTDOWN → ∃ t, exec .tickWatchdogExpire s = .next t ∧
        t.g F.SAFE_LOCKOUT_LATCHED = 1 ∧ t.g F.SAFE_LOCKOUT_CAUSE = 0x0E ∧ t.g F.SAFE_STATE_OUT_CMD = 0 ∧ t.safe.tickRun = 0 ∧
        s.RunsTo t (s.safe.tickAt + (if s.mode = St.LULL then 1000000000 else s.periodReg * 11 / 5 + 3000000))) ∧
      (∀ n low, n < 4 → s.outOn (n + 1) = true → ∃ t, exec (.darkTest n low false) s = .next t ∧
        t.g F.SAFE_LOCKOUT_LATCHED = 1 ∧ t.g F.SAFE_LOCKOUT_CAUSE = 0x09 ∧ t.g F.SAFE_STATE_OUT_CMD = 0 ∧
        ∀ l, Latched t l 0x0D07 ∧ Latched t l 0x0D03)) ∧
    (s.lane.stopLine = true ∨ s.mode = St.SHUTDOWN → ∃ t, exec .tickWatchdogExpire s = .next t ∧ OnlyRegs noRegs s t) ∧
    (∃ t, exec (.ramMarchDone true) s = .next t ∧ bitAt (t.g F.SAFE_STEST_PASS) 2 = true ∧ OnlyRegs (fieldReg F.SAFE_STEST_PASS) s t) ∧
    (∃ t, exec (.romCrcCheck true) s = .next t ∧ bitAt (t.g F.SAFE_STEST_PASS) 3 = true ∧ OnlyRegs (fieldReg F.SAFE_STEST_PASS) s t) ∧
    (∀ tp2, ∃ t, exec (.testPulse tp2 true true) s = .next t ∧ bitAt (t.g F.SAFE_STEST_PASS) 7 = true ∧
      OnlyRegs (fieldReg F.SAFE_STEST_PASS) { s with safe := { s.safe with srcBad := t.safe.srcBad } } t) ∧
    (∀ n low, n < 4 → ∃ t, exec (.darkTest n low true) s = .next t ∧ OnlyRegs noRegs s t)) ∧
  ((∀ (ms : Nat) (s : State), s.pwr.on = true → s.safe.resetTold = false →
    (200 ≤ ms → ms ≤ 5000 → s.bo = false → s.causeCleared = true → s.demanded = false → ∃ t, exec (.resetInRelease ms) s = .next t ∧
      t.g F.SAFE_STAT_STEST_RUN = 1 ∧ t.safe = { s.safe with press := true } ∧
      OnlyRegs (fieldReg F.SAFE_STAT_STEST_RUN) { s with safe := t.safe } t) ∧
    (ms < 200 → ∃ t, exec (.resetInRelease ms) s = .next t ∧ (∀ l, Latched t l 0x0D05) ∧ OnlyEvents noRegs s t)) ∧
  (∀ s : State, s.pwr.on = true → s.gb F.SAFE_STAT_STEST_RUN = true →
    (s.safe.press = true → s.causeCleared = true → s.bo = false → ∃ t, exec (.selfTestRunDone 255) s = .next t ∧
      t.g F.SAFE_LOCKOUT_LATCHED = 0 ∧ t.g F.SAFE_LOCKOUT_CAUSE = (if s.g F.SAFE_LOCKOUT_LATCHED = 1 then 0
        else s.g F.SAFE_LOCKOUT_CAUSE) ∧ t.g F.SAFE_STEST_PASS = 255 ∧ t.g F.SAFE_STAT_STEST_RUN = 0 ∧
      t.g F.SAFE_IN_FAULT = 0 ∧ t.safe.press = false ∧ t.safe.tested = true ∧ ∀ l, Latched t l 0x0D04) ∧
    (s.g F.SAFE_LOCKOUT_LATCHED = 0 → ∃ t, exec (.selfTestRunDone 0xFB) s = .next t ∧ t.g F.SAFE_LOCKOUT_LATCHED = 1 ∧
      t.g F.SAFE_LOCKOUT_CAUSE = 0x02 ∧ t.g F.SAFE_STATE_OUT_CMD = 0)) ∧
  (∀ (mask : Nat) (s : State), s.pwr.on = true → s.gb F.SAFE_STAT_STEST_RUN = false →
    ∃ t, exec (.selfTestRunDone mask) s = .next t ∧ OnlyRegs noRegs s t) ∧
  (∀ (r : Req) (s : State), s.hears1 r → s.isAuth r.lane = true →
    (2 ≤ s.safe.allIn → ∃ t, exec (.clrSf r) s = .next t ∧ t.answer = (0, 0) ∧ bitAt (t.g F.SAFE_STATE_SF) 2 = false ∧
      (bitAt (s.g F.SAFE_STATE_SF) 2 = true → ∀ l, Latched t l 0x0D02)) ∧
    (s.safe.allIn < 2 → ∃ t, exec (.clrSf r) s = .next t ∧ t.answer = (0x01, 0) ∧ t.g F.SAFE_STATE_SF = s.g F.SAFE_STATE_SF)))

/-- Inputs, verdicts and demands: a sample shows SAFE_IN and moves each input's filter by its rule; a verdict set of the
awaited epoch with every position IN counts towards arming, a bad or a missing one counts every position INVALID; in the next
cycle an input off demands SF1, which switches the outputs off with 0x0D01 (R264, R265, R269 to R271). -/
def Obligations.SafetyDemands : Prop :=
  ∀ s : State, s.pwr.on = true →
    (∀ raw reset pulse, raw < 256 → pulse < 3 → ∃ t, exec (.safetyInputSample raw reset pulse) s = .next t ∧ t.g F.SAFE_IN_RAW = raw ∧
      ∀ j, j < 8 → s.safe.settled.length = 8 → bitAt (t.g F.SAFE_IN_FILT) j = (t.safe.settled.getD j 0 == 1) ∧
        t.safe.settled.getD j 0 = (filterStep (s.safe.settled.getD j 0) (s.safe.runs.getD j none) (bitAt raw j)
          (s.tested (j + 1) && pulse == sourceOf (j + 1))).1) ∧
    (∀ e x rest, s.safe.awaiting = (e, x) :: rest → s.safe.monCount = s.monCount → s.monCount ≠ 0 → s.monCount ≤ 40 →
      (s.chain.verdicts = some (e % 2 ^ 16, List.replicate (12 * s.monCount) 0) →
        (∃ t, exec (.verdictSetRx true) s = .next t ∧ t.safe.awaiting = rest ∧
          t.safe.allIn = min 2 (s.safe.allIn + 1) ∧ t.g F.SAFE_STAT_SF3_ARMED = 1 ∧
          t.safe.verdicts = List.replicate (12 * s.monCount) 0 ∧
          OnlyRegs (fieldReg F.SAFE_STAT_SF3_ARMED) { s with safe := t.safe, chain := { s.chain with verdicts := none } } t) ∧
        (∃ t, exec (.verdictSetRx false) s = .next t ∧ t.safe.awaiting = rest ∧ t.safe.allIn = 0 ∧
          t.safe.verdicts = List.replicate (12 * s.monCount) 3 ∧
          OnlyRegs noRegs { s with safe := t.safe, chain := { s.chain with verdicts := none } } t)) ∧
      (∃ t, exec .verdictTimeout s = .next t ∧ t.safe.awaiting = rest ∧ t.safe.allIn = 0 ∧ s.RunsTo t (x + 2500000) ∧
        t.safe.verdicts = List.replicate (12 * s.monCount) 3 ∧
        OnlyRegs noRegs (({ s with safe := t.safe } : State).later t) t)) ∧
    (s.safe.awaiting = [] → (∀ ok, ∃ t, exec (.verdictSetRx ok) s = .next t ∧ OnlyRegs noRegs s t) ∧
      ∃ t, exec .verdictTimeout s = .next t ∧ OnlyRegs noRegs s t) ∧
    (∀ rb, rb < 16 → (s.safe.settled.getD 0 0 = 2 → bitAt (s.g F.SAFE_STATE_SF) 0 = false →
      ∃ t, exec (.safetyCycle rb 0 true true) s = .next t ∧ bitAt (t.g F.SAFE_STATE_SF) 0 = true ∧
        t.g F.SAFE_STATE_OUT_CMD = 0 ∧ t.g F.SAFE_STATE_OUT_RB = rb ∧ t.g F.SAFE_STAT_RUNNING = 1 ∧
        ∀ l, Latched t l 0x0D01) ∧
      (s.g F.SAFE_LOCKOUT_LATCHED = 0 → ∃ t, exec (.safetyCycle rb 0 false true) s = .next t ∧ t.g F.SAFE_LOCKOUT_LATCHED = 1 ∧
        t.g F.SAFE_LOCKOUT_CAUSE = 0x01))

/-- The contactor sequences: the steps switch SO3, SO1 and SO3 in turn, each after its time; a step under a condition that
holds the outputs off switches all four off, and one without the permissive or the full bank aborts to OPEN with 0x0D09; a
precharge that does not end and a contact that does not follow abort to OPEN with 0x0D09; a contact that does not open is
welded and locks out with 0x0D08; the forced opening opens SO1 with 0x0D09 (R268, R276, R277). -/
def Obligations.ContactorSequences : Prop :=
  ∀ s : State, s.pwr.on = true →
    (s.notOpened = false →
      (s.g F.SAFE_STATE_SEQ = 1 → s.offCond = false → s.safe.main = true → s.bankReady = true →
        s.fbUsed 3 = false ∨ s.fbClosed 3 = true → ∃ t, exec .closingStep s = .next t ∧ t.g F.SAFE_STATE_SEQ = 2 ∧
          t.outOn 3 = true ∧ (∀ l, Latched t l 0x0D0B) ∧ t.outOn 1 = s.outOn 1 ∧ t.outOn 2 = s.outOn 2 ∧
          s.RunsTo t (s.safe.seqAt + 10000000 * s.g F.SAFE_SEQ_CLOSE)) ∧
      (s.g F.SAFE_STATE_SEQ = 1 → s.offCond = true → ∃ t, exec .closingStep s = .next t ∧ t.g F.SAFE_STATE_OUT_CMD = 0 ∧
        t.g F.SAFE_STATE_SEQ = 0) ∧
      (s.g F.SAFE_STATE_SEQ = 1 → s.offCond = false → s.safe.main = false ∨ s.bankReady = false →
        ∃ t, exec .closingStep s = .next t ∧ t.g F.SAFE_STATE_SEQ = 0 ∧ t.outOn 1 = false ∧ t.outOn 2 = false ∧
          t.outOn 3 = false ∧ ∀ l, Latched t l 0x0D09) ∧
      (s.g F.SAFE_STATE_SEQ = 3 → ∃ t, exec .closingStep s = .next t ∧ t.g F.SAFE_STATE_SEQ = 4 ∧ t.outOn 3 = false ∧
        t.outOn 1 = s.outOn 1 ∧ s.RunsTo t (s.safe.seqAt + 10000000 * s.g F.SAFE_SEQ_CLOSE) ∧
        OnlyEvents (fieldReg F.SAFE_STATE_SEQ) (({ s with safe := t.safe } : State).later t) t) ∧
      (∀ x, s.g F.SAFE_STATE_SEQ = 2 → s.currentBelow (s.g F.SAFE_PRE_I_END) = true → s.preDue = some x →
        max s.up x ≤ s.safe.seqAt + 10000000 * s.g F.SAFE_PRE_T_MAX → s.offCond = false → s.safe.main = true →
        s.bankReady = true → s.fbUsed 1 = false ∨ s.fbClosed 1 = true →
        ∃ t, exec .prechargeEnd s = .next t ∧ t.g F.SAFE_STATE_SEQ = 3 ∧ t.outOn 1 = true ∧ s.RunsTo t x ∧
          OnlyEvents (fieldReg F.SAFE_STATE_SEQ) (({ s with safe := t.safe } : State).later t) t)) ∧
    (s.g F.SAFE_STATE_SEQ = 2 → s.currentBelow (s.g F.SAFE_PRE_I_END) = false → ∃ t, exec .prechargeEnd s = .next t ∧
      OnlyRegs noRegs s t) ∧
    (s.g F.SAFE_STATE_SEQ = 2 → ∃ t, exec .prechargeTimeout s = .next t ∧ t.g F.SAFE_STATE_SEQ = 0 ∧ t.outOn 1 = false ∧
      t.outOn 2 = false ∧ t.outOn 3 = false ∧ s.RunsTo t (s.safe.seqAt + 10000000 * s.g F.SAFE_PRE_T_MAX) ∧
      ∀ l, Latched t l 0x0D09) ∧
    (∀ n, n < 3 → s.safe.fbAt.lookup (n + 1) = none → ∃ t, exec (.feedbackTimeout n) s = .next t ∧ OnlyRegs noRegs s t) ∧
    (∀ n x, n < 3 → s.fbUsed (n + 1) = true → s.safe.fbAt.lookup (n + 1) = some x →
      (s.outOn (n + 1) = true → s.fbClosed (n + 1) = true → s.g F.SAFE_STATE_SEQ = 2 →
        ∃ t, exec (.feedbackTimeout n) s = .next t ∧ t.g F.SAFE_STATE_SEQ = 0 ∧
          s.RunsTo t (x + 10000000 * s.g F.SAFE_SEQ_FB) ∧ ∀ l, Latched t l 0x0D09) ∧
      (s.outOn (n + 1) = false → s.fbClosed (n + 1) = false → s.g F.SAFE_LOCKOUT_LATCHED = 0 →
        ∃ t, exec (.feedbackTimeout n) s = .next t ∧ t.g F.SAFE_LOCKOUT_LATCHED = 1 ∧ t.g F.SAFE_LOCKOUT_CAUSE = 0x0D ∧
          t.g F.SAFE_STATE_OUT_CMD = 0 ∧ ∀ l, Latched t l 0x0D08)) ∧
    (s.g F.SAFE_STATE_SEQ = 5 → s.outOn 1 = true → ∃ t, exec .openTimeout s = .next t ∧ t.outOn 1 = false ∧
      s.RunsTo t (s.safe.seqAt + 10000000 * s.g F.SAFE_SEQ_OPEN_TO) ∧ ∀ l, Latched t l 0x0D09)

/-! ### The control engine and the converter link -/

/-- The loops: at an instant of its grid a running loop of an active lane samples; loop 0 sends its reference frame with the
next sequence, another loop moves its rate-limited set-point by the rate limiter; a valid gain table is committed and a bad
one refused with 0x04; CLE_MODE is the management firmware's; CLR_PLAUS clears PLAUS where the residuals allow it; ARM starts
a trace and FORCE asks for its trigger, and ARM is refused with 0x05 while a triggered trace is not done (R281, R284, R286,
R290, R291, R294). -/
def Obligations.LoopsAndTraces : Prop :=
  (∀ (k tm : Nat) (l : Lane) (s : State), s.pwr.on = true → k < 8 →
    (s.mode ≠ St.LULL → s.active l = true → s.loopOn l k = true →
      s.onGrid tm (tsNs (s.get l (F.CLE_Lk_CFG_RATE k))) = true → ∃ t, exec (.loopSample k tm) s = .next t ∧ s.Fires t tm ∧ SameMemory s t ∧
        (k = 0 → s.gb F.CLINK_CTRL_ENABLE = true → t.link.awaiting = true ∧ t.link.seq = (s.link.seq + 1) % 2 ^ 16) ∧
        (k ≠ 0 → t.rd l Pg.CLE (loopOff k 0x18) = BitVec.ofNat 32 (f32Of (r32 (rateStep
          (r32 (s.cv l k 0x28 * tsOf (s.get l (F.CLE_Lk_CFG_RATE k)))) (r32 (s.cv l k 0x2C * tsOf (s.get l (F.CLE_Lk_CFG_RATE k))))
          (s.cv l k 0x18) (r32 (s.cv l k 0x14))))))) ∧
    (s.mode = St.LULL → k ≠ 0 → ∃ t, exec (.loopSample k tm) s = .next t ∧ OnlyRegs noRegs s t)) ∧
  (∀ (r : Req) (v : Word) (s : State), s.hears1 r →
    (gtBad (gtOf (s.loop r.lane (getBits v 26 24)).shadow) = false → ∃ t, exec (.gainTableCommit r v) s = .next t ∧
      t.answer = (0, 0) ∧ (t.loop r.lane (getBits v 26 24)).commit = some (gtOf (s.loop r.lane (getBits v 26 24)).shadow) ∧
      t.get r.lane F.CLE_GT_SEL_LOOP = getBits v 26 24 ∧ t.get r.lane F.CLE_GT_SEL_IDX = getBits v 5 0 ∧
      OnlyRegs (laneReg r.lane F.CLE_GT_SEL_LOOP) { s with cle := t.cle } t) ∧
    (gtBad (gtOf (s.loop r.lane (getBits v 26 24)).shadow) = true → ∃ t, exec (.gainTableCommit r v) s = .next t ∧
      t.answer = (0x04, 0) ∧ OnlyRegs (laneReg r.lane ⟨Pg.CLE, 0x020, 31, 0⟩) s t) ∧
    (r.path = .mgmt → ∃ t, exec (.cleModeWrite r v) s = .next t ∧ t.answer = (0, 0) ∧ t.get r.lane F.CLE_MODE_POWER = getBits v 0 0 ∧
      (getBits v 0 0 ≠ s.get r.lane F.CLE_MODE_POWER → Latched t r.lane 0x0E06) ∧
      OnlyEvents (laneReg r.lane F.CLE_MODE_POWER) s t) ∧
    (r.path ≠ .mgmt → getBits v 0 0 ≠ s.get r.lane F.CLE_MODE_POWER → ∃ t, exec (.cleModeWrite r v) s = .next t ∧
      t.answer = (0x02, 0) ∧ OnlyRegs (laneReg r.lane ⟨Pg.CLE, 0x020, 31, 0⟩) s t)) ∧
  (∀ (r : Req) (k : Nat) (s : State), s.hears1 r → s.isAuth r.lane = true → k < 8 →
    (s.plausHeld r.lane k = false → ∃ t, exec (.clrPlaus r k) s = .next t ∧ t.answer = (0, 0) ∧
      t.get r.lane (F.CLE_Lk_STAT_PLAUS k) = 0 ∧
      (∀ l, s.get l (F.CLE_Lk_STAT_PLAUS k) = 1 → s.plausHeld l k = false → t.get l (F.CLE_Lk_STAT_PLAUS k) = 0 ∧
        Latched t l 0x0E02) ∧
      OnlyEvents (Regs.or (fieldReg (F.CLE_Lk_STAT_PLAUS k)) (laneReg r.lane (F.CLE_Lk_CTRL_FULL k))) s t) ∧
    (s.plausHeld r.lane k = true → ∃ t, exec (.clrPlaus r k) s = .next t ∧ t.answer = (0x01, 0) ∧
      OnlyRegs (laneReg r.lane ⟨Pg.CLE, 0x020, 31, 0⟩) s t)) ∧
  (∀ (r : Req) (k : Nat) (v : Word) (s : State), s.hears1 r → k < 8 →
    ((∀ c ∈ regChecks s r false Pg.CLE (loopOff k 0x50) (setBits v 31 31 1), c.2 = false) →
      (s.get r.lane (F.CLE_Lk_TRC_STAT_TRIGGERED k) = 0 → ∃ t, exec (.traceArm r k v) s = .next t ∧ t.answer = (0, 0) ∧
        (t.loop r.lane k).trace = { Trace.zero with on := true, force := getBits v 30 30 == 1 } ∧
        t.get r.lane (F.CLE_Lk_TRC_STAT_TRIGGERED k) = 0 ∧ t.get r.lane (F.CLE_Lk_TRC_STAT_DONE k) = 0) ∧
      (s.get r.lane (F.CLE_Lk_TRC_STAT_TRIGGERED k) = 1 → s.get r.lane (F.CLE_Lk_TRC_STAT_DONE k) = 0 →
        ∃ t, exec (.traceArm r k v) s = .next t ∧ t.answer = (0x05, 0) ∧
          OnlyRegs (laneReg r.lane ⟨Pg.CLE, 0x020, 31, 0⟩) s t)) ∧
    ((∀ c ∈ regChecks s r false Pg.CLE (loopOff k 0x50) (setBits v 31 30 1), c.2 = false) → getBits v 31 31 = 0 →
      (s.loop r.lane k).trace.on = true → (s.loop r.lane k).trace.left = none → ∃ t, exec (.traceForce r k v) s = .next t ∧
        t.answer = (0, 0) ∧ (t.loop r.lane k).trace = { (s.loop r.lane k).trace with force := true }))

/-- The converter link: the awaited return frame, valid and complete by t_k + 30 µs, gives the feedback and shows what it
carries; a bad frame, a late one and a missing one are counted and leave the sample without feedback; after LOSS_N such
samples the link is lost, with 0x0F01, and after REGAIN_N valid frames it is regained, with 0x0F02; a frame that nobody
awaits changes nothing; a converter that does not start within 100 ms of RUN is at fault (R297 to R300). -/
def Obligations.ConverterLink : Prop :=
  ∀ s : State, s.pwr.on = true →
    (∀ b : List Nat, s.link.awaiting = true → (∀ x ∈ b, x < 256) → s.up ≤ s.link.sentAt + 30000 →
      (b.length = 23 → leAt b 0 1 = 0x4D → crc32c (b.take 19) = leAt b 19 4 → leAt b 1 2 = s.link.seq →
        ∃ t, exec (.converterReturnFrame b) s = .next t ∧
          t.link.fb = some (toSigned 32 (leAt b 5 4)) ∧ t.link.awaiting = false ∧ t.link.loss = 0 ∧
          t.g F.CLINK_STAT_RX_OK = 1 ∧ t.g F.CLINK_MEAS_I_MEAS = leAt b 5 4 ∧ t.g F.CLINK_CONV_V_LINK = leAt b 9 2 ∧
          t.g F.CLINK_AVAIL_CHG = leAt b 13 2 ∧ t.g F.CLINK_AVAIL_DIS = leAt b 15 2 ∧ t.g F.CLINK_CONV_T_CONV = leAt b 17 1 ∧
          t.g F.CLINK_RXSTAT_STATUS = leAt b 3 2 ∧ t.g F.CLINK_CONV_FAULT = leAt b 18 1 ∧
          (bitAt (leAt b 3 2) 4 = true → t.g F.CLINK_STAT_CONV_FAULT = 1) ∧
          (s.g F.CLINK_STAT_LOST = 1 → s.g F.CLINK_CFG_REGAIN_N ≤ s.link.regain + 1 → t.g F.CLINK_STAT_LOST = 0 ∧
            ∀ l, Latched t l 0x0F02) ∧
          OnlyEvents (fun _ p _ => p == Pg.CLINK) { s with link := t.link, cle := t.cle } t) ∧
      (b.length ≠ 23 ∨ leAt b 0 1 ≠ 0x4D ∨ crc32c (b.take 19) ≠ leAt b 19 4 ∨ leAt b 1 2 ≠ s.link.seq →
        ∃ t, exec (.converterReturnFrame b) s = .next t ∧ t.link.fb = none ∧
          t.link.awaiting = false ∧ t.g F.CLINK_ERR_CRC = satInc 0xFFFF (s.g F.CLINK_ERR_CRC) ∧ t.g F.CLINK_STAT_RX_OK = 0 ∧
          t.link.loss = min 255 (s.link.loss + 1))) ∧
    (∀ b, s.link.awaiting = true → s.link.sentAt + 30000 < s.up → ∃ t, exec (.converterReturnFrame b) s = .next t ∧
      t.link.fb = none ∧ t.g F.CLINK_ERR_MISSING = satInc 0xFFFF (s.g F.CLINK_ERR_MISSING) ∧
      t.g F.CLINK_ERR_CRC = s.g F.CLINK_ERR_CRC) ∧
    (∀ b, s.link.awaiting = false → ∃ t, exec (.converterReturnFrame b) s = .next t ∧ OnlyRegs noRegs s t) ∧
    (s.link.awaiting = true → ∃ t, exec .returnFrameTimeout s = .next t ∧ t.link.fb = none ∧ t.link.awaiting = false ∧
      s.RunsTo t (s.link.sentAt + 30000) ∧
      t.g F.CLINK_ERR_MISSING = satInc 0xFFFF (s.g F.CLINK_ERR_MISSING) ∧ t.g F.CLINK_STAT_RX_OK = 0 ∧
      t.link.loss = min 255 (s.link.loss + 1) ∧
      (s.g F.CLINK_STAT_LOST = 0 → s.g F.CLINK_CFG_LOSS_N ≤ s.link.loss + 1 → t.g F.CLINK_STAT_LOST = 1 ∧
        ∀ l, Latched t l 0x0F01)) ∧
    (s.link.awaiting = false → ∃ t, exec .returnFrameTimeout s = .next t ∧ OnlyRegs noRegs s t) ∧
    (∀ x, s.link.runAt = some x → ∃ t, exec .convRunTimeout s = .next t ∧ t.g F.CLINK_STAT_CONV_FAULT = 1 ∧
      s.RunsTo t (x + 100000000) ∧ OnlyRegs (fieldReg F.CLINK_STAT_CONV_FAULT)
        (({ s with link := { s.link with clean := 0 } } : State).later t) t) ∧
    (s.link.runAt = none → ∃ t, exec .convRunTimeout s = .next t ∧ OnlyRegs noRegs s t)

/-! ### Orders -/

/-- Arrival and commit: an order inside the window that is neither committed nor on its way is journaled; one beyond the
window and a stale one are told with 0x1009 and change no order; nothing is taken before the journal has been rebuilt. A
written commit unit commits the order at this instant. The gap: its request is repeated every GAP_MS, and after GAP_TO_S it
is told once with 0x1003. REBASE starts an empty journal at REBASE_SEQ, in CONFIG and with no order in flight (R309 to R312,
R323, R328). -/
def Obligations.OrdersAreCommitted : Prop :=
  (∀ (port : Lane) (q : Nat) (payload src : List Nat) (s : State), s.pwr.on = true → q < 2 ^ 32 →
    (s.orders.running = true → s.bo = false → s.auth.isSome = true →
      (seqDist s.orders.oldest q < 128 → s.orders.has q = false → (∀ c ∈ s.orders.coming, c.seq ≠ q) → s.nv.gone = false →
        ∃ t, exec (.order port q payload src) s = .next t ∧
          t.orders = { s.orders with coming := s.orders.coming ++ [⟨q, s.clock.count, padTo 176 payload⟩] } ∧
          (⟨entryOff q, q, .commit ⟨q, s.clock.count, padTo 176 payload⟩, 0⟩ : NvUnit) ∈ t.nv.busy.toList ++ t.nv.queue ∧
          (t.plink.get port).rx = ((s.plink.get port).rx + 1) % 2 ^ 32 ∧ OnlyEvents noRegs { s with orders := t.orders } t) ∧
      (128 ≤ seqDist s.orders.oldest q → 384 < seqDist q s.orders.oldest → ∃ t, exec (.order port q payload src) s = .next t ∧
        (∀ l, Latched t l 0x1009) ∧ OnlyEvents noRegs s t)) ∧
    (s.orders.running = false → ∃ t, exec (.order port q payload src) s = .next t ∧ OnlyRegs noRegs s t)) ∧
  (∀ (c : JCommit) (rest : List JCommit) (s : State), s.pwr.on = true → s.orders.coming = c :: rest → s.nv.gone = false →
    (s.nvWaits (entryOff c.seq) = false → (s.commitOf c.seq).isSome = true → s.mode = St.OPERATE →
      ∃ t, exec .orderCommitDone s = .next t ∧
        t.orders.flight = s.orders.flight ++ [⟨{ c with tc := s.clock.count }, s.ordSingle, false, false⟩] ∧
        t.orders.coming = s.orders.coming.filter (fun x => x.seq != c.seq) ∧
        t.g F.ORD_CNT_COMMITTED = satInc 0xFFFF (s.g F.ORD_CNT_COMMITTED) ∧ SameMemory s t) ∧
    (s.nvWaits (entryOff c.seq) = true → ∃ t, exec .orderCommitDone s = .next t ∧ OnlyRegs noRegs s t)) ∧
  (∀ (at0 : Nat) (s : State), s.pwr.on = true →
    (s.orders.gapAt = some at0 → at0 ≤ s.up → ∃ t, exec .gapResendRepeat s = .next t ∧ t.orders = s.orders ∧ SameMemory s t ∧
      s.RunsTo t (at0 + ((s.up - at0) / (1000000 * max 1 (s.get s.evrLane F.ORD_CFG_GAP_MS)) + 1) *
        (1000000 * max 1 (s.get s.evrLane F.ORD_CFG_GAP_MS)))) ∧
    (s.orders.gapAt = none → ∃ t, exec .gapResendRepeat s = .next t ∧ OnlyRegs noRegs s t) ∧
    (s.orders.gapAt = some at0 → s.orders.gapTold = false → ∃ t, exec .gapTimeout s = .next t ∧
      t.orders = { s.orders with gapTold := true } ∧
      s.RunsTo t (at0 + 1000000000 * s.get s.evrLane F.ORD_CFG_GAP_TO_S) ∧ SameMemory s t ∧
      ∀ l, Latched t l 0x1003) ∧
    (s.orders.gapTold = true → ∃ t, exec .gapTimeout s = .next t ∧ OnlyRegs noRegs s t)) ∧
  (∀ (r : Req) (s : State), s.hears1 r → s.isAuth r.lane = true →
    (s.nv.gone = false → s.mode = St.CONFIG → s.orders.flight = [] → ∃ t, exec (.rebase r) s = .next t ∧ t.answer = (0, 0) ∧
      t.orders.oldest = s.get r.lane F.ORD_REBASE_SEQ ∧ t.orders.flight = [] ∧ t.orders.lastTd = 0 ∧
      t.orders.rebases = s.orders.rebases + 1 ∧ t.g F.ORD_OLDEST_OLDEST = s.get r.lane F.ORD_REBASE_SEQ ∧
      (∃ u ∈ t.nv.busy.toList ++ t.nv.queue, u.off = 0x401000 ∧ u.body = .wipe 1) ∧
      (∀ l, Latched t l 0x1008) ∧ SameMemory s t) ∧
    (s.nv.gone = false → s.mode ≠ St.CONFIG ∨ s.orders.flight ≠ [] → ∃ t, exec (.rebase r) s = .next t ∧ t.answer = (0x01, 0) ∧
      OnlyRegs (laneReg r.lane ⟨Pg.ORD, 0x020, 31, 0⟩) s t))

/-- Execution and completion: the order next in sequence executes at its execution instant, or at the first instant of the
grid from now; one with a reserved body completes with 0x04, an expired one with 0x08 and 0x1006, a CONTACTOR without WAIT
sets what it asks for; a held one stays. A waiting CONTACTOR completes when its state is reached, or with 0x08; a relearn
once it is written back. A written completion unit completes the order, with 0x1004 where its result is not 0 (R305 to R307,
R313 to R322). -/
def Obligations.OrdersExecute : Prop :=
  (∀ (e : OrderEnt) (l : Lane) (s : State), s.pwr.on = true → s.ordFront = some e → s.auth = some l →
    (s.ordHold e = none → s.ordFree = true → e.unit.toe = false →
      (e.unit.bad = true → ∃ t, exec .orderExecute s = .next t ∧
        s.Fires t (max (s.ordInstant e) (s.gridUp s.clock.count)) ∧ t.orders.lastTd = max (s.ordInstant e) (s.gridUp s.clock.count) ∧
        (t.orders.finishing.map fun d => (d.seq, d.result, d.td)) =
          (s.orders.finishing.map fun d => (d.seq, d.result, d.td)) ++ [(e.unit.seq, 0x04, t.orders.lastTd)] ∧ SameMemory s t) ∧
      (e.unit.bad = false → e.unit.typ = 6 → e.unit.wait = false → e.unit.byte 0 = 1 → e.unit.byte 1 = 0xFF →
        ∃ t, exec .orderExecute s = .next t ∧ t.g F.ORD_CONTACT_MAIN_REQ = 1 ∧
          t.g F.ORD_CONTACT_AUX_REQ = s.g F.ORD_CONTACT_AUX_REQ ∧
          (t.orders.finishing.map fun d => (d.seq, d.result)) =
            (s.orders.finishing.map fun d => (d.seq, d.result)) ++ [(e.unit.seq, 0)] ∧ SameMemory s t)) ∧
    (s.ordHold e = none → s.ordFree = true → e.unit.toe = true → e.unit.expUs ≠ 0 →
      s.gridUp e.unit.tEff + 1000 * (e.unit.expUs + 1) ≤ max (s.ordInstant e) (s.gridUp s.clock.count) →
      e.unit.expUs < 0xFFFFFFFF → ∃ t, exec .orderExecute s = .next t ∧ (∀ k, Latched t k 0x1005 ∧ Latched t k 0x1006) ∧
        (t.orders.finishing.map fun d => (d.seq, d.result)) =
          (s.orders.finishing.map fun d => (d.seq, d.result)) ++ [(e.unit.seq, 0x08)]) ∧
    ((s.ordHold e).isSome = true → ∃ t, exec .orderExecute s = .next t ∧ t.orders.finishing = s.orders.finishing ∧
      t.clock = s.clock ∧ t.orders.flight.map OrderEnt.unit = s.orders.flight.map OrderEnt.unit ∧ SameMemory s t)) ∧
  (∀ (d : JDone) (main aux at0 : Nat) (s : State), s.pwr.on = true →
    (s.orders.contactor = some (d, main, aux, at0) →
      (s.contactorMet main aux = true → s.up ≤ at0 → ∃ t, exec .contactorWaitDone s = .next t ∧ t.orders.contactor = none ∧
        (t.orders.finishing.map fun d => (d.seq, d.result)) =
          (s.orders.finishing.map fun d => (d.seq, d.result)) ++ [(d.seq, 0)] ∧
        s.Fires t (s.gridUp s.clock.count)) ∧
      (s.contactorMet main aux = false ∨ at0 < s.up → ∃ t, exec .contactorWaitDone s = .next t ∧ t.orders.contactor = none ∧
        (t.orders.finishing.map fun d => (d.seq, d.result)) =
          (s.orders.finishing.map fun d => (d.seq, d.result)) ++ [(d.seq, 0x08)] ∧ s.RunsTo t at0)) ∧
    (s.orders.contactor = none → ∃ t, exec .contactorWaitDone s = .next t ∧ OnlyRegs noRegs s t) ∧
    (∀ l, s.orders.relearn = some d → s.auth = some l → s.nv.queue = [] → s.nv.busy = none →
      ((s.est.get l).relearn = [] → (s.est.get l).dirtyL = false → (s.est.get l).dirtyT = false →
        ∃ t, exec .relearnWritebackDone s = .next t ∧ t.orders.relearn = none ∧ SameMemory s t ∧
          (t.orders.finishing.map fun d => (d.seq, d.result)) =
            (s.orders.finishing.map fun d => (d.seq, d.result)) ++ [(d.seq, d.result)]) ∧
      ((s.est.get l).dirtyL = true → ∃ t, exec .relearnWritebackDone s = .next t ∧ OnlyRegs noRegs s t))) ∧
  (∀ (d : JDone) (rest : List JDone) (s : State), s.pwr.on = true → s.orders.finishing = d :: rest →
    (s.nvWaits (doneOff d.seq) = false → (s.doneOf d.seq).isSome = true → d.seq < 2 ^ 32 → d.result < 2 ^ 8 →
      ∃ t, exec .orderCompletionCommit s = .next t ∧ t.orders.finishing = rest ∧ t.orders.oldest = (d.seq + 1) % 2 ^ 32 ∧
        (∀ e ∈ t.orders.flight, e.unit.seq ≠ d.seq) ∧ t.g F.ORD_LAST_SEQ = d.seq ∧ t.g F.ORD_LAST_RES_RESULT = d.result ∧
        (d.result ≠ 0 → ∀ l, Latched t l 0x1004) ∧ SameMemory s t) ∧
    (s.nvWaits (doneOff d.seq) = true → ∃ t, exec .orderCompletionCommit s = .next t ∧ OnlyRegs noRegs s t))

/-! ### Tally -/

/-- Programs: LOAD, with the lock held and in STOP, starts a load; its end takes the program where every check holds, with
0x1102, else leaves no program, with 0x1103; RUN asks for the loaded program, STOP ends it and clears the outputs; each
change of state is told with 0x1101; STOP is refused in motion. A cycle of a running program counts, keeps its time and goes
on; a fresh station frame is taken, one of an unknown station is not (R341 to R343, R347 to R349). -/
def Obligations.TallyRuns : Prop :=
  (∀ (r : Req) (s : State), s.hears1 r → s.holds r Pg.TALLY = true →
    (s.get r.lane F.TALLY_STAT_STATE = 0 → ∃ t, exec (.tallyLoad r) s = .next t ∧ t.answer = (0, 0) ∧
      t.get r.lane F.TALLY_STAT_LOADING = 1 ∧ (t.tally.get r.lane).loader = some r ∧
      OnlyRegs (laneReg r.lane F.TALLY_STAT_LOADING) { s with tally := t.tally } t) ∧
    (s.get r.lane F.TALLY_STAT_STATE ≠ 0 → ∃ t, exec (.tallyLoad r) s = .next t ∧ t.answer = (0x01, 0) ∧
      OnlyRegs (laneReg r.lane ⟨Pg.TALLY, 0x020, 31, 0⟩) s t) ∧
    (s.get r.lane F.TALLY_STAT_STATE = 0 → s.get r.lane F.TALLY_STAT_LOADED = 1 → s.get r.lane F.TALLY_STAT_LOADING = 0 →
      0 < seqDist s.sampleEpoch (s.get r.lane F.TALLY_RUN_EP_EPOCH) →
      seqDist s.sampleEpoch (s.get r.lane F.TALLY_RUN_EP_EPOCH) ≤ 2 ^ 31 → ∃ t, exec (.tallyRun r) s = .next t ∧ t.answer = (0, 0) ∧
        t.get r.lane F.TALLY_STAT_STATE = 1 ∧ Latched t r.lane 0x1101 ∧
        OnlyEvents (laneReg r.lane F.TALLY_STAT_STATE) s t) ∧
    (s.inMotion = false → s.get r.lane F.TALLY_STAT_STATE ≠ 3 → ∃ t, exec (.tallyStop r) s = .next t ∧ t.answer = (0, 0) ∧
      t.get r.lane F.TALLY_STAT_STATE = 0 ∧
      (s.get r.lane F.TALLY_STAT_STATE ≠ 0 → t.get r.lane F.TALLY_Q_Q = 0 ∧ Latched t r.lane 0x1101) ∧
      OnlyEvents (Regs.or (laneReg r.lane F.TALLY_STAT_STATE) (laneReg r.lane F.TALLY_Q_Q))
        { s with safe := t.safe, link := t.link } t) ∧
    (s.inMotion = true → ∃ t, exec (.tallyStop r) s = .next t ∧ t.answer = (0x01, 0) ∧
      OnlyRegs (laneReg r.lane ⟨Pg.TALLY, 0x020, 31, 0⟩) s t)) ∧
  (∀ (l : Lane) (s : State), s.pwr.on = true →
    (s.get l F.TALLY_STAT_LOADING = 1 → ∃ t, exec (.tallyLoadDone l) s = .next t ∧ t.get l F.TALLY_STAT_LOADING = 0 ∧
      (t.get l F.TALLY_STAT_LOADED = 1 ↔ (t.tally.get l).prog.isSome = true) ∧
      (t.get l F.TALLY_STAT_LOADED = 1 → Latched t l 0x1102) ∧ (t.get l F.TALLY_STAT_LOADED = 0 → Latched t l 0x1103) ∧
      (leAt (memBytes (s.dram.get l) (64 * s.get l F.TALLY_IMG_BASE_BASE) 35652) 0 2 ≠ 0x5441 →
        t.get l F.TALLY_STAT_LOADED = 0 ∧ t.get l F.TALLY_LDERR_REASON = 1 ∧ t.get l F.TALLY_LDERR_INDEX = 0) ∧
      SameMemory s t) ∧
    (s.get l F.TALLY_STAT_LOADING = 0 → ∃ t, exec (.tallyLoadDone l) s = .next t ∧ OnlyRegs noRegs s t) ∧
    (∀ tm twA twB p, (s.tally.get l).prog = some p → 2 ≤ s.laneState l → s.laneState l ≤ 5 →
      s.onGrid tm (500000 * max 1 p.cycle) = true → s.get l F.TALLY_STAT_STATE = 2 →
      ((s.tally.get l).skip ≠ some tm → ∃ t, exec (.tallyCycle tm twA twB) s = .next t ∧
        t.get l F.TALLY_CYC_CYC = (s.get l F.TALLY_CYC_CYC + 1) % 2 ^ 32 ∧ (t.tally.get l).lastAt = some tm ∧
        s.Fires t tm ∧ SameMemory s t ∧ t.get l F.TALLY_STAT_STATE = 2 ∧
        (500000 * p.cycle < (if l = .a then twA else twB) → Latched t l 0x1104 ∧
          (t.tally.get l).skip = some (tm + 500000 * p.cycle))) ∧
      ((s.tally.get l).skip = some tm → ∃ t, exec (.tallyCycle tm twA twB) s = .next t ∧
        t.get l F.TALLY_CYC_CYC = s.get l F.TALLY_CYC_CYC ∧ (t.tally.get l).skip = none)) ∧
    (∀ tm twA twB, s.tally.a.prog = none → s.tally.b.prog = none → ∃ t, exec (.tallyCycle tm twA twB) s = .next t ∧
      OnlyRegs noRegs s t) ∧
    (∀ node alive bits k st x, (s.stations l).find? (fun x => x.2.node == node) = some (k, st) →
      (s.tally.get l).io[k]? = some x → ∃ t, exec (.stationInRx l node alive bits) s = .next t ∧
        (x.alive ≠ some (alive % 16) → (t.tally.get l).io[k]? = some { x with
          alive := some (alive % 16), seen := some s.up, bits := bits % 2 ^ 64, since := true }) ∧
        (x.alive = some (alive % 16) → (t.tally.get l).io[k]? = some x) ∧
        OnlyRegs noRegs { s with tally := t.tally } t) ∧
    (∀ node alive bits, (s.stations l).find? (fun x => x.2.node == node) = none →
      ∃ t, exec (.stationInRx l node alive bits) s = .next t ∧ OnlyRegs noRegs s t))

/-! ### The lanes -/

/-- The watchdogs (R356, R357): LANE_WDOG takes its key from the lane's management core alone, refuses another value with
0x04 and another requester with 0x02, and a lane that is not kicked for two periods fails with 0x1202; while TO_MS is not 0 a
kick of the resident application serves the lane of its requester, and a time TO_MS without one raises 0x120B and fails the
lane with cause APP where APP_WD_ACT is 1. -/
def Obligations.WatchdogsAreKicked : Prop :=
  (∀ (r : Req) (v : Word) (s : State), s.hears1 r →
    (r.path = .mgmt → v = 0x5744#32 → ∃ t, exec (.laneWdog r v) s = .next t ∧ t.answer = (0, 0) ∧
      OnlyRegs noRegs { s with lane := { s.lane with kick := s.lane.kick.set r.lane s.up } } t) ∧
    (r.path = .mgmt → v ≠ 0x5744#32 → ∃ t, exec (.laneWdog r v) s = .next t ∧ t.answer = (0x04, 0) ∧
      OnlyRegs (laneReg r.lane ⟨Pg.LANE, 0x020, 31, 0⟩) s t) ∧
    (r.path ≠ .mgmt → ∃ t, exec (.laneWdog r v) s = .next t ∧ t.answer = (0x02, 0) ∧
      OnlyRegs (laneReg r.lane ⟨Pg.LANE, 0x020, 31, 0⟩) s t)) ∧
  (∀ (r : Req) (s : State), s.hears1 r →
    (r.path = .app0 ∨ r.path = .app1 →
      (∀ c ∈ regChecks s r false Pg.LANE 0x054 (setBits (s.rd r.lane Pg.LANE 0x054) 31 31 1), c.2 = false) →
      ∃ t, exec (.appWdKick r) s = .next t ∧ t.answer = (0, 0) ∧ OnlyRegs (fieldReg F.LANE_APP_WD_TO_MS)
        { s with lane := { s.lane with appKick := s.lane.appKick.set r.lane s.up }, lockT := t.lockT } t ∧
        t.g F.LANE_APP_WD_TO_MS = s.g F.LANE_APP_WD_TO_MS) ∧
    (r.path = .mgmt → ∃ t, exec (.appWdKick r) s = .next t ∧ t.answer = (0x02, 0) ∧
      OnlyRegs (laneReg r.lane ⟨Pg.LANE, 0x020, 31, 0⟩) s t)) ∧
  (∀ (l : Lane) (s : State), s.pwr.on = true →
    (s.kicks l = true → ∃ t, exec (.laneWdogExpire l) s = .next t ∧ t.laneState l = 6 ∧
      s.RunsTo t (s.lane.kick.get l + 20000000) ∧ bitAt (t.g (healthFld l)) 0 = true ∧ ∀ k, Latched t k 0x1202) ∧
    (s.kicks l = false → ∃ t, exec (.laneWdogExpire l) s = .next t ∧ OnlyRegs noRegs s t) ∧
    (s.g F.LANE_APP_WD_TO_MS ≠ 0 → s.kicks l = true → ∃ t, exec (.appWdExpire l) s = .next t ∧ (∀ k, Latched t k 0x120B) ∧
      s.RunsTo t (s.lane.appKick.get l + 1000000 * s.g F.LANE_APP_WD_TO_MS) ∧
      (s.g F.LANE_CFG_APP_WD_ACT = 1 → t.laneState l = 6 ∧ bitAt (t.g (healthFld l)) 6 = true) ∧
      (s.g F.LANE_CFG_APP_WD_ACT = 0 → t.laneState l = s.laneState l)) ∧
    (s.g F.LANE_APP_WD_TO_MS = 0 → ∃ t, exec (.appWdExpire l) s = .next t ∧ OnlyRegs noRegs s t))

/-- A lane's failed check puts the lane into FAILED with 0x1202; INJECT by the authority lane fails it and starts a merge, and
is refused with 0x01 in motion or while the lanes are busy (R355, R358, R362, R372). -/
def Obligations.LanesFail : Prop :=
  (∀ (l : Lane) (bit : Nat) (s : State), s.pwr.on = true → bit < 8 →
    (s.laneState l ≠ 0 → ∃ t, exec (.laneFail l bit) s = .next t ∧ t.laneState l = 6 ∧
      bitAt (t.g (healthFld l)) bit = true ∧ ∀ k, Latched t k 0x1202) ∧
    (s.laneState l = 0 → ∃ t, exec (.laneFail l bit) s = .next t ∧ OnlyRegs noRegs s t)) ∧
  (∀ (r : Req) (s : State), s.hears1 r → s.isAuth r.lane = true → s.holds r Pg.LANE = true →
    (s.laneBusy r.lane = false → s.inMotion = false → s.laneState r.lane = 5 → ∃ t, exec (.inject r) s = .next t ∧
      t.answer = (0, 0) ∧ t.laneState r.lane = 6 ∧ t.lane.merge = some ⟨5, r.lane, true, s.clock.count⟩ ∧
      t.g F.LANE_AUTH_MERGE = 1 ∧ ∀ k, Latched t k 0x1203) ∧
    (s.laneBusy r.lane = true ∨ s.inMotion = true → ∃ t, exec (.inject r) s = .next t ∧ t.answer = (0x01, 0) ∧
      OnlyRegs (laneReg r.lane ⟨Pg.LANE, 0x020, 31, 0⟩) s t))

/-- Handover: an accepted SWAP, and the failure of the lane in authority, start a merge, with 0x1203 and the decision's time;
SWAP is refused with 0x01 while the other lane is not in STANDBY or a merge or a sync runs; the end of the merge gives
authority to the other lane, with 0x1204 and 0x1201, and leaves the giver in STANDBY, or FAILED where it has failed (R359 to
R362). -/
def Obligations.HandoverTakesPlace : Prop :=
  (∀ (r : Req) (s : State), s.hears1 r → s.isAuth r.lane = true → s.holds r Pg.LANE = true →
    (s.laneBusy r.lane = false → s.clock.count < 2 ^ 64 → ∃ t, exec (.swap r) s = .next t ∧ t.answer = (0, 0) ∧
      t.lane.merge = some ⟨2, r.lane, false, s.clock.count⟩ ∧ t.g F.LANE_AUTH_MERGE = 1 ∧ t.g F.LANE_STAT_MERGE = 1 ∧
      t.get64 .a F.LANE_HO_T_T_LO = s.clock.count ∧ t.laneState .a = s.laneState .a ∧ t.laneState .b = s.laneState .b ∧
      t.auth = s.auth ∧ ∀ k, Latched t k 0x1203) ∧
    (s.laneBusy r.lane = true → ∃ t, exec (.swap r) s = .next t ∧ t.answer = (0x01, 0) ∧
      OnlyRegs (laneReg r.lane ⟨Pg.LANE, 0x020, 31, 0⟩) s t)) ∧
  (∀ (l : Lane) (s : State), s.pwr.on = true →
    (s.auth = some l → s.laneState l = 6 → s.laneState l.other = 4 → s.lane.merge = none → s.lane.sync = none →
      ∃ t, exec (.handover 1) s = .next t ∧ t.lane.merge = some ⟨1, l, true, s.clock.count⟩ ∧ t.g F.LANE_AUTH_MERGE = 1 ∧
        t.auth = s.auth ∧ ∀ k, Latched t k 0x1203) ∧
    (s.auth = some l → s.laneState l.other ≠ 4 → ∀ cause, ∃ t, exec (.handover cause) s = .next t ∧ OnlyRegs noRegs s t)) ∧
  (∀ (m : Merge) (s : State), s.pwr.on = true → s.lane.merge = some m → ∃ t, exec .mergeEnd s = .next t ∧
    t.lane.merge = none ∧ t.auth = some m.giver.other ∧ t.g F.LANE_AUTH_CAUSE = m.cause % 8 ∧
    t.laneState m.giver.other = 5 ∧ t.laneState m.giver = (if m.failed then 6 else 4) ∧ t.g F.LANE_AUTH_MERGE = 0 ∧
    s.Fires t (s.mergeInstant m) ∧ ∀ k, Latched t k 0x1204 ∧ Latched t k 0x1201) ∧
  (∀ s : State, s.pwr.on = true → s.lane.merge = none → ∃ t, exec .mergeEnd s = .next t ∧ OnlyRegs noRegs s t)

/-- Reset and rejoin: LRESET and AUTO_RST put a lane into INIT with its queues, its bus controller and its estimator at rest;
a lane that completes its boot beside a lane in authority stands by at power-up and waits for a sync later, with 0x120A; the
preferred one takes authority at power-up; a lane sets its own RDY only; SYNC starts a sync, with 0x1206, or is refused with
0x01 and 0x1208; the copy gives the joining lane the authority lane's engines; equal outputs complete the sync, with 0x1207,
and different ones end it, with 0x1208 (R364 to R370). -/
def Obligations.LanesRejoin : Prop :=
  (∀ (r : Req) (s : State), s.hears1 r → s.isAuth r.lane = true → s.holds r Pg.LANE = true →
    (∃ t, exec (.lreset r) s = .next t ∧ t.answer = (0, 0) ∧ t.laneState r.lane.other = 1 ∧
      t.plink.get r.lane.other = Plink.reset ∧ t.cbus.get r.lane.other = Cbus.reset ∧ t.est.get r.lane.other = Est.reset ∧
      t.icu.get r.lane.other = Icu.reset ∧ SameMemory s t ∧ t.mons = s.mons ∧ t.clock.count = s.clock.count) ∧
    (s.syncBad r.lane = none → ∃ t, exec (.sync (some r)) s = .next t ∧ t.answer = (0, 0) ∧ t.laneState r.lane.other = 3 ∧
      t.g F.LANE_STAT_SYNCING = 1 ∧ (t.lane.sync.map fun y => (y.lane, y.t, y.copied)) =
        some (r.lane.other, s.clock.count, false) ∧ ∀ k, Latched t k 0x1206) ∧
    (s.syncBad r.lane ≠ none → ∃ t, exec (.sync (some r)) s = .next t ∧ t.answer = (0x01, 0) ∧ (∀ k, Latched t k 0x1208) ∧
      OnlyEvents (laneReg r.lane ⟨Pg.LANE, 0x020, 31, 0⟩) s t)) ∧
  (∀ (l : Lane) (s : State), s.pwr.on = true →
    (s.auth = some l → s.syncBad l = none → s.g F.LANE_CFG_AUTO_SYNC = 1 → ∃ t, exec (.sync none) s = .next t ∧
      t.laneState l.other = 3 ∧ ∀ k, Latched t k 0x1206) ∧
    (s.g F.LANE_CFG_AUTO_SYNC = 0 → ∃ t, exec (.sync none) s = .next t ∧ OnlyRegs noRegs s t) ∧
    (∀ at0, s.lane.failedAt.get l = some at0 → s.laneState l = 6 → s.g F.LANE_CFG_AUTO_RST = 1 →
      (s.lane.resets.get l = [] → s.lane.merge = none → ∃ t, exec (.laneAutoReset l) s = .next t ∧ t.laneState l = 1 ∧
        s.RunsTo t (at0 + 100000000) ∧ t.lane.resets.get l = [t.up] ∧ t.plink.get l = Plink.reset ∧
        t.cbus.get l = Cbus.reset ∧ t.est.get l = Est.reset ∧ t.icu.get l = Icu.reset ∧ SameMemory s t) ∧
      (3 ≤ (s.lane.resets.get l).length → (∀ u ∈ s.lane.resets.get l, max s.up (at0 + 100000000) < u + 600000000000) →
        ∃ t, exec (.laneAutoReset l) s = .next t ∧ OnlyRegs noRegs s t)) ∧
    (s.laneState l = 1 → s.flash.recovery.get l = false → s.lane.booted.get l = false →
      (s.auth = some l.other → s.lane.together = false → ∃ t, exec (.laneBootComplete l) s = .next t ∧ t.laneState l = 2 ∧
        t.auth = s.auth ∧ ∀ k, Latched t k 0x120A) ∧
      (s.auth = some l.other → s.lane.together = true → s.lane.src.get l = 0 → ∃ t, exec (.laneBootComplete l) s = .next t ∧
        t.laneState l = 4 ∧ t.auth = s.auth ∧ t.lane.booted.get l = true) ∧
      (s.auth = none → s.lane.together = true → s.lane.src.get l = 0 → s.g F.LANE_CFG_PREF = l.idx →
        ∃ t, exec (.laneBootComplete l) s = .next t ∧ t.laneState l = 5 ∧ t.auth = some l ∧ t.g F.LANE_AUTH_CAUSE = 3 ∧
          ∀ k, Latched t k 0x1201)) ∧
    (s.laneState l ≠ 1 → ∃ t, exec (.laneBootComplete l) s = .next t ∧ OnlyRegs noRegs s t)) ∧
  (∀ (r : Req) (v : Word) (s : State), s.hears1 r →
    (bitAt v.toNat r.lane.idx = true → bitAt v.toNat r.lane.other.idx = false → ∃ t, exec (.laneRdy r v) s = .next t ∧
      t.answer = (0, 0) ∧ t.g (rdyFld r.lane) = 1 ∧ t.g F.LANE_TBL_CRC_A_CRC = crc32c (s.tableBytes .a) % 2 ^ 32 ∧
      t.g F.LANE_TBL_CRC_B_CRC = crc32c (s.tableBytes .b) % 2 ^ 32 ∧
      OnlyRegs (Regs.or (fieldReg F.LANE_RDY_RDY_A) (Regs.or (fieldReg F.LANE_TBL_CRC_A_CRC) (fieldReg F.LANE_TBL_CRC_B_CRC))) s t) ∧
    (bitAt v.toNat r.lane.other.idx = true → ∃ t, exec (.laneRdy r v) s = .next t ∧ t.answer = (0x02, 0) ∧
      OnlyRegs (laneReg r.lane ⟨Pg.LANE, 0x020, 31, 0⟩) s t)) ∧
  (∀ (y : Sync) (e : Nat) (s : State), s.pwr.on = true → s.lane.sync = some y → (s.est.get y.lane.other).last = some e →
    (∀ p, (s.est.get y.lane.other).prev = some p → y.copied = false → y.t + 2000000 ≤ p.1 → ∃ t, exec .syncCopy s = .next t ∧
      t.lane.sync = some { y with ep := some e, copied := true } ∧ t.est.get y.lane = s.est.get y.lane.other ∧
      t.tally.get y.lane = s.tally.get y.lane.other ∧ t.cle.get y.lane = s.cle.get y.lane.other ∧
      t.eis.get y.lane = s.eis.get y.lane.other ∧ t.bal.get y.lane = s.bal.get y.lane.other ∧ SameMemory s t) ∧
    (y.copied = true → ∃ t, exec .syncCopy s = .next t ∧ OnlyRegs noRegs s t) ∧
    (∀ b, y.ep = some b → y.copied = true → (s.est.get y.lane).last = some e → b < e → b < 2 ^ 32 →
      (s.outCrc y.lane = s.outCrc y.lane.other → ∃ t, exec .syncComplete s = .next t ∧ t.lane.sync = none ∧ t.laneState y.lane = 4 ∧
        t.g F.LANE_STAT_SYNCING = 0 ∧ t.g F.LANE_SYNC_EP_EPOCH = b ∧ ∀ k, Latched t k 0x1207) ∧
      (s.outCrc y.lane ≠ s.outCrc y.lane.other → s.laneState y.lane = 3 → ∃ t, exec .syncComplete s = .next t ∧ t.lane.sync = none ∧
        t.laneState y.lane = 2 ∧ t.g F.LANE_STAT_SYNCING = 0 ∧ ∀ k, Latched t k 0x1208)) ∧
    (y.copied = false → ∃ t, exec .syncComplete s = .next t ∧ OnlyRegs noRegs s t))

/-! ### The container bus -/

/-- Transmission: an allowed request makes its buffer pending in the lane with the transmit role, from where a free bus takes
it, and held in the other; a busy buffer refuses it with 0x05; a cancel takes what has not begun; a frame that was sent makes
its buffer DONE and counts; a held request that nothing matched is dropped after SHADOW_US with 0x1306; a driver held dominant
is told with 0x130B (R384 to R387, R395). -/
def Obligations.BusTransmits : Prop :=
  (∀ (r : Req) (n : Nat) (s : State), s.hears1 r → n < 3 →
    ((∀ c ∈ txChecks s r.lane n, c.2 = false) →
      (s.get r.lane F.CBUS_STAT_TX_ROLE = 1 → ∃ t, exec (.cbusTxreq r n) s = .next t ∧ t.answer = (0, 0) ∧
        (t.txSt r.lane n = 1 ∨ t.txSt r.lane n = 2 ∧ (t.cbus.get r.lane).sending = some n) ∧
        (s.get r.lane F.CBUS_STAT_ON = 0 → t.txSt r.lane n = 1) ∧ OnlyRegs (Regs.or (laneReg r.lane ⟨Pg.CBUS, 0x060, 31, 0⟩)
          (laneReg r.lane F.CBUS_STAT_IDLE)) { s with cbus := t.cbus } t) ∧
      (s.get r.lane F.CBUS_STAT_TX_ROLE = 0 → (s.cbus.get r.lane).log = [] → ∃ t, exec (.cbusTxreq r n) s = .next t ∧
        t.answer = (0, 0) ∧ t.txSt r.lane n = 5 ∧
        OnlyRegs (laneReg r.lane ⟨Pg.CBUS, 0x060, 31, 0⟩) { s with cbus := t.cbus } t)) ∧
    ((s.txFrame r.lane n).ide = false → s.txSt r.lane n = 1 ∨ s.txSt r.lane n = 2 ∨ s.txSt r.lane n = 5 →
      ∃ t, exec (.cbusTxreq r n) s = .next t ∧ t.answer = (0x05, 0) ∧ OnlyRegs (laneReg r.lane ⟨Pg.CBUS, 0x020, 31, 0⟩) s t) ∧
    (s.txSt r.lane n = 1 ∨ s.txSt r.lane n = 5 → ∃ t, exec (.cbusTxCancel r n) s = .next t ∧ t.answer = (0, 0) ∧
      t.txSt r.lane n = 4 ∧ OnlyRegs (laneReg r.lane ⟨Pg.CBUS, 0x060, 31, 0⟩) s t) ∧
    (s.txSt r.lane n = 2 → ∃ t, exec (.cbusTxCancel r n) s = .next t ∧ t.answer = (0, 0) ∧ OnlyRegs noRegs { s with
      cbus := s.cbus.set r.lane { s.cbus.get r.lane with cancel := (s.cbus.get r.lane).cancel.set n true } } t)) ∧
  (∀ (l : Lane) (n sof : Nat) (s : State), s.pwr.on = true →
    ((s.cbus.get l).sending = some n → n < 3 → ∃ t, exec (.cbusTxDone l 0 sof) s = .next t ∧ t.txSt l n = 3 ∧
      t.get l F.CBUS_CNT_TX = (s.get l F.CBUS_CNT_TX + 1) % 2 ^ 16 ∧ (t.cbus.get l).tec = (s.cbus.get l).tec - 1) ∧
    ((s.cbus.get l).sending = some n → n < 3 → (s.cbus.get l).cancel.getD n false = true → ∃ t, exec (.cbusTxDone l 1 sof) s = .next t ∧ t.txSt l n = 4 ∧ t.get l F.CBUS_CNT_TX = s.get l F.CBUS_CNT_TX) ∧
    ((s.cbus.get l).sending = none → ∀ outcome, ∃ t, exec (.cbusTxDone l outcome sof) s = .next t ∧ OnlyRegs noRegs s t) ∧
    (n < 3 → s.txSt l n = 5 → ∃ t, exec (.shadowDrop l n) s = .next t ∧ t.txSt l n = 7 ∧ Latched t l 0x1306 ∧
      s.RunsTo t ((s.cbus.get l).since.getD n 0 + 1000 * s.get l F.CBUS_TXCFG_SHADOW_US) ∧ SameMemory s t) ∧
    (n < 3 → s.txSt l n ≠ 5 → ∃ t, exec (.shadowDrop l n) s = .next t ∧ OnlyRegs noRegs s t) ∧
    (∃ t, exec (.dominantTimeout l) s = .next t ∧ Latched t l 0x130B ∧ OnlyEvents noRegs s t))

/-- The receive FIFO (R389): it holds 16 frames; its window shows its head in the layout of the dedicated buffers; the read of
the window's last word pops the head; a frame that arrives at a full FIFO is dropped and counted in CBUS_RXLOST.FIFO, and the
first drop since CBUS_RXLOST was read raises 0x1304. -/
def Obligations.ReceiveFifo : Prop :=
  (∀ (l : Lane) (f : CanFrame) (ts k : Nat) (s : State), s.pwr.on = true → s.get l F.CBUS_STAT_ON = 1 →
    s.get l F.CBUS_CTRL_ENABLE = 1 → f.ide = false → (∀ j, j < 32 → j < k → s.get l (F.CBUS_FLT_CFG_EN j) = 0) →
    (k = 0xFFFF ∧ s.get l F.CBUS_RXCFG_ACC_ALL = 1 ∨ k < 32 ∧ s.get l (F.CBUS_FLT_CFG_EN k) = 1 ∧
      s.get l (F.CBUS_FLT_CFG_DEST k) = 1 ∧ s.get l (F.CBUS_FLT_ID_IDE k) = 0 ∧
      Nat.land (Nat.xor f.ident (s.get l (F.CBUS_FLT_ID_ID k))) (s.get l (F.CBUS_FLT_MASK_MASK k)) = 0) →
    ((s.cbus.get l).fifo.length < 16 → ∃ t, exec (.cbusFrameRx l f ts) s = .next t ∧
      (t.cbus.get l).fifo = (s.cbus.get l).fifo ++ [⟨f, k, ts⟩] ∧
      t.get l F.CBUS_RXSTAT_FIFO_LVL = (s.cbus.get l).fifo.length + 1 ∧ t.get l F.CBUS_STAT_RXF_NE = 1 ∧ SameMemory s t ∧
      ∀ i, i < 19 → t.rd l Pg.CBUS (0x280 + 4 * i) = BitVec.ofNat 32
        (((s.cbus.get l).fifo.head?.map fun y => rxWords y false).getD (rxWords ⟨f, k, ts⟩ false) |>.getD i 0)) ∧
    (16 ≤ (s.cbus.get l).fifo.length → ∃ t, exec (.cbusFrameRx l f ts) s = .next t ∧
      (t.cbus.get l).fifo = (s.cbus.get l).fifo ∧ t.get l F.CBUS_RXLOST_FIFO = satInc 0xFFFF (s.get l F.CBUS_RXLOST_FIFO) ∧
      (s.get l F.CBUS_RXLOST_FIFO = 0 → Latched t l 0x1304) ∧ SameMemory s t ∧
      ∀ i, i < 19 → t.rd l Pg.CBUS (0x280 + 4 * i) = s.rd l Pg.CBUS (0x280 + 4 * i))) ∧
  (∀ (r : Req) (x : CanRx) (rest : List CanRx) (s : State), s.hears1 r → (s.cbus.get r.lane).fifo = x :: rest →
    rest.length < 16 → ∃ t, exec (.cbusFifoPop r) s = .next t ∧ t.answer = (0, (s.rd r.lane Pg.CBUS 0x2C8).toNat) ∧
      (t.cbus.get r.lane).fifo = rest ∧ t.get r.lane F.CBUS_RXSTAT_FIFO_LVL = rest.length ∧ SameMemory s t ∧
      ∀ i, i < 19 → t.rd r.lane Pg.CBUS (0x280 + 4 * i) =
        BitVec.ofNat 32 ((rest.head?.map fun y => rxWords y false).getD [] |>.getD i 0))

/-- Reception: every frame is counted; a dedicated buffer locks at the read of its ID word and is released at the read of its
last one, or after 1 ms with 0x130D, when a waiting frame moves in; CBUS_RXLOST and the last error codes of CBUS_ERR clear as
they are read (R388, R390, R391). -/
def Obligations.BusReceives : Prop :=
  (∀ (l : Lane) (f : CanFrame) (ts : Nat) (s : State), s.pwr.on = true →
    (s.get l F.CBUS_STAT_ON = 1 → s.get l F.CBUS_CTRL_ENABLE = 1 → ∃ t, exec (.cbusFrameRx l f ts) s = .next t ∧
      t.get l F.CBUS_CNT_RX = (s.get l F.CBUS_CNT_RX + 1) % 2 ^ 16 ∧ SameMemory s t) ∧
    (s.get l F.CBUS_STAT_ON = 0 → ∃ t, exec (.cbusFrameRx l f ts) s = .next t ∧ OnlyRegs noRegs s t) ∧
    (∀ k at0, k < 2 → (s.cbus.get l).locked[k]? = some (some at0) → ∃ t, exec (.cbusRxbufLockTimeout l k) s = .next t ∧
      (t.cbus.get l).locked[k]? = some none ∧ s.RunsTo t (at0 + 1000000) ∧ Latched t l 0x130D ∧ SameMemory s t) ∧
    (∀ k, k < 2 → (s.cbus.get l).locked.getD k none = none → ∃ t, exec (.cbusRxbufLockTimeout l k) s = .next t ∧
      OnlyRegs noRegs s t)) ∧
  (∀ (r : Req) (s : State), s.hears1 r →
    (∀ k, k < 2 → k < (s.cbus.get r.lane).locked.length →
      (∃ t, exec (.cbusRxbufLock r k) s = .next t ∧ t.answer = (0, (s.rd r.lane Pg.CBUS (0x300 + 0x80 * k)).toNat) ∧
        (t.cbus.get r.lane).locked[k]? = some (some (((s.cbus.get r.lane).locked.getD k none).getD s.up)) ∧
        OnlyRegs (laneReg r.lane F.CBUS_RXSTAT_B0_LOCK) { s with cbus := t.cbus } t) ∧
      (∃ t, exec (.cbusRxbufRelease r k) s = .next t ∧ t.answer = (0, (s.rd r.lane Pg.CBUS (0x348 + 0x80 * k)).toNat) ∧
        (t.cbus.get r.lane).locked[k]? = some none ∧
        (∀ x, (s.cbus.get r.lane).waiting.getD k none = some x →
          t.rd r.lane Pg.CBUS (0x300 + 0x80 * k) = BitVec.ofNat 32 x.frame.id) ∧
        ((s.cbus.get r.lane).waiting.getD k none = none → t.get r.lane ⟨Pg.CBUS, 0x304 + 0x80 * k, 8, 8⟩ = 0 ∧
          t.rd r.lane Pg.CBUS (0x300 + 0x80 * k) = s.rd r.lane Pg.CBUS (0x300 + 0x80 * k)))) ∧
    (∃ t, exec (.cbusRxlostRead r) s = .next t ∧ t.answer = (0, (s.rd r.lane Pg.CBUS 0x08C).toNat) ∧
      t.rd r.lane Pg.CBUS 0x08C = 0#32 ∧ OnlyRegs (laneReg r.lane ⟨Pg.CBUS, 0x08C, 31, 0⟩) s t) ∧
    (∃ t, exec (.cbusErrRead r) s = .next t ∧ t.answer = (0, (s.rd r.lane Pg.CBUS 0x050).toNat) ∧ t.get r.lane F.CBUS_ERR_LEC = 0 ∧
      t.get r.lane F.CBUS_ERR_DLEC = 0 ∧ t.get r.lane F.CBUS_ERR_TEC = s.get r.lane F.CBUS_ERR_TEC ∧
      OnlyRegs (laneReg r.lane F.CBUS_ERR_LEC) s t))

/-- Errors and barriers: an error of the transmitter counts 8 in TEC, and above 255 the controller is bus-off with 0x1302; the
lane without the transmit role counts none; BO_REC starts a recovery, whose end leaves both counters at 0 with 0x1303; an
arrival needs the module in the mask and no running barrier, and leaves BUSY with its frame waiting; a barrier not done within
TO_MS ends with 0x1308; a controller of a running lane that has integrated is on the bus (R391 to R393, R398, R399). -/
def Obligations.BusErrorsAndBarriers : Prop :=
  (∀ (l : Lane) (fd heavy : Bool) (code : Nat) (s : State), s.pwr.on = true → code < 7 →
    (s.get l F.CBUS_STAT_TX_ROLE = 1 → s.get l F.CBUS_STAT_FSTATE = 0 → ∃ t, exec (.cbusError l true fd heavy code) s = .next t ∧
      (t.cbus.get l).tec = (s.cbus.get l).tec + 8 ∧ (t.cbus.get l).rxErr = (s.cbus.get l).rxErr ∧
      t.get l (if fd then F.CBUS_ERR_DLEC else F.CBUS_ERR_LEC) = code ∧
      t.get l F.CBUS_ERR_TEC = min 255 ((s.cbus.get l).tec + 8) ∧
      (255 < (s.cbus.get l).tec + 8 → t.get l F.CBUS_STAT_FSTATE = 2 ∧ Latched t l 0x1302 ∧ Latched t l 0x1301) ∧
      OnlyEvents (Regs.or (laneReg l F.CBUS_ERR_TEC) (laneReg l F.CBUS_STAT_FSTATE)) { s with cbus := t.cbus } t) ∧
    (s.get l F.CBUS_STAT_TX_ROLE = 0 → ∀ tx, ∃ t, exec (.cbusError l tx fd heavy code) s = .next t ∧
      t.get l (if fd then F.CBUS_ERR_DLEC else F.CBUS_ERR_LEC) = code ∧ OnlyRegs (laneReg l F.CBUS_ERR_LEC) s t) ∧
    (s.get l F.CBUS_STAT_FSTATE = 2 → s.get l F.CBUS_STAT_BO_RECOVERING = 1 → ∃ t, exec (.cbusBusoffRecovered l) s = .next t ∧
      (t.cbus.get l).tec = 0 ∧ (t.cbus.get l).rxErr = 0 ∧ t.get l F.CBUS_STAT_FSTATE = 0 ∧
      t.get l F.CBUS_STAT_BO_RECOVERING = 0 ∧ Latched t l 0x1303) ∧
    (s.get l F.CBUS_STAT_FSTATE ≠ 2 → ∃ t, exec (.cbusBusoffRecovered l) s = .next t ∧ OnlyRegs noRegs s t) ∧
    (∀ at0, (s.cbus.get l).arrived = some at0 → ∃ t, exec (.barrierTimeout l) s = .next t ∧ t.get l F.CBUS_BAR_BUSY = 0 ∧
      (t.cbus.get l).arrived = none ∧ s.RunsTo t (at0 + 1000000 * s.get l F.CBUS_BAR_TO_MS) ∧ Latched t l 0x1308) ∧
    ((s.cbus.get l).arrived = none → ∃ t, exec (.barrierTimeout l) s = .next t ∧ OnlyRegs noRegs s t) ∧
    (2 ≤ s.laneState l → s.mode ≠ St.LULL → s.mode ≠ St.SHUTDOWN → s.get l F.CBUS_CTRL_ENABLE = 1 →
      ∃ t, exec (.cbusBusIntegration l) s = .next t ∧ t.get l F.CBUS_STAT_ON = 1 ∧ SameMemory s t ∧
        (s.get l F.CBUS_STAT_TX_ROLE = 0 → t.get l F.CBUS_STAT_IDLE = 1 ∧ OnlyRegs (laneReg l F.CBUS_STAT_ON) s t)) ∧
    (s.laneState l < 2 → ∃ t, exec (.cbusBusIntegration l) s = .next t ∧ OnlyRegs noRegs s t)) ∧
  (∀ (r : Req) (v : Word) (s : State), s.hears1 r →
    (s.get r.lane F.CBUS_STAT_FSTATE = 2 → ∃ t, exec (.boRec r) s = .next t ∧ t.answer = (0, 0) ∧
      t.get r.lane F.CBUS_STAT_BO_RECOVERING = 1 ∧ OnlyRegs (laneReg r.lane F.CBUS_STAT_BO_RECOVERING) s t) ∧
    (s.get r.lane F.CBUS_STAT_FSTATE ≠ 2 → ∃ t, exec (.boRec r) s = .next t ∧ t.answer = (0, 0) ∧ OnlyRegs noRegs s t) ∧
    (bitAt (s.barMask r.lane) (s.get r.lane F.CBUS_NODE_NODE) = true → s.get r.lane F.CBUS_BAR_BUSY = 0 →
      getBits v 28 16 ≠ 0 → s.get r.lane F.CBUS_STAT_TX_ROLE = 1 → ∃ t, exec (.arrive r v) s = .next t ∧ t.answer = (0, 0) ∧
        t.get r.lane F.CBUS_BAR_BUSY = 1 ∧ t.get r.lane F.CBUS_BAR_DONE = 0 ∧ t.get r.lane F.CBUS_BAR_NUM = getBits v 11 0 ∧
        t.get r.lane F.CBUS_BAR_TO_MS = getBits v 28 16 ∧ (t.cbus.get r.lane).arrived = some s.up ∧
        (t.cbus.get r.lane).bar.isSome = true ∧ SameMemory s t) ∧
    (bitAt (s.barMask r.lane) (s.get r.lane F.CBUS_NODE_NODE) = false → ∃ t, exec (.arrive r v) s = .next t ∧
      t.answer = (0x01, 0) ∧ OnlyRegs (laneReg r.lane ⟨Pg.CBUS, 0x020, 31, 0⟩) s t) ∧
    (bitAt (s.barMask r.lane) (s.get r.lane F.CBUS_NODE_NODE) = true → s.get r.lane F.CBUS_BAR_BUSY = 1 →
      ∃ t, exec (.arrive r v) s = .next t ∧ t.answer = (0x05, 0) ∧ OnlyRegs (laneReg r.lane ⟨Pg.CBUS, 0x020, 31, 0⟩) s t))

/-! ### The plant ports, the record queues and the record intake -/

/-- The plant ports: a link that comes up is told with 0x1401, one that goes down stops its transmitter, with 0x1402, and so
does LINK_RST; a duplicate address stops the port, with 0x1405; at a heartbeat instant every active lane takes the next
sequence of stream 9; the record on the wire is counted as it leaves, and an underrun is told with 0x1502; retained records
leave after 60 s; the sequence of a request for a resend is kept, and a bad one is counted as FORMAT; an echo request and a
neighbour solicitation for an own address are answered (R403, R405, R411, R416 to R419, R423, R424). The queues: FLUSH marks
its queues, and its effect ends the mark and empties a queue other than the events' but for a record that is leaving, with
0x1503; the batch of events is sent once and goes into queue 3 of every active lane; PLNK_RXDROP and QUE_Qn_CNT are answered
and cleared (R413, R416, R420 to R422). -/
def Obligations.PortsAndQueues : Prop :=
  ((∀ (l : Lane) (s : State), s.pwr.on = true →
    (s.mode ≠ St.LULL → s.mode ≠ St.SHUTDOWN → s.get l F.PLNK_STAT_LINK_UP = 0 → ∃ t, exec (.plinkLinkUp l) s = .next t ∧
      t.get l F.PLNK_STAT_LINK_UP = 1 ∧ t.get l F.PLNK_STAT_ROLE = s.get l F.PLNK_CFG_MASTER ∧
      t.get l F.PLNK_STAT_ADDR_OK = 1 - s.get l F.PLNK_STAT_DAD_FAIL ∧ Latched t l 0x1401 ∧
      OnlyEvents (laneReg l F.PLNK_STAT_LINK_UP) s t) ∧
    (s.get l F.PLNK_STAT_LINK_UP = 1 → ∃ t, exec (.plinkLinkDown l) s = .next t ∧ t.get l F.PLNK_STAT_LINK_UP = 0 ∧
      t.get l F.PLNK_STAT_ADDR_OK = 0 ∧ (t.plink.get l).sending = .idle ∧ Latched t l 0x1402 ∧
      ((s.plink.get l).queues.any (fun q => !q.recs.isEmpty) = true → Latched t l 0x1504) ∧
      OnlyEvents (laneReg l F.PLNK_STAT_LINK_UP) s t) ∧
    (s.get l F.PLNK_STAT_LINK_UP = 0 → ∃ t, exec (.plinkLinkDown l) s = .next t ∧ OnlyRegs noRegs s t) ∧
    (∃ t, exec (.dadFail l) s = .next t ∧ t.get l F.PLNK_STAT_DAD_FAIL = 1 ∧ t.get l F.PLNK_STAT_ADDR_OK = 0 ∧ Latched t l 0x1405 ∧
      OnlyEvents (laneReg l F.PLNK_STAT_DAD_FAIL) s t) ∧
    (∀ tm, s.onGrid tm (1000000 * max 1 (s.get s.evrLane F.PLNK_HB_PERIOD_MS)) = true → s.active .a = true →
      (s.plink.get l).seqs.length = 9 → s.active l = true → ∃ t, exec (.heartbeat tm) s = .next t ∧
        (t.plink.get l).seqs.getD 8 0 = (s.plink.a.seqs.getD 8 0 + 1) % 2 ^ 32 ∧
        s.Fires t tm ∧ SameMemory s t) ∧
    (∀ tm, s.onGrid tm (1000000 * max 1 (s.get s.evrLane F.PLNK_HB_PERIOD_MS)) = false → ∃ t, exec (.heartbeat tm) s = .next t ∧
      OnlyRegs noRegs s t) ∧
    ((s.plink.get l).sending ≠ .idle → (s.plink.get l).resend = [] → ∃ t, exec (.recordTxDone l) s = .next t ∧
      (t.plink.get l).tx = ((s.plink.get l).tx + 1) % 2 ^ 32 ∧
      (∀ n, (s.plink.get l).sending = .queue n → n < 8 → (s.plink.get l).queues.length = 8 →
        ((t.plink.get l).queues.getD n ⟨[], 0, 0, 0⟩).recs = ((s.plink.get l).queues.getD n ⟨[], 0, 0, 0⟩).recs.tail) ∧
      OnlyRegs noRegs { s with plink := t.plink } t) ∧
    (∀ n, (s.plink.get l).sending = .queue n → ∃ t, exec (.txUnderrun l) s = .next t ∧ Latched t l 0x1502 ∧
      OnlyEvents noRegs s t) ∧
    ((s.plink.get l).sending = .idle → ∃ t, exec (.txUnderrun l) s = .next t ∧ OnlyRegs noRegs s t) ∧
    (∀ x rest, (s.plink.get l).store = x :: rest → ∃ t, exec (.retentionExpire l) s = .next t ∧
      s.RunsTo t (x.since + 60000000000) ∧
      (t.plink.get l).store = (x :: rest).filter (fun y => decide (t.up < y.since + 60000000000)) ∧ SameMemory s t) ∧
    ((s.plink.get l).store = [] → ∃ t, exec (.retentionExpire l) s = .next t ∧ OnlyRegs noRegs s t) ∧
    (∀ seq stream first count src, (1 ≤ stream → stream ≤ 8 → 1 ≤ count → count ≤ 65535 →
        s.resendWin.judge (seq % 2 ^ 32) = .fresh → ∃ t, exec (.resendReq l seq stream first count src) s = .next t ∧
          t.resendWin = s.resendWin.add (seq % 2 ^ 32) 0 ∧ SameMemory s t) ∧
      (stream = 0 ∨ 8 < stream ∨ count = 0 ∨ 65535 < count → ∃ t, exec (.resendReq l seq stream first count src) s = .next t ∧
        (t.plink.get l).rxFormat = satInc 0xFF (s.plink.get l).rxFormat ∧ OnlyEvents noRegs s t))) ∧
  (∀ (l : Lane) (v4 : Bool) (target body : List Nat) (s : State), s.pwr.on = true →
    (s.hears l = true → s.ownAddr l v4 target = true →
      (∃ t, exec (.icmpEchoRequestRx l v4 target body) s = .next t ∧ (t.plink.get l).netAnswer = body ∧
        OnlyRegs noRegs { s with plink := t.plink } t) ∧
      ∃ t, exec (.neighborDiscoveryRx l v4 target) s = .next t ∧ (t.plink.get l).netAnswer = s.macOf l ∧
        OnlyRegs noRegs { s with plink := t.plink } t) ∧
    (s.hears l = false ∨ s.ownAddr l v4 target = false →
      (∃ t, exec (.icmpEchoRequestRx l v4 target body) s = .next t ∧ OnlyRegs noRegs s t) ∧
      ∃ t, exec (.neighborDiscoveryRx l v4 target) s = .next t ∧ OnlyRegs noRegs s t)) ∧
  (∀ (r : Req) (s : State), s.hears1 r → s.get r.lane F.PLNK_STAT_LINK_UP = 1 → ∃ t, exec (.linkRst r) s = .next t ∧
    t.answer = (0, 0) ∧ t.get r.lane F.PLNK_STAT_LINK_UP = 0 ∧ Latched t r.lane 0x1402)) ∧
  ((∀ (r : Req) (s : State), s.hears1 r →
    (∀ mask, mask < 256 → ∃ t, exec (.flush r mask) s = .next t ∧ t.answer = (0, 0) ∧
      t.get r.lane F.QUE_STAT_FLUSH_BUSY = Nat.lor (s.get r.lane F.QUE_STAT_FLUSH_BUSY) mask ∧
      (∀ n, n < 8 → bitAt mask n = true → n ∈ (t.plink.get r.lane).flush) ∧
      OnlyRegs (laneReg r.lane F.QUE_STAT_FLUSH_BUSY) { s with plink := t.plink } t) ∧
    (∃ t, exec (.plnkRxdropRead r) s = .next t ∧ t.answer = (0, (s.plink.get r.lane).rxFormat * 2 ^ 24 +
        (s.plink.get r.lane).rxCrc * 2 ^ 16 + (s.plink.get r.lane).rxAddr * 2 ^ 8 + (s.plink.get r.lane).rxDup) ∧
      t.plink.get r.lane = { s.plink.get r.lane with rxFormat := 0, rxCrc := 0, rxAddr := 0, rxDup := 0 } ∧
      OnlyRegs noRegs { s with plink := t.plink } t) ∧
    (∀ n q, n < 8 → (s.plink.get r.lane).queues[n]? = some q → ∃ t, exec (.queCntRead r n) s = .next t ∧
      t.answer = (0, q.drop * 2 ^ 16 + q.discard * 2 ^ 4 + q.underrun) ∧
      (t.plink.get r.lane).queues[n]? = some { q with drop := 0, discard := 0, underrun := 0 } ∧
      OnlyRegs noRegs { s with plink := t.plink } t)) ∧
  (∀ (l : Lane) (n : Nat) (s : State), s.pwr.on = true → n < 8 →
    (n ∈ (s.plink.get l).flush → ∃ t, exec (.flushEffect l n) s = .next t ∧ Latched t l 0x1503 ∧
      n ∉ (t.plink.get l).flush ∧ (n ≠ 3 → (s.plink.get l).queues.length = 8 →
        ((t.plink.get l).queues.getD n ⟨[], 0, 0, 0⟩).recs = (if (s.plink.get l).sending = .queue n then
          ((s.plink.get l).queues.getD n ⟨[], 0, 0, 0⟩).recs.take 1 else [])) ∧
      bitAt (t.get l F.QUE_STAT_FLUSH_BUSY) n = false ∧ OnlyEvents (laneReg l F.QUE_STAT_FLUSH_BUSY) s t) ∧
    (n ∉ (s.plink.get l).flush → ∃ t, exec (.flushEffect l n) s = .next t ∧ OnlyRegs noRegs s t)) ∧
  (∀ s : State, s.pwr.on = true →
    (s.exporter.batch = [] → ∃ t, exec .eventBatchSend s = .next t ∧ OnlyRegs noRegs s t) ∧
    (s.exporter.batch ≠ [] → ∃ t, exec .eventBatchSend s = .next t ∧ OnlyEvents noRegs (s.later t) t ∧
      s.RunsTo t (s.exporter.since + 1000 * s.get s.evrLane F.PLNK_EVT_BATCH_US)) ∧
    (s.exporter.batch ≠ [] → (∀ l, s.active l = true → s.get l F.PLNK_STAT_LINK_UP = 1 ∧ s.get l F.PLNK_RET_SIZE_SIZE = 0 ∧
        (s.plink.get l).queues.length = 8 ∧ ((s.plink.get l).queues.getD 3 ⟨[], 0, 0, 0⟩).bytes + 36 +
          (s.exporter.batch.flatMap evBytes).length ≤ s.queueCap l 3) →
      ∃ t, exec .eventBatchSend s = .next t ∧ t.exporter = { s.exporter with batch := [], waits := false } ∧
        ∀ l, s.active l = true → ((t.plink.get l).queues.getD 3 ⟨[], 0, 0, 0⟩).recs =
          ((s.plink.get l).queues.getD 3 ⟨[], 0, 0, 0⟩).recs ++ [⟨0x04, 0x05, s.exporter.epoch,
            (s.plink.get l).seqs.getD 4 0, [s.exporter.batch.length, 0, 0, 0] ++ s.exporter.batch.flatMap evBytes⟩])))

/-- The record intake and the requests: an accepted ORDER goes to the orders, a record with a bad header is counted as
FORMAT, one with a bad CRC as CRC; a new request of the REG stream is executed and kept, so that its sequence is never new
again, and one outside the window changes nothing but the counts; a service request with a bad CRC answers 0x07 and with a bad
form 0x04 for every word, and executes nothing (R414, R416, R417, R461). -/
def Obligations.RecordRequests : Prop :=
  (∀ (port : Lane) (v4 : Bool) (src b : List Nat) (s : State), s.pwr.on = true → s.hears port = true →
    (v4 = false ∨ s.get port F.PLNK_CFG_IP4 = 1) →
    (s.intakeDrop port true v4 src (b.map (· % 256)) = none → (b.map (· % 256)).getD 4 0 = 0x05 →
      ∃ t, exec (.hppRecordIntake port true v4 src b) s = .next t ∧
        exec (.order port (leAt (b.map (· % 256)) 24 4) ((b.map (· % 256)).drop 32) (src.drop (src.length - 4))) s = .next t) ∧
    (s.intakeDrop port true v4 src (b.map (· % 256)) = some 1 → ∃ t, exec (.hppRecordIntake port true v4 src b) s = .next t ∧
      (t.plink.get port).rxFormat = satInc 0xFF (s.plink.get port).rxFormat ∧ OnlyEvents noRegs s t) ∧
    (s.intakeDrop port true v4 src (b.map (· % 256)) = some 2 → ∃ t, exec (.hppRecordIntake port true v4 src b) s = .next t ∧
      (t.plink.get port).rxCrc = satInc 0xFF (s.plink.get port).rxCrc ∧ OnlyEvents noRegs s t)) ∧
  (∀ (port lane : Lane) (seq addr count : Nat) (ws : List Word) (src : List Nat) (s : State), s.pwr.on = true →
    seq < 2 ^ 32 →
    (s.regWin.judge seq = .fresh →
      (∃ t, exec (.regRead port lane seq addr count src) s = .next t ∧ t.regWin.judge seq ≠ .fresh) ∧
      (∃ t, exec (.regWrite port lane seq addr count ws src) s = .next t ∧ t.regWin.judge seq ≠ .fresh)) ∧
    (s.regWin.judge seq = .stale →
      (∃ t, exec (.regRead port lane seq addr count src) s = .next t ∧ OnlyEvents noRegs s t) ∧
      (∃ t, exec (.regWrite port lane seq addr count ws src) s = .next t ∧ OnlyEvents noRegs s t)) ∧
    (s.pwr.service = true → ∀ form,
      (∃ t, exec (.serviceRegRead lane seq addr count false form) s = .next t ∧ OnlyRegs noRegs { s with pwr := { s.pwr with
        bulkIn := refuseAll seq 8 (addr % 2 ^ 32) (count % 2 ^ 16) 0x07 } } t) ∧
      (∃ t, exec (.serviceRegWrite lane seq addr count ws true false) s = .next t ∧ OnlyRegs noRegs { s with pwr := { s.pwr with
        bulkIn := refuseAll seq 9 (addr % 2 ^ 32) (count % 2 ^ 16) 0x04 } } t)) ∧
    (s.pwr.service = true → reqOk (addr % 2 ^ 32) (count % 2 ^ 16) = true →
      (∃ t, exec (.serviceRegRead lane seq addr count true true) s = .next t ∧
        t.pwr.bulkIn = (serveRead s ⟨lane, .service⟩ seq (addr % 2 ^ 32) (count % 2 ^ 16)).1 ∧ t.answer = s.answer) ∧
      (∃ t, exec (.serviceRegWrite lane seq addr count ws true true) s = .next t ∧
        t.pwr.bulkIn = (serveWrite s ⟨lane, .service⟩ seq (addr % 2 ^ 32) (count % 2 ^ 16) ws).1 ∧ t.answer = s.answer)) ∧
    (s.pwr.service = false →
      (∃ t, exec (.serviceRegRead lane seq addr count true true) s = .next t ∧ OnlyRegs noRegs s t) ∧
      (∃ t, exec (.serviceRegWrite lane seq addr count ws true true) s = .next t ∧ OnlyRegs noRegs s t)))

/-! ### The interrupt controller and the recorder -/

/-- Delivery: a claim by the target's core answers the best deliverable slot and puts it into service, and answers 0 to
anybody else; EOI ends the service of a slot that the target serves, and is refused with 0x04 where none is in service; a
pending slot's moderation and a group's hold-off end; a slot that waits for a sleeping target moves to FB once, with 0x1601;
a core sleeps and wakes; GDIS and the masks are taken as written; ICU_STAT clears RESTORED and ICU_UNMATCHED clears as they
are read (R431 to R438, R440). The recorder: the repeats of the last record go back to NV, but not under PWR_BO; the end of a
hold changes nothing while another holds, and raises 0x1704 where raisings were lost; EVR_CLEAR needs presence and starts a
clear, whose end leaves a recorder that names the index before, in record 0 and with 0x1702, and is put off by PWR_BO (R443,
R444, R448). -/
def Obligations.InterruptsAndRecorder : Prop :=
  ((∀ (r : Req) (tg : Nat) (s : State), s.hears1 r → tg < 4 →
    (∀ k x late, coreOf r.path = some tg → bestOffer (s.icuOffers r.lane tg) = some (k, x, late) →
      ∃ t, exec (.icuClaim r tg) s = .next t ∧ t.answer = (0, x.count * 2 ^ 24 + x.last * 2 ^ 8 + k) ∧
        ((t.icu.get r.lane).slot k).insvc = true ∧ ((t.icu.get r.lane).slot k).pend = false ∧
        ((t.icu.get r.lane).slot k).server = tg ∧ (t.icu.get r.lane).deliv = ((s.icu.get r.lane).deliv + 1) % 2 ^ 16 ∧
        OnlyRegs (laneReg r.lane ⟨Pg.ICU, 0x10C + 0x10 * tg, 31, 0⟩) { s with icu := t.icu } t) ∧
    (coreOf r.path ≠ some tg → ∃ t, exec (.icuClaim r tg) s = .next t ∧ t.answer = (0, 0) ∧ OnlyRegs noRegs s t) ∧
    (∀ k, k < 256 → (((s.icu.get r.lane).slot k).insvc = true → ((s.icu.get r.lane).slot k).server = tg →
        ∃ t, exec (.icuEoi r tg k) s = .next t ∧ t.answer = (0, 0) ∧ ((t.icu.get r.lane).slot k).insvc = false ∧
          OnlyRegs noRegs { s with icu := t.icu } t) ∧
      (((s.icu.get r.lane).slot k).insvc = false → ∃ t, exec (.icuEoi r tg k) s = .next t ∧ t.answer = (0x04, 0) ∧
        OnlyRegs (laneReg r.lane ⟨Pg.ICU, 0x020, 31, 0⟩) s t)) ∧
    (∃ t, exec (.icuStatRead r) s = .next t ∧ t.answer = (0, (icuStatRead s r.lane).1) ∧ (t.icu.get r.lane).restored = false ∧
      OnlyRegs noRegs { s with icu := t.icu } t) ∧
    (∃ t, exec (.icuUnmatchedRead r) s = .next t ∧ t.answer = (0, (s.icu.get r.lane).lostLull * 2 ^ 24 +
        (s.icu.get r.lane).lost * 2 ^ 16 + (s.icu.get r.lane).unmatched) ∧
      t.icu.get r.lane = { s.icu.get r.lane with unmatched := 0, lost := 0, lostLull := 0 } ∧
      OnlyRegs noRegs { s with icu := t.icu } t)) ∧
  (∀ (r : Req) (v : Word) (s : State), s.hears1 r →
    (bitAt v.toNat 3 = true → ∃ t, exec (.icuGdisWrite r v) s = .next t ∧ t.answer = (0, 0) ∧
      t.get r.lane F.ICU_GDIS_DIS = getBits v 3 0 ∧ OnlyRegs (laneReg r.lane F.ICU_GDIS_DIS) { s with icu := t.icu } t) ∧
    (bitAt v.toNat 3 = false → ∃ t, exec (.icuGdisWrite r v) s = .next t ∧ t.answer = (0, 0) ∧
      t.get r.lane F.ICU_GDIS_DIS = getBits v 3 0 ∧ OnlyEvents (laneReg r.lane F.ICU_GDIS_DIS) s t) ∧
    (∀ n, n < 8 → ∃ t, exec (.icuMaskWrite r n v) s = .next t ∧ t.answer = (0, 0) ∧ t.rd r.lane Pg.ICU (0x0E0 + 4 * n) = v ∧
      OnlyRegs (laneReg r.lane ⟨Pg.ICU, 0x0E0 + 4 * n, 31, 0⟩) { s with icu := t.icu } t)) ∧
  (∀ (l : Lane) (k : Nat) (s : State), s.pwr.on = true →
    (k < 256 →
      (((s.icu.get l).slot k).pend = true → ((s.icu.get l).slot k).timeUs ≠ 0 → ∃ t, exec (.icuModTimeout l k) s = .next t ∧
        ((t.icu.get l).slot k).timed = true ∧ s.RunsTo t (((s.icu.get l).slot k).firstAt + 1000 * ((s.icu.get l).slot k).timeUs) ∧
        OnlyRegs noRegs (({ s with icu := t.icu } : State).later t) t) ∧
      (((s.icu.get l).slot k).pend = false ∨ ((s.icu.get l).slot k).timeUs = 0 → ∃ t, exec (.icuModTimeout l k) s = .next t ∧
        OnlyRegs noRegs s t) ∧
      (∀ x, ((s.icu.get l).slot k).moved = false → ((s.icu.get l).slot k).fb ≠ ((s.icu.get l).slot k).target →
        ((s.icu.get l).slot k).waitAt = some x → ∃ t, exec (.icuRerouteTimeout l k) s = .next t ∧ Latched t l 0x1601 ∧
          (((s.icu.get l).slot k).fb ≠ 3 → ((t.icu.get l).slot k).moved = true) ∧ s.RunsTo t (x + 1000 * s.get l F.ICU_REROUTE_TO_TO_US) ∧ OnlyEvents noRegs (s.later t) t) ∧
      (((s.icu.get l).slot k).waitAt = none → ∃ t, exec (.icuRerouteTimeout l k) s = .next t ∧ OnlyRegs noRegs s t)) ∧
    (k < 16 →
      (∀ x, (s.icu.get l).holding.find? (·.1 == k) = some x → ∃ t, exec (.icuHoldoffEnd l k) s = .next t ∧
        (∀ y ∈ (t.icu.get l).holding, y.1 ≠ k) ∧ s.RunsTo t (x.2 + 1000 * s.get l (F.ICU_HOLD_g_HOLD_US k)) ∧
        OnlyRegs noRegs (({ s with icu := t.icu } : State).later t) t) ∧
      ((∀ y ∈ (s.icu.get l).holding, y.1 ≠ k) → ∃ t, exec (.icuHoldoffEnd l k) s = .next t ∧ OnlyRegs noRegs s t)) ∧
    (k < 3 → (∀ x ∈ (s.icu.get l).slots, x.2.wake = false) → ∃ t, exec (.icuTargetSleep l k) s = .next t ∧
      k ∈ (t.icu.get l).sleep ∧ OnlyRegs noRegs { s with icu := t.icu } t) ∧
    (∃ t, exec (.icuTargetWake l k) s = .next t ∧ k ∉ (t.icu.get l).sleep ∧ OnlyRegs noRegs { s with icu := t.icu } t))) ∧
  ((∀ s : State, s.pwr.on = true →
    (∀ k e, s.bo = false → s.recorder.dirty = true → s.recorder.last = some (k, e) → s.nv.gone = false →
      ∃ t, exec .evrRepeatWriteback s = .next t ∧ t.recorder = { s.recorder with dirty := false, backAt := t.up } ∧
        s.RunsTo t (s.recorder.backAt + 100000000) ∧
        (⟨32 * k, k, .event e, 0⟩ : NvUnit) ∈ t.nv.busy.toList ++ t.nv.queue ∧ OnlyEvents noRegs (s.later t) t) ∧
    (s.bo = true → ∃ t, exec .evrRepeatWriteback s = .next t ∧ OnlyRegs noRegs s t) ∧
    (s.recHolds = true → ∃ t, exec .evrHoldEnd s = .next t ∧ OnlyRegs noRegs s t) ∧
    (∃ t, exec .evrHoldEnd s = .next t ∧ OnlyEvents noRegs s t) ∧
    (s.recHolds = false → s.recorder.held = [] → s.recorder.overflow = true → ∃ t, exec .evrHoldEnd s = .next t ∧
      ∀ l, Latched t l 0x1704) ∧
    (∀ n, s.recorder.clearing = some n → s.bo = false → s.recWiping = false → ∃ t, exec .evrClearDone s = .next t ∧
      t.recorder.clearing = none ∧ (∀ l, Latched t l 0x1702) ∧ SameMemory s t ∧
      (s.nv.gone = false → ∃ u ∈ t.nv.busy.toList ++ t.nv.queue, ∃ e, u.off = 0 ∧ u.body = .event e ∧ e.code = 0x1702 ∧
        e.data = leBytes 4 n)) ∧
    (s.bo = true ∨ s.recWiping = true → ∃ t, exec .evrClearDone s = .next t ∧ OnlyRegs noRegs s t)) ∧
  (∀ (r : Req) (s : State), s.hears1 r → s.recorder.clearing = none → s.bo = false → s.nv.gone = false →
    (s.noPresence r = false → ∃ t, exec (.evrClear r) s = .next t ∧ t.answer = (0, 0) ∧
      (⟨0, 0, .wipe 3, 1023⟩ : NvUnit) ∈ t.nv.busy.toList ++ t.nv.queue ∧ OnlyEvents noRegs { s with
        recorder := { s.recorder with clearing := some s.recorder.index } } t) ∧
    (s.noPresence r = true → ∃ t, exec (.evrClear r) s = .next t ∧ t.answer = (0x03, 0) ∧
      OnlyRegs (laneReg r.lane ⟨Pg.EVR, 0x020, 31, 0⟩) s t)))

/-! ### Update -/

/-- Staging: START from the service port, with no condition of R465 holding, empties its target and starts a staging; from
another path it is refused with 0x02; ABORT ends a running one, with 0x1903; data is kept up to LEN_KIB; the end of an
image staging completes the inactive slot, with 0x1901, or empties it, with 0x1903; the service port enumerates where a
lane serves it, but not in LULL and SHUTDOWN (R457, R465). Activation, the owner lock and the rollback counter: ACT 1
with a complete slot names it in the boot record, with 0x1902; with no complete slot it is refused with 0x0B; without
presence with 0x03; SET and CLR start a commit with the lock as it is to be; the rollback counter rises to the booted
image's ROLLBACK with 0x1906, with J1 removed and presence, and with J1 fitted the refusal is told with 0x1805 (R86,
R458, R464, R466). -/
def Obligations.UpdateOfImages : Prop :=
  ((∀ (r : Req) (v : Word) (s : State), s.hears1 r →
    (r.path = .service → s.stageCond = none → s.inRecovery = false → s.flash.staging = none → s.flash.acting = none →
      stageLenBad (setBits v 31 31 1) = false → getBits v 30 30 = 0 →
      (∀ c ∈ regChecks s r false Pg.UPD 0x050 (setBits v 31 31 1), c.2 = false) → ∃ t, exec (.updStageStart r v) s = .next t ∧
        t.answer = (0, 0) ∧ t.flash.staging = some (getBits v 29 29, r.lane, []) ∧
        (getBits v 29 29 = 0 → ∀ k, t.flash.slot k s.flash.idle = ⟨1, none, 0, 0, []⟩ ∧
          (t.flash.lane.get k).package = (s.flash.lane.get k).package) ∧
        (getBits v 29 29 = 1 → ∀ k, (t.flash.lane.get k).package = none ∧
          (t.flash.lane.get k).slots = (s.flash.lane.get k).slots) ∧
        OnlyRegs (laneReg r.lane F.UPD_STAGE_START) { s with flash := t.flash, lockT := t.lockT } t) ∧
    (r.path ≠ .service → ∃ t, exec (.updStageStart r v) s = .next t ∧ t.answer = (0x02, 0) ∧
      OnlyRegs (laneReg r.lane ⟨Pg.UPD, 0x020, 31, 0⟩) s t) ∧
    (∀ x, r.path = .service → s.flash.staging = some x → s.get r.lane F.UPD_STAGE_START = 0 →
      (∀ c ∈ regChecks s r false Pg.UPD 0x050 (setBits (s.rd r.lane Pg.UPD 0x050) 30 30 1), c.2 = false) →
      ∃ t, exec (.updStageAbort (some r)) s = .next t ∧ t.answer = (0, 0) ∧ t.flash.staging = none ∧ ∀ k, Latched t k 0x1903) ∧
    (r.path ≠ .service → ∃ t, exec (.updStageAbort (some r)) s = .next t ∧ t.answer = (0x02, 0) ∧
      OnlyRegs (laneReg r.lane ⟨Pg.UPD, 0x020, 31, 0⟩) s t)) ∧
  (∀ (kind : Nat) (l : Lane) (bs : List Nat) (s : State), s.pwr.on = true → s.flash.staging = some (kind, l, bs) →
    (∀ c, s.stageCond = some c → ∃ t, exec (.updStageAbort none) s = .next t ∧ t.flash.staging = none ∧ (∀ k, Latched t k 0x1903) ∧
      OnlyEvents noRegs { s with flash := t.flash } t) ∧
    (s.stageCond = none → ∃ t, exec (.updStageAbort none) s = .next t ∧ OnlyRegs noRegs s t) ∧
    (s.stageCond = none → s.pwr.service = true → ∀ data, ∃ t, exec (.stagingData data) s = .next t ∧ OnlyRegs noRegs { s with
      flash := { s.flash with staging := some (kind, l,
        bs ++ (data.take (1024 * s.get l F.UPD_STAGE_LEN_KIB - bs.length)).map (· % 256)) } } t) ∧
    (s.stageCond = none → kind = 0 →
      (crc32c bs = s.get l F.UPD_STAGE_CRC_CRC → ∃ t, exec (.stagingComplete true true) s = .next t ∧ t.flash.staging = none ∧
        ∀ k, t.flash.slot k s.flash.idle = ⟨2, some bs, imgBuild bs, imgRollback bs, imgHash bs⟩ ∧ Latched t k 0x1901) ∧
      (∃ t, exec (.stagingComplete false true) s = .next t ∧ t.flash.staging = none ∧
        ∀ k, t.flash.slot k s.flash.idle = Slot.empty ∧ Latched t k 0x1903))) ∧
  (∀ s : State, s.pwr.on = true → s.flash.staging = none → ∀ data, ∃ t, exec (.stagingData data) s = .next t ∧ OnlyRegs noRegs s t) ∧
  (∀ s : State, s.pwr.on = true →
    (s.served = true → s.bo = false → s.g F.PWR_STAT_INPUT_OPEN = 0 → s.mode ≠ St.LULL → s.mode ≠ St.SHUTDOWN →
      ∃ t, exec .servicePortAttach s = .next t ∧
      OnlyRegs noRegs { s with pwr := { s.pwr with service := true } } t) ∧
    (s.served = false ∨ s.bo = true ∨ s.mode = St.LULL ∨ s.mode = St.SHUTDOWN → ∃ t, exec .servicePortAttach s = .next t ∧ OnlyRegs noRegs s t))) ∧
  (∀ (r : Req) (v : Word) (s : State), s.hears1 r →
    (s.noPresence r = false → s.inRecovery = false → s.stageCond = none → s.flash.staging = none → s.flash.acting = none →
      getBits v 1 0 = 1 →
      ((∀ k, (s.flash.slot k s.flash.idle).st = 2) → ∃ t, exec (.updAct r v) s = .next t ∧ t.answer = (0, 0) ∧
        t.flash.acting = some 1 ∧ t.flash.rollback = s.flash.rollback ∧
        (∀ k, (t.flash.lane.get k).active = s.flash.idle ∧ (t.flash.lane.get k).slots = (s.flash.lane.get k).slots ∧
          Latched t k 0x1902) ∧ OnlyEvents noRegs { s with flash := t.flash } t) ∧
      (∀ k, (s.flash.slot k s.flash.idle).st ≠ 2 → ∃ t, exec (.updAct r v) s = .next t ∧ t.answer = (0x0B, 0) ∧
        OnlyRegs (laneReg r.lane ⟨Pg.UPD, 0x020, 31, 0⟩) s t)) ∧
    (s.noPresence r = true → s.inRecovery = false → getBits v 1 0 = 1 → ∃ t, exec (.updAct r v) s = .next t ∧ t.answer = (0x03, 0) ∧
      OnlyRegs (laneReg r.lane ⟨Pg.UPD, 0x020, 31, 0⟩) s t) ∧
    (s.nv.gone = false → s.noPresence r = false → s.nv.commit = none → s.bo = false →
      (∀ x ∈ ([(.ownerSet r, true), (.ownerClr r, false)] : List (Instr × Bool)), ∃ t, exec x.1 s = .next t ∧ t.answer = (0, 0) ∧
        t.nv.commit = some (1 - s.nv.cfgSlot) ∧ (⟨cfgOff (1 - s.nv.cfgSlot), s.nv.cfgSeq + 1,
          .config s.cfgWords s.cfgProg x.2 true, 127⟩ : NvUnit) ∈ t.nv.busy.toList ++ t.nv.queue ∧
        t.g F.SYS_STATE_OWNER_LOCK = s.g F.SYS_STATE_OWNER_LOCK ∧ SameMemory s t)) ∧
    (s.nv.gone = false → s.noPresence r = false → s.nv.j1 = false → s.inRecovery = false →
      s.flash.rollback ≤ (s.flash.slot .a s.flash.booted).rollback → ∃ t, exec (.rbCommit r) s = .next t ∧ t.answer = (0, 0) ∧
        t.flash = { s.flash with rollback := (s.flash.slot .a s.flash.booted).rollback } ∧ (∀ k, Latched t k 0x1906) ∧
        OnlyEvents noRegs { s with flash := t.flash } t) ∧
    (s.nv.gone = false → s.noPresence r = false → s.nv.j1 = true → ∃ t, exec (.rbCommit r) s = .next t ∧ t.answer = (0x02, 0) ∧
      (∀ k, Latched t k 0x1805) ∧ OnlyEvents (laneReg r.lane ⟨Pg.UPD, 0x020, 31, 0⟩) s t))
end

