-- ==== Sys2Proof/Laws/State.lean ====
section
/-! SUPPORT. What each update of the state leaves alone: one lemma per field and update. -/

namespace Sys2Proof.Machine

open Sys2Proof

variable (s : State)

/-! ### The writes of a shared register and of saturating or wrapping counters are register writes -/

@[simp] theorem State.p_put (f : Fld) (v : Nat) : s.p f v = s.put .a f v := rfl
@[simp] theorem State.g_get (f : Fld) : s.g f = s.get .a f := rfl
@[simp] theorem State.put2_put (f : Fld) (v : Nat) : s.put2 f v = (s.put .a f v).put .b f v := rfl
@[simp] theorem State.bump_put (l : Lane) (f : Fld) : s.bump l f = s.put l f (s.get l f + 1) := rfl
@[simp] theorem State.bumpSat_put (l : Lane) (f : Fld) :
    s.bumpSat l f = s.put l f (satInc (2 ^ (f.hi + 1 - f.lo) - 1) (s.get l f)) := rfl

/-! ### wr -/

@[simp] theorem State.wr_shadow (l : Lane) (p o : Nat) (w : Word) : (s.wr l p o w).shadow = s.shadow := rfl
@[simp] theorem State.wr_staged (l : Lane) (p o : Nat) (w : Word) : (s.wr l p o w).staged = s.staged := rfl
@[simp] theorem State.wr_lockT (l : Lane) (p o : Nat) (w : Word) : (s.wr l p o w).lockT = s.lockT := rfl
@[simp] theorem State.wr_marks (l : Lane) (p o : Nat) (w : Word) : (s.wr l p o w).marks = s.marks := rfl
@[simp] theorem State.wr_up (l : Lane) (p o : Nat) (w : Word) : (s.wr l p o w).up = s.up := rfl
@[simp] theorem State.wr_free (l : Lane) (p o : Nat) (w : Word) : (s.wr l p o w).free = s.free := rfl
@[simp] theorem State.wr_recorder (l : Lane) (p o : Nat) (w : Word) : (s.wr l p o w).recorder = s.recorder := rfl
@[simp] theorem State.wr_exporter (l : Lane) (p o : Nat) (w : Word) : (s.wr l p o w).exporter = s.exporter := rfl
@[simp] theorem State.wr_icu (l : Lane) (p o : Nat) (w : Word) : (s.wr l p o w).icu = s.icu := rfl
@[simp] theorem State.wr_plink (l : Lane) (p o : Nat) (w : Word) : (s.wr l p o w).plink = s.plink := rfl
@[simp] theorem State.wr_regWin (l : Lane) (p o : Nat) (w : Word) : (s.wr l p o w).regWin = s.regWin := rfl
@[simp] theorem State.wr_resendWin (l : Lane) (p o : Nat) (w : Word) : (s.wr l p o w).resendWin = s.resendWin := rfl
@[simp] theorem State.wr_nv (l : Lane) (p o : Nat) (w : Word) : (s.wr l p o w).nv = s.nv := rfl
@[simp] theorem State.wr_answer (l : Lane) (p o : Nat) (w : Word) : (s.wr l p o w).answer = s.answer := rfl
@[simp] theorem State.wr_resetting (l : Lane) (p o : Nat) (w : Word) : (s.wr l p o w).resetting = s.resetting := rfl
@[simp] theorem State.wr_sampleEpoch (l : Lane) (p o : Nat) (w : Word) : (s.wr l p o w).sampleEpoch = s.sampleEpoch := rfl
@[simp] theorem State.wr_clock (l : Lane) (p o : Nat) (w : Word) : (s.wr l p o w).clock = s.clock := rfl
@[simp] theorem State.wr_front (l : Lane) (p o : Nat) (w : Word) : (s.wr l p o w).front = s.front := rfl
@[simp] theorem State.wr_forming (l : Lane) (p o : Nat) (w : Word) : (s.wr l p o w).forming = s.forming := rfl
@[simp] theorem State.wr_late (l : Lane) (p o : Nat) (w : Word) : (s.wr l p o w).late = s.late := rfl
@[simp] theorem State.wr_snap (l : Lane) (p o : Nat) (w : Word) : (s.wr l p o w).snap = s.snap := rfl
@[simp] theorem State.wr_skipRun (l : Lane) (p o : Nat) (w : Word) : (s.wr l p o w).skipRun = s.skipRun := rfl
@[simp] theorem State.wr_dramShut (l : Lane) (p o : Nat) (w : Word) : (s.wr l p o w).dramShut = s.dramShut := rfl
@[simp] theorem State.wr_dram (l : Lane) (p o : Nat) (w : Word) : (s.wr l p o w).dram = s.dram := rfl
@[simp] theorem State.wr_sram (l : Lane) (p o : Nat) (w : Word) : (s.wr l p o w).sram = s.sram := rfl
@[simp] theorem State.wr_still (l : Lane) (p o : Nat) (w : Word) : (s.wr l p o w).still = s.still := rfl
@[simp] theorem State.wr_chain (l : Lane) (p o : Nat) (w : Word) : (s.wr l p o w).chain = s.chain := rfl
@[simp] theorem State.wr_mons (l : Lane) (p o : Nat) (w : Word) : (s.wr l p o w).mons = s.mons := rfl
@[simp] theorem State.wr_eis (l : Lane) (p o : Nat) (w : Word) : (s.wr l p o w).eis = s.eis := rfl
@[simp] theorem State.wr_cdt (l : Lane) (p o : Nat) (w : Word) : (s.wr l p o w).cdt = s.cdt := rfl
@[simp] theorem State.wr_est (l : Lane) (p o : Nat) (w : Word) : (s.wr l p o w).est = s.est := rfl
@[simp] theorem State.wr_bal (l : Lane) (p o : Nat) (w : Word) : (s.wr l p o w).bal = s.bal := rfl
@[simp] theorem State.wr_prot (l : Lane) (p o : Nat) (w : Word) : (s.wr l p o w).prot = s.prot := rfl
@[simp] theorem State.wr_safe (l : Lane) (p o : Nat) (w : Word) : (s.wr l p o w).safe = s.safe := rfl
@[simp] theorem State.wr_cle (l : Lane) (p o : Nat) (w : Word) : (s.wr l p o w).cle = s.cle := rfl
@[simp] theorem State.wr_link (l : Lane) (p o : Nat) (w : Word) : (s.wr l p o w).link = s.link := rfl
@[simp] theorem State.wr_orders (l : Lane) (p o : Nat) (w : Word) : (s.wr l p o w).orders = s.orders := rfl
@[simp] theorem State.wr_tally (l : Lane) (p o : Nat) (w : Word) : (s.wr l p o w).tally = s.tally := rfl
@[simp] theorem State.wr_lane (l : Lane) (p o : Nat) (w : Word) : (s.wr l p o w).lane = s.lane := rfl
@[simp] theorem State.wr_cbus (l : Lane) (p o : Nat) (w : Word) : (s.wr l p o w).cbus = s.cbus := rfl
@[simp] theorem State.wr_pwr (l : Lane) (p o : Nat) (w : Word) : (s.wr l p o w).pwr = s.pwr := rfl
@[simp] theorem State.wr_flash (l : Lane) (p o : Nat) (w : Word) : (s.wr l p o w).flash = s.flash := rfl
@[simp] theorem State.wr_pending (l : Lane) (p o : Nat) (w : Word) : (s.wr l p o w).pending = s.pending := rfl

/-! ### put -/

@[simp] theorem State.put_shadow (l : Lane) (f : Fld) (v : Nat) : (s.put l f v).shadow = s.shadow := rfl
@[simp] theorem State.put_staged (l : Lane) (f : Fld) (v : Nat) : (s.put l f v).staged = s.staged := rfl
@[simp] theorem State.put_lockT (l : Lane) (f : Fld) (v : Nat) : (s.put l f v).lockT = s.lockT := rfl
@[simp] theorem State.put_marks (l : Lane) (f : Fld) (v : Nat) : (s.put l f v).marks = s.marks := rfl
@[simp] theorem State.put_up (l : Lane) (f : Fld) (v : Nat) : (s.put l f v).up = s.up := rfl
@[simp] theorem State.put_free (l : Lane) (f : Fld) (v : Nat) : (s.put l f v).free = s.free := rfl
@[simp] theorem State.put_recorder (l : Lane) (f : Fld) (v : Nat) : (s.put l f v).recorder = s.recorder := rfl
@[simp] theorem State.put_exporter (l : Lane) (f : Fld) (v : Nat) : (s.put l f v).exporter = s.exporter := rfl
@[simp] theorem State.put_icu (l : Lane) (f : Fld) (v : Nat) : (s.put l f v).icu = s.icu := rfl
@[simp] theorem State.put_plink (l : Lane) (f : Fld) (v : Nat) : (s.put l f v).plink = s.plink := rfl
@[simp] theorem State.put_regWin (l : Lane) (f : Fld) (v : Nat) : (s.put l f v).regWin = s.regWin := rfl
@[simp] theorem State.put_resendWin (l : Lane) (f : Fld) (v : Nat) : (s.put l f v).resendWin = s.resendWin := rfl
@[simp] theorem State.put_nv (l : Lane) (f : Fld) (v : Nat) : (s.put l f v).nv = s.nv := rfl
@[simp] theorem State.put_answer (l : Lane) (f : Fld) (v : Nat) : (s.put l f v).answer = s.answer := rfl
@[simp] theorem State.put_resetting (l : Lane) (f : Fld) (v : Nat) : (s.put l f v).resetting = s.resetting := rfl
@[simp] theorem State.put_sampleEpoch (l : Lane) (f : Fld) (v : Nat) : (s.put l f v).sampleEpoch = s.sampleEpoch := rfl
@[simp] theorem State.put_clock (l : Lane) (f : Fld) (v : Nat) : (s.put l f v).clock = s.clock := rfl
@[simp] theorem State.put_front (l : Lane) (f : Fld) (v : Nat) : (s.put l f v).front = s.front := rfl
@[simp] theorem State.put_forming (l : Lane) (f : Fld) (v : Nat) : (s.put l f v).forming = s.forming := rfl
@[simp] theorem State.put_late (l : Lane) (f : Fld) (v : Nat) : (s.put l f v).late = s.late := rfl
@[simp] theorem State.put_snap (l : Lane) (f : Fld) (v : Nat) : (s.put l f v).snap = s.snap := rfl
@[simp] theorem State.put_skipRun (l : Lane) (f : Fld) (v : Nat) : (s.put l f v).skipRun = s.skipRun := rfl
@[simp] theorem State.put_dramShut (l : Lane) (f : Fld) (v : Nat) : (s.put l f v).dramShut = s.dramShut := rfl
@[simp] theorem State.put_dram (l : Lane) (f : Fld) (v : Nat) : (s.put l f v).dram = s.dram := rfl
@[simp] theorem State.put_sram (l : Lane) (f : Fld) (v : Nat) : (s.put l f v).sram = s.sram := rfl
@[simp] theorem State.put_still (l : Lane) (f : Fld) (v : Nat) : (s.put l f v).still = s.still := rfl
@[simp] theorem State.put_chain (l : Lane) (f : Fld) (v : Nat) : (s.put l f v).chain = s.chain := rfl
@[simp] theorem State.put_mons (l : Lane) (f : Fld) (v : Nat) : (s.put l f v).mons = s.mons := rfl
@[simp] theorem State.put_eis (l : Lane) (f : Fld) (v : Nat) : (s.put l f v).eis = s.eis := rfl
@[simp] theorem State.put_cdt (l : Lane) (f : Fld) (v : Nat) : (s.put l f v).cdt = s.cdt := rfl
@[simp] theorem State.put_est (l : Lane) (f : Fld) (v : Nat) : (s.put l f v).est = s.est := rfl
@[simp] theorem State.put_bal (l : Lane) (f : Fld) (v : Nat) : (s.put l f v).bal = s.bal := rfl
@[simp] theorem State.put_prot (l : Lane) (f : Fld) (v : Nat) : (s.put l f v).prot = s.prot := rfl
@[simp] theorem State.put_safe (l : Lane) (f : Fld) (v : Nat) : (s.put l f v).safe = s.safe := rfl
@[simp] theorem State.put_cle (l : Lane) (f : Fld) (v : Nat) : (s.put l f v).cle = s.cle := rfl
@[simp] theorem State.put_link (l : Lane) (f : Fld) (v : Nat) : (s.put l f v).link = s.link := rfl
@[simp] theorem State.put_orders (l : Lane) (f : Fld) (v : Nat) : (s.put l f v).orders = s.orders := rfl
@[simp] theorem State.put_tally (l : Lane) (f : Fld) (v : Nat) : (s.put l f v).tally = s.tally := rfl
@[simp] theorem State.put_lane (l : Lane) (f : Fld) (v : Nat) : (s.put l f v).lane = s.lane := rfl
@[simp] theorem State.put_cbus (l : Lane) (f : Fld) (v : Nat) : (s.put l f v).cbus = s.cbus := rfl
@[simp] theorem State.put_pwr (l : Lane) (f : Fld) (v : Nat) : (s.put l f v).pwr = s.pwr := rfl
@[simp] theorem State.put_flash (l : Lane) (f : Fld) (v : Nat) : (s.put l f v).flash = s.flash := rfl
@[simp] theorem State.put_pending (l : Lane) (f : Fld) (v : Nat) : (s.put l f v).pending = s.pending := rfl

/-! ### put64 -/

@[simp] theorem State.put64_shadow (l : Lane) (f : Fld) (v : Nat) : (s.put64 l f v).shadow = s.shadow := rfl
@[simp] theorem State.put64_staged (l : Lane) (f : Fld) (v : Nat) : (s.put64 l f v).staged = s.staged := rfl
@[simp] theorem State.put64_lockT (l : Lane) (f : Fld) (v : Nat) : (s.put64 l f v).lockT = s.lockT := rfl
@[simp] theorem State.put64_marks (l : Lane) (f : Fld) (v : Nat) : (s.put64 l f v).marks = s.marks := rfl
@[simp] theorem State.put64_up (l : Lane) (f : Fld) (v : Nat) : (s.put64 l f v).up = s.up := rfl
@[simp] theorem State.put64_free (l : Lane) (f : Fld) (v : Nat) : (s.put64 l f v).free = s.free := rfl
@[simp] theorem State.put64_recorder (l : Lane) (f : Fld) (v : Nat) : (s.put64 l f v).recorder = s.recorder := rfl
@[simp] theorem State.put64_exporter (l : Lane) (f : Fld) (v : Nat) : (s.put64 l f v).exporter = s.exporter := rfl
@[simp] theorem State.put64_icu (l : Lane) (f : Fld) (v : Nat) : (s.put64 l f v).icu = s.icu := rfl
@[simp] theorem State.put64_plink (l : Lane) (f : Fld) (v : Nat) : (s.put64 l f v).plink = s.plink := rfl
@[simp] theorem State.put64_regWin (l : Lane) (f : Fld) (v : Nat) : (s.put64 l f v).regWin = s.regWin := rfl
@[simp] theorem State.put64_resendWin (l : Lane) (f : Fld) (v : Nat) : (s.put64 l f v).resendWin = s.resendWin := rfl
@[simp] theorem State.put64_nv (l : Lane) (f : Fld) (v : Nat) : (s.put64 l f v).nv = s.nv := rfl
@[simp] theorem State.put64_answer (l : Lane) (f : Fld) (v : Nat) : (s.put64 l f v).answer = s.answer := rfl
@[simp] theorem State.put64_resetting (l : Lane) (f : Fld) (v : Nat) : (s.put64 l f v).resetting = s.resetting := rfl
@[simp] theorem State.put64_sampleEpoch (l : Lane) (f : Fld) (v : Nat) : (s.put64 l f v).sampleEpoch = s.sampleEpoch := rfl
@[simp] theorem State.put64_clock (l : Lane) (f : Fld) (v : Nat) : (s.put64 l f v).clock = s.clock := rfl
@[simp] theorem State.put64_front (l : Lane) (f : Fld) (v : Nat) : (s.put64 l f v).front = s.front := rfl
@[simp] theorem State.put64_forming (l : Lane) (f : Fld) (v : Nat) : (s.put64 l f v).forming = s.forming := rfl
@[simp] theorem State.put64_late (l : Lane) (f : Fld) (v : Nat) : (s.put64 l f v).late = s.late := rfl
@[simp] theorem State.put64_snap (l : Lane) (f : Fld) (v : Nat) : (s.put64 l f v).snap = s.snap := rfl
@[simp] theorem State.put64_skipRun (l : Lane) (f : Fld) (v : Nat) : (s.put64 l f v).skipRun = s.skipRun := rfl
@[simp] theorem State.put64_dramShut (l : Lane) (f : Fld) (v : Nat) : (s.put64 l f v).dramShut = s.dramShut := rfl
@[simp] theorem State.put64_dram (l : Lane) (f : Fld) (v : Nat) : (s.put64 l f v).dram = s.dram := rfl
@[simp] theorem State.put64_sram (l : Lane) (f : Fld) (v : Nat) : (s.put64 l f v).sram = s.sram := rfl
@[simp] theorem State.put64_still (l : Lane) (f : Fld) (v : Nat) : (s.put64 l f v).still = s.still := rfl
@[simp] theorem State.put64_chain (l : Lane) (f : Fld) (v : Nat) : (s.put64 l f v).chain = s.chain := rfl
@[simp] theorem State.put64_mons (l : Lane) (f : Fld) (v : Nat) : (s.put64 l f v).mons = s.mons := rfl
@[simp] theorem State.put64_eis (l : Lane) (f : Fld) (v : Nat) : (s.put64 l f v).eis = s.eis := rfl
@[simp] theorem State.put64_cdt (l : Lane) (f : Fld) (v : Nat) : (s.put64 l f v).cdt = s.cdt := rfl
@[simp] theorem State.put64_est (l : Lane) (f : Fld) (v : Nat) : (s.put64 l f v).est = s.est := rfl
@[simp] theorem State.put64_bal (l : Lane) (f : Fld) (v : Nat) : (s.put64 l f v).bal = s.bal := rfl
@[simp] theorem State.put64_prot (l : Lane) (f : Fld) (v : Nat) : (s.put64 l f v).prot = s.prot := rfl
@[simp] theorem State.put64_safe (l : Lane) (f : Fld) (v : Nat) : (s.put64 l f v).safe = s.safe := rfl
@[simp] theorem State.put64_cle (l : Lane) (f : Fld) (v : Nat) : (s.put64 l f v).cle = s.cle := rfl
@[simp] theorem State.put64_link (l : Lane) (f : Fld) (v : Nat) : (s.put64 l f v).link = s.link := rfl
@[simp] theorem State.put64_orders (l : Lane) (f : Fld) (v : Nat) : (s.put64 l f v).orders = s.orders := rfl
@[simp] theorem State.put64_tally (l : Lane) (f : Fld) (v : Nat) : (s.put64 l f v).tally = s.tally := rfl
@[simp] theorem State.put64_lane (l : Lane) (f : Fld) (v : Nat) : (s.put64 l f v).lane = s.lane := rfl
@[simp] theorem State.put64_cbus (l : Lane) (f : Fld) (v : Nat) : (s.put64 l f v).cbus = s.cbus := rfl
@[simp] theorem State.put64_pwr (l : Lane) (f : Fld) (v : Nat) : (s.put64 l f v).pwr = s.pwr := rfl
@[simp] theorem State.put64_flash (l : Lane) (f : Fld) (v : Nat) : (s.put64 l f v).flash = s.flash := rfl
@[simp] theorem State.put64_pending (l : Lane) (f : Fld) (v : Nat) : (s.put64 l f v).pending = s.pending := rfl

/-! ### drawn -/

@[simp] theorem State.drawn_regs : (s.drawn).regs = s.regs := rfl
@[simp] theorem State.drawn_shadow : (s.drawn).shadow = s.shadow := rfl
@[simp] theorem State.drawn_staged : (s.drawn).staged = s.staged := rfl
@[simp] theorem State.drawn_lockT : (s.drawn).lockT = s.lockT := rfl
@[simp] theorem State.drawn_marks : (s.drawn).marks = s.marks := rfl
@[simp] theorem State.drawn_up : (s.drawn).up = s.up := rfl
@[simp] theorem State.drawn_recorder : (s.drawn).recorder = s.recorder := rfl
@[simp] theorem State.drawn_exporter : (s.drawn).exporter = s.exporter := rfl
@[simp] theorem State.drawn_icu : (s.drawn).icu = s.icu := rfl
@[simp] theorem State.drawn_plink : (s.drawn).plink = s.plink := rfl
@[simp] theorem State.drawn_regWin : (s.drawn).regWin = s.regWin := rfl
@[simp] theorem State.drawn_resendWin : (s.drawn).resendWin = s.resendWin := rfl
@[simp] theorem State.drawn_nv : (s.drawn).nv = s.nv := rfl
@[simp] theorem State.drawn_answer : (s.drawn).answer = s.answer := rfl
@[simp] theorem State.drawn_resetting : (s.drawn).resetting = s.resetting := rfl
@[simp] theorem State.drawn_sampleEpoch : (s.drawn).sampleEpoch = s.sampleEpoch := rfl
@[simp] theorem State.drawn_clock : (s.drawn).clock = s.clock := rfl
@[simp] theorem State.drawn_front : (s.drawn).front = s.front := rfl
@[simp] theorem State.drawn_forming : (s.drawn).forming = s.forming := rfl
@[simp] theorem State.drawn_late : (s.drawn).late = s.late := rfl
@[simp] theorem State.drawn_snap : (s.drawn).snap = s.snap := rfl
@[simp] theorem State.drawn_skipRun : (s.drawn).skipRun = s.skipRun := rfl
@[simp] theorem State.drawn_dramShut : (s.drawn).dramShut = s.dramShut := rfl
@[simp] theorem State.drawn_dram : (s.drawn).dram = s.dram := rfl
@[simp] theorem State.drawn_sram : (s.drawn).sram = s.sram := rfl
@[simp] theorem State.drawn_still : (s.drawn).still = s.still := rfl
@[simp] theorem State.drawn_chain : (s.drawn).chain = s.chain := rfl
@[simp] theorem State.drawn_mons : (s.drawn).mons = s.mons := rfl
@[simp] theorem State.drawn_eis : (s.drawn).eis = s.eis := rfl
@[simp] theorem State.drawn_cdt : (s.drawn).cdt = s.cdt := rfl
@[simp] theorem State.drawn_est : (s.drawn).est = s.est := rfl
@[simp] theorem State.drawn_bal : (s.drawn).bal = s.bal := rfl
@[simp] theorem State.drawn_prot : (s.drawn).prot = s.prot := rfl
@[simp] theorem State.drawn_safe : (s.drawn).safe = s.safe := rfl
@[simp] theorem State.drawn_cle : (s.drawn).cle = s.cle := rfl
@[simp] theorem State.drawn_link : (s.drawn).link = s.link := rfl
@[simp] theorem State.drawn_orders : (s.drawn).orders = s.orders := rfl
@[simp] theorem State.drawn_tally : (s.drawn).tally = s.tally := rfl
@[simp] theorem State.drawn_lane : (s.drawn).lane = s.lane := rfl
@[simp] theorem State.drawn_cbus : (s.drawn).cbus = s.cbus := rfl
@[simp] theorem State.drawn_pwr : (s.drawn).pwr = s.pwr := rfl
@[simp] theorem State.drawn_flash : (s.drawn).flash = s.flash := rfl
@[simp] theorem State.drawn_pending : (s.drawn).pending = s.pending := rfl

/-! ### stage -/

@[simp] theorem State.stage_regs (r : Req) (p o : Nat) (v : Word) : (s.stage r p o v).regs = s.regs := rfl
@[simp] theorem State.stage_shadow (r : Req) (p o : Nat) (v : Word) : (s.stage r p o v).shadow = s.shadow := rfl
@[simp] theorem State.stage_lockT (r : Req) (p o : Nat) (v : Word) : (s.stage r p o v).lockT = s.lockT := rfl
@[simp] theorem State.stage_marks (r : Req) (p o : Nat) (v : Word) : (s.stage r p o v).marks = s.marks := rfl
@[simp] theorem State.stage_up (r : Req) (p o : Nat) (v : Word) : (s.stage r p o v).up = s.up := rfl
@[simp] theorem State.stage_free (r : Req) (p o : Nat) (v : Word) : (s.stage r p o v).free = s.free := rfl
@[simp] theorem State.stage_recorder (r : Req) (p o : Nat) (v : Word) : (s.stage r p o v).recorder = s.recorder := rfl
@[simp] theorem State.stage_exporter (r : Req) (p o : Nat) (v : Word) : (s.stage r p o v).exporter = s.exporter := rfl
@[simp] theorem State.stage_icu (r : Req) (p o : Nat) (v : Word) : (s.stage r p o v).icu = s.icu := rfl
@[simp] theorem State.stage_plink (r : Req) (p o : Nat) (v : Word) : (s.stage r p o v).plink = s.plink := rfl
@[simp] theorem State.stage_regWin (r : Req) (p o : Nat) (v : Word) : (s.stage r p o v).regWin = s.regWin := rfl
@[simp] theorem State.stage_resendWin (r : Req) (p o : Nat) (v : Word) : (s.stage r p o v).resendWin = s.resendWin := rfl
@[simp] theorem State.stage_nv (r : Req) (p o : Nat) (v : Word) : (s.stage r p o v).nv = s.nv := rfl
@[simp] theorem State.stage_answer (r : Req) (p o : Nat) (v : Word) : (s.stage r p o v).answer = s.answer := rfl
@[simp] theorem State.stage_resetting (r : Req) (p o : Nat) (v : Word) : (s.stage r p o v).resetting = s.resetting := rfl
@[simp] theorem State.stage_sampleEpoch (r : Req) (p o : Nat) (v : Word) : (s.stage r p o v).sampleEpoch = s.sampleEpoch := rfl
@[simp] theorem State.stage_clock (r : Req) (p o : Nat) (v : Word) : (s.stage r p o v).clock = s.clock := rfl
@[simp] theorem State.stage_front (r : Req) (p o : Nat) (v : Word) : (s.stage r p o v).front = s.front := rfl
@[simp] theorem State.stage_forming (r : Req) (p o : Nat) (v : Word) : (s.stage r p o v).forming = s.forming := rfl
@[simp] theorem State.stage_late (r : Req) (p o : Nat) (v : Word) : (s.stage r p o v).late = s.late := rfl
@[simp] theorem State.stage_snap (r : Req) (p o : Nat) (v : Word) : (s.stage r p o v).snap = s.snap := rfl
@[simp] theorem State.stage_skipRun (r : Req) (p o : Nat) (v : Word) : (s.stage r p o v).skipRun = s.skipRun := rfl
@[simp] theorem State.stage_dramShut (r : Req) (p o : Nat) (v : Word) : (s.stage r p o v).dramShut = s.dramShut := rfl
@[simp] theorem State.stage_dram (r : Req) (p o : Nat) (v : Word) : (s.stage r p o v).dram = s.dram := rfl
@[simp] theorem State.stage_sram (r : Req) (p o : Nat) (v : Word) : (s.stage r p o v).sram = s.sram := rfl
@[simp] theorem State.stage_still (r : Req) (p o : Nat) (v : Word) : (s.stage r p o v).still = s.still := rfl
@[simp] theorem State.stage_chain (r : Req) (p o : Nat) (v : Word) : (s.stage r p o v).chain = s.chain := rfl
@[simp] theorem State.stage_mons (r : Req) (p o : Nat) (v : Word) : (s.stage r p o v).mons = s.mons := rfl
@[simp] theorem State.stage_eis (r : Req) (p o : Nat) (v : Word) : (s.stage r p o v).eis = s.eis := rfl
@[simp] theorem State.stage_cdt (r : Req) (p o : Nat) (v : Word) : (s.stage r p o v).cdt = s.cdt := rfl
@[simp] theorem State.stage_est (r : Req) (p o : Nat) (v : Word) : (s.stage r p o v).est = s.est := rfl
@[simp] theorem State.stage_bal (r : Req) (p o : Nat) (v : Word) : (s.stage r p o v).bal = s.bal := rfl
@[simp] theorem State.stage_prot (r : Req) (p o : Nat) (v : Word) : (s.stage r p o v).prot = s.prot := rfl
@[simp] theorem State.stage_safe (r : Req) (p o : Nat) (v : Word) : (s.stage r p o v).safe = s.safe := rfl
@[simp] theorem State.stage_cle (r : Req) (p o : Nat) (v : Word) : (s.stage r p o v).cle = s.cle := rfl
@[simp] theorem State.stage_link (r : Req) (p o : Nat) (v : Word) : (s.stage r p o v).link = s.link := rfl
@[simp] theorem State.stage_orders (r : Req) (p o : Nat) (v : Word) : (s.stage r p o v).orders = s.orders := rfl
@[simp] theorem State.stage_tally (r : Req) (p o : Nat) (v : Word) : (s.stage r p o v).tally = s.tally := rfl
@[simp] theorem State.stage_lane (r : Req) (p o : Nat) (v : Word) : (s.stage r p o v).lane = s.lane := rfl
@[simp] theorem State.stage_cbus (r : Req) (p o : Nat) (v : Word) : (s.stage r p o v).cbus = s.cbus := rfl
@[simp] theorem State.stage_pwr (r : Req) (p o : Nat) (v : Word) : (s.stage r p o v).pwr = s.pwr := rfl
@[simp] theorem State.stage_flash (r : Req) (p o : Nat) (v : Word) : (s.stage r p o v).flash = s.flash := rfl
@[simp] theorem State.stage_pending (r : Req) (p o : Nat) (v : Word) : (s.stage r p o v).pending = s.pending := rfl

/-! ### refuse -/

@[simp] theorem State.refuse_shadow (r : Req) (p o c : Nat) : (s.refuse r p o c).shadow = s.shadow := State.wr_shadow s _ _ _ _
@[simp] theorem State.refuse_staged (r : Req) (p o c : Nat) : (s.refuse r p o c).staged = s.staged := State.wr_staged s _ _ _ _
@[simp] theorem State.refuse_lockT (r : Req) (p o c : Nat) : (s.refuse r p o c).lockT = s.lockT := State.wr_lockT s _ _ _ _
@[simp] theorem State.refuse_marks (r : Req) (p o c : Nat) : (s.refuse r p o c).marks = s.marks := State.wr_marks s _ _ _ _
@[simp] theorem State.refuse_up (r : Req) (p o c : Nat) : (s.refuse r p o c).up = s.up := State.wr_up s _ _ _ _
@[simp] theorem State.refuse_free (r : Req) (p o c : Nat) : (s.refuse r p o c).free = s.free := State.wr_free s _ _ _ _
@[simp] theorem State.refuse_recorder (r : Req) (p o c : Nat) : (s.refuse r p o c).recorder = s.recorder := State.wr_recorder s _ _ _ _
@[simp] theorem State.refuse_exporter (r : Req) (p o c : Nat) : (s.refuse r p o c).exporter = s.exporter := State.wr_exporter s _ _ _ _
@[simp] theorem State.refuse_icu (r : Req) (p o c : Nat) : (s.refuse r p o c).icu = s.icu := State.wr_icu s _ _ _ _
@[simp] theorem State.refuse_plink (r : Req) (p o c : Nat) : (s.refuse r p o c).plink = s.plink := State.wr_plink s _ _ _ _
@[simp] theorem State.refuse_regWin (r : Req) (p o c : Nat) : (s.refuse r p o c).regWin = s.regWin := State.wr_regWin s _ _ _ _
@[simp] theorem State.refuse_resendWin (r : Req) (p o c : Nat) : (s.refuse r p o c).resendWin = s.resendWin := State.wr_resendWin s _ _ _ _
@[simp] theorem State.refuse_nv (r : Req) (p o c : Nat) : (s.refuse r p o c).nv = s.nv := State.wr_nv s _ _ _ _
@[simp] theorem State.refuse_answer (r : Req) (p o c : Nat) : (s.refuse r p o c).answer = s.answer := State.wr_answer s _ _ _ _
@[simp] theorem State.refuse_resetting (r : Req) (p o c : Nat) : (s.refuse r p o c).resetting = s.resetting := State.wr_resetting s _ _ _ _
@[simp] theorem State.refuse_sampleEpoch (r : Req) (p o c : Nat) : (s.refuse r p o c).sampleEpoch = s.sampleEpoch := State.wr_sampleEpoch s _ _ _ _
@[simp] theorem State.refuse_clock (r : Req) (p o c : Nat) : (s.refuse r p o c).clock = s.clock := State.wr_clock s _ _ _ _
@[simp] theorem State.refuse_front (r : Req) (p o c : Nat) : (s.refuse r p o c).front = s.front := State.wr_front s _ _ _ _
@[simp] theorem State.refuse_forming (r : Req) (p o c : Nat) : (s.refuse r p o c).forming = s.forming := State.wr_forming s _ _ _ _
@[simp] theorem State.refuse_late (r : Req) (p o c : Nat) : (s.refuse r p o c).late = s.late := State.wr_late s _ _ _ _
@[simp] theorem State.refuse_snap (r : Req) (p o c : Nat) : (s.refuse r p o c).snap = s.snap := State.wr_snap s _ _ _ _
@[simp] theorem State.refuse_skipRun (r : Req) (p o c : Nat) : (s.refuse r p o c).skipRun = s.skipRun := State.wr_skipRun s _ _ _ _
@[simp] theorem State.refuse_dramShut (r : Req) (p o c : Nat) : (s.refuse r p o c).dramShut = s.dramShut := State.wr_dramShut s _ _ _ _
@[simp] theorem State.refuse_dram (r : Req) (p o c : Nat) : (s.refuse r p o c).dram = s.dram := State.wr_dram s _ _ _ _
@[simp] theorem State.refuse_sram (r : Req) (p o c : Nat) : (s.refuse r p o c).sram = s.sram := State.wr_sram s _ _ _ _
@[simp] theorem State.refuse_still (r : Req) (p o c : Nat) : (s.refuse r p o c).still = s.still := State.wr_still s _ _ _ _
@[simp] theorem State.refuse_chain (r : Req) (p o c : Nat) : (s.refuse r p o c).chain = s.chain := State.wr_chain s _ _ _ _
@[simp] theorem State.refuse_mons (r : Req) (p o c : Nat) : (s.refuse r p o c).mons = s.mons := State.wr_mons s _ _ _ _
@[simp] theorem State.refuse_eis (r : Req) (p o c : Nat) : (s.refuse r p o c).eis = s.eis := State.wr_eis s _ _ _ _
@[simp] theorem State.refuse_cdt (r : Req) (p o c : Nat) : (s.refuse r p o c).cdt = s.cdt := State.wr_cdt s _ _ _ _
@[simp] theorem State.refuse_est (r : Req) (p o c : Nat) : (s.refuse r p o c).est = s.est := State.wr_est s _ _ _ _
@[simp] theorem State.refuse_bal (r : Req) (p o c : Nat) : (s.refuse r p o c).bal = s.bal := State.wr_bal s _ _ _ _
@[simp] theorem State.refuse_prot (r : Req) (p o c : Nat) : (s.refuse r p o c).prot = s.prot := State.wr_prot s _ _ _ _
@[simp] theorem State.refuse_safe (r : Req) (p o c : Nat) : (s.refuse r p o c).safe = s.safe := State.wr_safe s _ _ _ _
@[simp] theorem State.refuse_cle (r : Req) (p o c : Nat) : (s.refuse r p o c).cle = s.cle := State.wr_cle s _ _ _ _
@[simp] theorem State.refuse_link (r : Req) (p o c : Nat) : (s.refuse r p o c).link = s.link := State.wr_link s _ _ _ _
@[simp] theorem State.refuse_orders (r : Req) (p o c : Nat) : (s.refuse r p o c).orders = s.orders := State.wr_orders s _ _ _ _
@[simp] theorem State.refuse_tally (r : Req) (p o c : Nat) : (s.refuse r p o c).tally = s.tally := State.wr_tally s _ _ _ _
@[simp] theorem State.refuse_lane (r : Req) (p o c : Nat) : (s.refuse r p o c).lane = s.lane := State.wr_lane s _ _ _ _
@[simp] theorem State.refuse_cbus (r : Req) (p o c : Nat) : (s.refuse r p o c).cbus = s.cbus := State.wr_cbus s _ _ _ _
@[simp] theorem State.refuse_pwr (r : Req) (p o c : Nat) : (s.refuse r p o c).pwr = s.pwr := State.wr_pwr s _ _ _ _
@[simp] theorem State.refuse_flash (r : Req) (p o c : Nat) : (s.refuse r p o c).flash = s.flash := State.wr_flash s _ _ _ _
@[simp] theorem State.refuse_pending (r : Req) (p o c : Nat) : (s.refuse r p o c).pending = s.pending := State.wr_pending s _ _ _ _

/-! ### keepLock -/

@[simp] theorem State.keepLock_regs (r : Req) (p : Nat) : (s.keepLock r p).regs = s.regs := by unfold State.keepLock; split <;> simp only
@[simp] theorem State.keepLock_shadow (r : Req) (p : Nat) : (s.keepLock r p).shadow = s.shadow := by unfold State.keepLock; split <;> simp only
@[simp] theorem State.keepLock_staged (r : Req) (p : Nat) : (s.keepLock r p).staged = s.staged := by unfold State.keepLock; split <;> simp only
@[simp] theorem State.keepLock_marks (r : Req) (p : Nat) : (s.keepLock r p).marks = s.marks := by unfold State.keepLock; split <;> simp only
@[simp] theorem State.keepLock_up (r : Req) (p : Nat) : (s.keepLock r p).up = s.up := by unfold State.keepLock; split <;> simp only
@[simp] theorem State.keepLock_free (r : Req) (p : Nat) : (s.keepLock r p).free = s.free := by unfold State.keepLock; split <;> simp only
@[simp] theorem State.keepLock_recorder (r : Req) (p : Nat) : (s.keepLock r p).recorder = s.recorder := by unfold State.keepLock; split <;> simp only
@[simp] theorem State.keepLock_exporter (r : Req) (p : Nat) : (s.keepLock r p).exporter = s.exporter := by unfold State.keepLock; split <;> simp only
@[simp] theorem State.keepLock_icu (r : Req) (p : Nat) : (s.keepLock r p).icu = s.icu := by unfold State.keepLock; split <;> simp only
@[simp] theorem State.keepLock_plink (r : Req) (p : Nat) : (s.keepLock r p).plink = s.plink := by unfold State.keepLock; split <;> simp only
@[simp] theorem State.keepLock_regWin (r : Req) (p : Nat) : (s.keepLock r p).regWin = s.regWin := by unfold State.keepLock; split <;> simp only
@[simp] theorem State.keepLock_resendWin (r : Req) (p : Nat) : (s.keepLock r p).resendWin = s.resendWin := by unfold State.keepLock; split <;> simp only
@[simp] theorem State.keepLock_nv (r : Req) (p : Nat) : (s.keepLock r p).nv = s.nv := by unfold State.keepLock; split <;> simp only
@[simp] theorem State.keepLock_answer (r : Req) (p : Nat) : (s.keepLock r p).answer = s.answer := by unfold State.keepLock; split <;> simp only
@[simp] theorem State.keepLock_resetting (r : Req) (p : Nat) : (s.keepLock r p).resetting = s.resetting := by unfold State.keepLock; split <;> simp only
@[simp] theorem State.keepLock_sampleEpoch (r : Req) (p : Nat) : (s.keepLock r p).sampleEpoch = s.sampleEpoch := by unfold State.keepLock; split <;> simp only
@[simp] theorem State.keepLock_clock (r : Req) (p : Nat) : (s.keepLock r p).clock = s.clock := by unfold State.keepLock; split <;> simp only
@[simp] theorem State.keepLock_front (r : Req) (p : Nat) : (s.keepLock r p).front = s.front := by unfold State.keepLock; split <;> simp only
@[simp] theorem State.keepLock_forming (r : Req) (p : Nat) : (s.keepLock r p).forming = s.forming := by unfold State.keepLock; split <;> simp only
@[simp] theorem State.keepLock_late (r : Req) (p : Nat) : (s.keepLock r p).late = s.late := by unfold State.keepLock; split <;> simp only
@[simp] theorem State.keepLock_snap (r : Req) (p : Nat) : (s.keepLock r p).snap = s.snap := by unfold State.keepLock; split <;> simp only
@[simp] theorem State.keepLock_skipRun (r : Req) (p : Nat) : (s.keepLock r p).skipRun = s.skipRun := by unfold State.keepLock; split <;> simp only
@[simp] theorem State.keepLock_dramShut (r : Req) (p : Nat) : (s.keepLock r p).dramShut = s.dramShut := by unfold State.keepLock; split <;> simp only
@[simp] theorem State.keepLock_dram (r : Req) (p : Nat) : (s.keepLock r p).dram = s.dram := by unfold State.keepLock; split <;> simp only
@[simp] theorem State.keepLock_sram (r : Req) (p : Nat) : (s.keepLock r p).sram = s.sram := by unfold State.keepLock; split <;> simp only
@[simp] theorem State.keepLock_still (r : Req) (p : Nat) : (s.keepLock r p).still = s.still := by unfold State.keepLock; split <;> simp only
@[simp] theorem State.keepLock_chain (r : Req) (p : Nat) : (s.keepLock r p).chain = s.chain := by unfold State.keepLock; split <;> simp only
@[simp] theorem State.keepLock_mons (r : Req) (p : Nat) : (s.keepLock r p).mons = s.mons := by unfold State.keepLock; split <;> simp only
@[simp] theorem State.keepLock_eis (r : Req) (p : Nat) : (s.keepLock r p).eis = s.eis := by unfold State.keepLock; split <;> simp only
@[simp] theorem State.keepLock_cdt (r : Req) (p : Nat) : (s.keepLock r p).cdt = s.cdt := by unfold State.keepLock; split <;> simp only
@[simp] theorem State.keepLock_est (r : Req) (p : Nat) : (s.keepLock r p).est = s.est := by unfold State.keepLock; split <;> simp only
@[simp] theorem State.keepLock_bal (r : Req) (p : Nat) : (s.keepLock r p).bal = s.bal := by unfold State.keepLock; split <;> simp only
@[simp] theorem State.keepLock_prot (r : Req) (p : Nat) : (s.keepLock r p).prot = s.prot := by unfold State.keepLock; split <;> simp only
@[simp] theorem State.keepLock_safe (r : Req) (p : Nat) : (s.keepLock r p).safe = s.safe := by unfold State.keepLock; split <;> simp only
@[simp] theorem State.keepLock_cle (r : Req) (p : Nat) : (s.keepLock r p).cle = s.cle := by unfold State.keepLock; split <;> simp only
@[simp] theorem State.keepLock_link (r : Req) (p : Nat) : (s.keepLock r p).link = s.link := by unfold State.keepLock; split <;> simp only
@[simp] theorem State.keepLock_orders (r : Req) (p : Nat) : (s.keepLock r p).orders = s.orders := by unfold State.keepLock; split <;> simp only
@[simp] theorem State.keepLock_tally (r : Req) (p : Nat) : (s.keepLock r p).tally = s.tally := by unfold State.keepLock; split <;> simp only
@[simp] theorem State.keepLock_lane (r : Req) (p : Nat) : (s.keepLock r p).lane = s.lane := by unfold State.keepLock; split <;> simp only
@[simp] theorem State.keepLock_cbus (r : Req) (p : Nat) : (s.keepLock r p).cbus = s.cbus := by unfold State.keepLock; split <;> simp only
@[simp] theorem State.keepLock_pwr (r : Req) (p : Nat) : (s.keepLock r p).pwr = s.pwr := by unfold State.keepLock; split <;> simp only
@[simp] theorem State.keepLock_flash (r : Req) (p : Nat) : (s.keepLock r p).flash = s.flash := by unfold State.keepLock; split <;> simp only
@[simp] theorem State.keepLock_pending (r : Req) (p : Nat) : (s.keepLock r p).pending = s.pending := by unfold State.keepLock; split <;> simp only

/-! ### elapse -/

@[simp] theorem State.elapse_regs (n : Nat) : (s.elapse n).regs = s.regs := by simp only [State.elapse]
@[simp] theorem State.elapse_shadow (n : Nat) : (s.elapse n).shadow = s.shadow := by simp only [State.elapse]
@[simp] theorem State.elapse_staged (n : Nat) : (s.elapse n).staged = s.staged := by simp only [State.elapse]
@[simp] theorem State.elapse_lockT (n : Nat) : (s.elapse n).lockT = s.lockT := by simp only [State.elapse]
@[simp] theorem State.elapse_marks (n : Nat) : (s.elapse n).marks = s.marks := by simp only [State.elapse]
@[simp] theorem State.elapse_free (n : Nat) : (s.elapse n).free = s.free := by simp only [State.elapse]
@[simp] theorem State.elapse_recorder (n : Nat) : (s.elapse n).recorder = s.recorder := by simp only [State.elapse]
@[simp] theorem State.elapse_exporter (n : Nat) : (s.elapse n).exporter = s.exporter := by simp only [State.elapse]
@[simp] theorem State.elapse_icu (n : Nat) : (s.elapse n).icu = s.icu := by simp only [State.elapse]
@[simp] theorem State.elapse_plink (n : Nat) : (s.elapse n).plink = s.plink := by simp only [State.elapse]
@[simp] theorem State.elapse_regWin (n : Nat) : (s.elapse n).regWin = s.regWin := by simp only [State.elapse]
@[simp] theorem State.elapse_resendWin (n : Nat) : (s.elapse n).resendWin = s.resendWin := by simp only [State.elapse]
@[simp] theorem State.elapse_answer (n : Nat) : (s.elapse n).answer = s.answer := by simp only [State.elapse]
@[simp] theorem State.elapse_resetting (n : Nat) : (s.elapse n).resetting = s.resetting := by simp only [State.elapse]
@[simp] theorem State.elapse_sampleEpoch (n : Nat) : (s.elapse n).sampleEpoch = s.sampleEpoch := by simp only [State.elapse]
@[simp] theorem State.elapse_front (n : Nat) : (s.elapse n).front = s.front := by simp only [State.elapse]
@[simp] theorem State.elapse_forming (n : Nat) : (s.elapse n).forming = s.forming := by simp only [State.elapse]
@[simp] theorem State.elapse_late (n : Nat) : (s.elapse n).late = s.late := by simp only [State.elapse]
@[simp] theorem State.elapse_snap (n : Nat) : (s.elapse n).snap = s.snap := by simp only [State.elapse]
@[simp] theorem State.elapse_skipRun (n : Nat) : (s.elapse n).skipRun = s.skipRun := by simp only [State.elapse]
@[simp] theorem State.elapse_dramShut (n : Nat) : (s.elapse n).dramShut = s.dramShut := by simp only [State.elapse]
@[simp] theorem State.elapse_dram (n : Nat) : (s.elapse n).dram = s.dram := by simp only [State.elapse]
@[simp] theorem State.elapse_sram (n : Nat) : (s.elapse n).sram = s.sram := by simp only [State.elapse]
@[simp] theorem State.elapse_still (n : Nat) : (s.elapse n).still = s.still := by simp only [State.elapse]
@[simp] theorem State.elapse_chain (n : Nat) : (s.elapse n).chain = s.chain := by simp only [State.elapse]
@[simp] theorem State.elapse_mons (n : Nat) : (s.elapse n).mons = s.mons := by simp only [State.elapse]
@[simp] theorem State.elapse_eis (n : Nat) : (s.elapse n).eis = s.eis := by simp only [State.elapse]
@[simp] theorem State.elapse_cdt (n : Nat) : (s.elapse n).cdt = s.cdt := by simp only [State.elapse]
@[simp] theorem State.elapse_est (n : Nat) : (s.elapse n).est = s.est := by simp only [State.elapse]
@[simp] theorem State.elapse_bal (n : Nat) : (s.elapse n).bal = s.bal := by simp only [State.elapse]
@[simp] theorem State.elapse_prot (n : Nat) : (s.elapse n).prot = s.prot := by simp only [State.elapse]
@[simp] theorem State.elapse_safe (n : Nat) : (s.elapse n).safe = s.safe := by simp only [State.elapse]
@[simp] theorem State.elapse_cle (n : Nat) : (s.elapse n).cle = s.cle := by simp only [State.elapse]
@[simp] theorem State.elapse_link (n : Nat) : (s.elapse n).link = s.link := by simp only [State.elapse]
@[simp] theorem State.elapse_orders (n : Nat) : (s.elapse n).orders = s.orders := by simp only [State.elapse]
@[simp] theorem State.elapse_tally (n : Nat) : (s.elapse n).tally = s.tally := by simp only [State.elapse]
@[simp] theorem State.elapse_lane (n : Nat) : (s.elapse n).lane = s.lane := by simp only [State.elapse]
@[simp] theorem State.elapse_cbus (n : Nat) : (s.elapse n).cbus = s.cbus := by simp only [State.elapse]
@[simp] theorem State.elapse_pwr (n : Nat) : (s.elapse n).pwr = s.pwr := by simp only [State.elapse]
@[simp] theorem State.elapse_flash (n : Nat) : (s.elapse n).flash = s.flash := by simp only [State.elapse]
@[simp] theorem State.elapse_pending (n : Nat) : (s.elapse n).pending = s.pending := by simp only [State.elapse]

/-! ### mapPlink -/

@[simp] theorem State.mapPlink_regs (l : Lane) (f : Plink → Plink) : (s.mapPlink l f).regs = s.regs := rfl
@[simp] theorem State.mapPlink_shadow (l : Lane) (f : Plink → Plink) : (s.mapPlink l f).shadow = s.shadow := rfl
@[simp] theorem State.mapPlink_staged (l : Lane) (f : Plink → Plink) : (s.mapPlink l f).staged = s.staged := rfl
@[simp] theorem State.mapPlink_lockT (l : Lane) (f : Plink → Plink) : (s.mapPlink l f).lockT = s.lockT := rfl
@[simp] theorem State.mapPlink_marks (l : Lane) (f : Plink → Plink) : (s.mapPlink l f).marks = s.marks := rfl
@[simp] theorem State.mapPlink_up (l : Lane) (f : Plink → Plink) : (s.mapPlink l f).up = s.up := rfl
@[simp] theorem State.mapPlink_free (l : Lane) (f : Plink → Plink) : (s.mapPlink l f).free = s.free := rfl
@[simp] theorem State.mapPlink_recorder (l : Lane) (f : Plink → Plink) : (s.mapPlink l f).recorder = s.recorder := rfl
@[simp] theorem State.mapPlink_exporter (l : Lane) (f : Plink → Plink) : (s.mapPlink l f).exporter = s.exporter := rfl
@[simp] theorem State.mapPlink_icu (l : Lane) (f : Plink → Plink) : (s.mapPlink l f).icu = s.icu := rfl
@[simp] theorem State.mapPlink_regWin (l : Lane) (f : Plink → Plink) : (s.mapPlink l f).regWin = s.regWin := rfl
@[simp] theorem State.mapPlink_resendWin (l : Lane) (f : Plink → Plink) : (s.mapPlink l f).resendWin = s.resendWin := rfl
@[simp] theorem State.mapPlink_nv (l : Lane) (f : Plink → Plink) : (s.mapPlink l f).nv = s.nv := rfl
@[simp] theorem State.mapPlink_answer (l : Lane) (f : Plink → Plink) : (s.mapPlink l f).answer = s.answer := rfl
@[simp] theorem State.mapPlink_resetting (l : Lane) (f : Plink → Plink) : (s.mapPlink l f).resetting = s.resetting := rfl
@[simp] theorem State.mapPlink_sampleEpoch (l : Lane) (f : Plink → Plink) : (s.mapPlink l f).sampleEpoch = s.sampleEpoch := rfl
@[simp] theorem State.mapPlink_clock (l : Lane) (f : Plink → Plink) : (s.mapPlink l f).clock = s.clock := rfl
@[simp] theorem State.mapPlink_front (l : Lane) (f : Plink → Plink) : (s.mapPlink l f).front = s.front := rfl
@[simp] theorem State.mapPlink_forming (l : Lane) (f : Plink → Plink) : (s.mapPlink l f).forming = s.forming := rfl
@[simp] theorem State.mapPlink_late (l : Lane) (f : Plink → Plink) : (s.mapPlink l f).late = s.late := rfl
@[simp] theorem State.mapPlink_snap (l : Lane) (f : Plink → Plink) : (s.mapPlink l f).snap = s.snap := rfl
@[simp] theorem State.mapPlink_skipRun (l : Lane) (f : Plink → Plink) : (s.mapPlink l f).skipRun = s.skipRun := rfl
@[simp] theorem State.mapPlink_dramShut (l : Lane) (f : Plink → Plink) : (s.mapPlink l f).dramShut = s.dramShut := rfl
@[simp] theorem State.mapPlink_dram (l : Lane) (f : Plink → Plink) : (s.mapPlink l f).dram = s.dram := rfl
@[simp] theorem State.mapPlink_sram (l : Lane) (f : Plink → Plink) : (s.mapPlink l f).sram = s.sram := rfl
@[simp] theorem State.mapPlink_still (l : Lane) (f : Plink → Plink) : (s.mapPlink l f).still = s.still := rfl
@[simp] theorem State.mapPlink_chain (l : Lane) (f : Plink → Plink) : (s.mapPlink l f).chain = s.chain := rfl
@[simp] theorem State.mapPlink_mons (l : Lane) (f : Plink → Plink) : (s.mapPlink l f).mons = s.mons := rfl
@[simp] theorem State.mapPlink_eis (l : Lane) (f : Plink → Plink) : (s.mapPlink l f).eis = s.eis := rfl
@[simp] theorem State.mapPlink_cdt (l : Lane) (f : Plink → Plink) : (s.mapPlink l f).cdt = s.cdt := rfl
@[simp] theorem State.mapPlink_est (l : Lane) (f : Plink → Plink) : (s.mapPlink l f).est = s.est := rfl
@[simp] theorem State.mapPlink_bal (l : Lane) (f : Plink → Plink) : (s.mapPlink l f).bal = s.bal := rfl
@[simp] theorem State.mapPlink_prot (l : Lane) (f : Plink → Plink) : (s.mapPlink l f).prot = s.prot := rfl
@[simp] theorem State.mapPlink_safe (l : Lane) (f : Plink → Plink) : (s.mapPlink l f).safe = s.safe := rfl
@[simp] theorem State.mapPlink_cle (l : Lane) (f : Plink → Plink) : (s.mapPlink l f).cle = s.cle := rfl
@[simp] theorem State.mapPlink_link (l : Lane) (f : Plink → Plink) : (s.mapPlink l f).link = s.link := rfl
@[simp] theorem State.mapPlink_orders (l : Lane) (f : Plink → Plink) : (s.mapPlink l f).orders = s.orders := rfl
@[simp] theorem State.mapPlink_tally (l : Lane) (f : Plink → Plink) : (s.mapPlink l f).tally = s.tally := rfl
@[simp] theorem State.mapPlink_lane (l : Lane) (f : Plink → Plink) : (s.mapPlink l f).lane = s.lane := rfl
@[simp] theorem State.mapPlink_cbus (l : Lane) (f : Plink → Plink) : (s.mapPlink l f).cbus = s.cbus := rfl
@[simp] theorem State.mapPlink_pwr (l : Lane) (f : Plink → Plink) : (s.mapPlink l f).pwr = s.pwr := rfl
@[simp] theorem State.mapPlink_flash (l : Lane) (f : Plink → Plink) : (s.mapPlink l f).flash = s.flash := rfl
@[simp] theorem State.mapPlink_pending (l : Lane) (f : Plink → Plink) : (s.mapPlink l f).pending = s.pending := rfl

/-! ### dramStore -/

@[simp] theorem State.dramStore_regs (l : Lane) (a : Nat) (bs : List Nat) : (s.dramStore l a bs).regs = s.regs := rfl
@[simp] theorem State.dramStore_shadow (l : Lane) (a : Nat) (bs : List Nat) : (s.dramStore l a bs).shadow = s.shadow := rfl
@[simp] theorem State.dramStore_staged (l : Lane) (a : Nat) (bs : List Nat) : (s.dramStore l a bs).staged = s.staged := rfl
@[simp] theorem State.dramStore_lockT (l : Lane) (a : Nat) (bs : List Nat) : (s.dramStore l a bs).lockT = s.lockT := rfl
@[simp] theorem State.dramStore_marks (l : Lane) (a : Nat) (bs : List Nat) : (s.dramStore l a bs).marks = s.marks := rfl
@[simp] theorem State.dramStore_up (l : Lane) (a : Nat) (bs : List Nat) : (s.dramStore l a bs).up = s.up := rfl
@[simp] theorem State.dramStore_free (l : Lane) (a : Nat) (bs : List Nat) : (s.dramStore l a bs).free = s.free := rfl
@[simp] theorem State.dramStore_recorder (l : Lane) (a : Nat) (bs : List Nat) : (s.dramStore l a bs).recorder = s.recorder := rfl
@[simp] theorem State.dramStore_exporter (l : Lane) (a : Nat) (bs : List Nat) : (s.dramStore l a bs).exporter = s.exporter := rfl
@[simp] theorem State.dramStore_icu (l : Lane) (a : Nat) (bs : List Nat) : (s.dramStore l a bs).icu = s.icu := rfl
@[simp] theorem State.dramStore_plink (l : Lane) (a : Nat) (bs : List Nat) : (s.dramStore l a bs).plink = s.plink := rfl
@[simp] theorem State.dramStore_regWin (l : Lane) (a : Nat) (bs : List Nat) : (s.dramStore l a bs).regWin = s.regWin := rfl
@[simp] theorem State.dramStore_resendWin (l : Lane) (a : Nat) (bs : List Nat) : (s.dramStore l a bs).resendWin = s.resendWin := rfl
@[simp] theorem State.dramStore_nv (l : Lane) (a : Nat) (bs : List Nat) : (s.dramStore l a bs).nv = s.nv := rfl
@[simp] theorem State.dramStore_answer (l : Lane) (a : Nat) (bs : List Nat) : (s.dramStore l a bs).answer = s.answer := rfl
@[simp] theorem State.dramStore_resetting (l : Lane) (a : Nat) (bs : List Nat) : (s.dramStore l a bs).resetting = s.resetting := rfl
@[simp] theorem State.dramStore_sampleEpoch (l : Lane) (a : Nat) (bs : List Nat) : (s.dramStore l a bs).sampleEpoch = s.sampleEpoch := rfl
@[simp] theorem State.dramStore_clock (l : Lane) (a : Nat) (bs : List Nat) : (s.dramStore l a bs).clock = s.clock := rfl
@[simp] theorem State.dramStore_front (l : Lane) (a : Nat) (bs : List Nat) : (s.dramStore l a bs).front = s.front := rfl
@[simp] theorem State.dramStore_forming (l : Lane) (a : Nat) (bs : List Nat) : (s.dramStore l a bs).forming = s.forming := rfl
@[simp] theorem State.dramStore_late (l : Lane) (a : Nat) (bs : List Nat) : (s.dramStore l a bs).late = s.late := rfl
@[simp] theorem State.dramStore_snap (l : Lane) (a : Nat) (bs : List Nat) : (s.dramStore l a bs).snap = s.snap := rfl
@[simp] theorem State.dramStore_skipRun (l : Lane) (a : Nat) (bs : List Nat) : (s.dramStore l a bs).skipRun = s.skipRun := rfl
@[simp] theorem State.dramStore_dramShut (l : Lane) (a : Nat) (bs : List Nat) : (s.dramStore l a bs).dramShut = s.dramShut := rfl
@[simp] theorem State.dramStore_sram (l : Lane) (a : Nat) (bs : List Nat) : (s.dramStore l a bs).sram = s.sram := rfl
@[simp] theorem State.dramStore_still (l : Lane) (a : Nat) (bs : List Nat) : (s.dramStore l a bs).still = s.still := rfl
@[simp] theorem State.dramStore_chain (l : Lane) (a : Nat) (bs : List Nat) : (s.dramStore l a bs).chain = s.chain := rfl
@[simp] theorem State.dramStore_mons (l : Lane) (a : Nat) (bs : List Nat) : (s.dramStore l a bs).mons = s.mons := rfl
@[simp] theorem State.dramStore_eis (l : Lane) (a : Nat) (bs : List Nat) : (s.dramStore l a bs).eis = s.eis := rfl
@[simp] theorem State.dramStore_cdt (l : Lane) (a : Nat) (bs : List Nat) : (s.dramStore l a bs).cdt = s.cdt := rfl
@[simp] theorem State.dramStore_est (l : Lane) (a : Nat) (bs : List Nat) : (s.dramStore l a bs).est = s.est := rfl
@[simp] theorem State.dramStore_bal (l : Lane) (a : Nat) (bs : List Nat) : (s.dramStore l a bs).bal = s.bal := rfl
@[simp] theorem State.dramStore_prot (l : Lane) (a : Nat) (bs : List Nat) : (s.dramStore l a bs).prot = s.prot := rfl
@[simp] theorem State.dramStore_safe (l : Lane) (a : Nat) (bs : List Nat) : (s.dramStore l a bs).safe = s.safe := rfl
@[simp] theorem State.dramStore_cle (l : Lane) (a : Nat) (bs : List Nat) : (s.dramStore l a bs).cle = s.cle := rfl
@[simp] theorem State.dramStore_link (l : Lane) (a : Nat) (bs : List Nat) : (s.dramStore l a bs).link = s.link := rfl
@[simp] theorem State.dramStore_orders (l : Lane) (a : Nat) (bs : List Nat) : (s.dramStore l a bs).orders = s.orders := rfl
@[simp] theorem State.dramStore_tally (l : Lane) (a : Nat) (bs : List Nat) : (s.dramStore l a bs).tally = s.tally := rfl
@[simp] theorem State.dramStore_lane (l : Lane) (a : Nat) (bs : List Nat) : (s.dramStore l a bs).lane = s.lane := rfl
@[simp] theorem State.dramStore_cbus (l : Lane) (a : Nat) (bs : List Nat) : (s.dramStore l a bs).cbus = s.cbus := rfl
@[simp] theorem State.dramStore_pwr (l : Lane) (a : Nat) (bs : List Nat) : (s.dramStore l a bs).pwr = s.pwr := rfl
@[simp] theorem State.dramStore_flash (l : Lane) (a : Nat) (bs : List Nat) : (s.dramStore l a bs).flash = s.flash := rfl
@[simp] theorem State.dramStore_pending (l : Lane) (a : Nat) (bs : List Nat) : (s.dramStore l a bs).pending = s.pending := rfl

/-! ### trackMotion -/

@[simp] theorem State.trackMotion_regs : (s.trackMotion).regs = s.regs := rfl
@[simp] theorem State.trackMotion_shadow : (s.trackMotion).shadow = s.shadow := rfl
@[simp] theorem State.trackMotion_staged : (s.trackMotion).staged = s.staged := rfl
@[simp] theorem State.trackMotion_lockT : (s.trackMotion).lockT = s.lockT := rfl
@[simp] theorem State.trackMotion_marks : (s.trackMotion).marks = s.marks := rfl
@[simp] theorem State.trackMotion_up : (s.trackMotion).up = s.up := rfl
@[simp] theorem State.trackMotion_free : (s.trackMotion).free = s.free := rfl
@[simp] theorem State.trackMotion_recorder : (s.trackMotion).recorder = s.recorder := rfl
@[simp] theorem State.trackMotion_exporter : (s.trackMotion).exporter = s.exporter := rfl
@[simp] theorem State.trackMotion_icu : (s.trackMotion).icu = s.icu := rfl
@[simp] theorem State.trackMotion_plink : (s.trackMotion).plink = s.plink := rfl
@[simp] theorem State.trackMotion_regWin : (s.trackMotion).regWin = s.regWin := rfl
@[simp] theorem State.trackMotion_resendWin : (s.trackMotion).resendWin = s.resendWin := rfl
@[simp] theorem State.trackMotion_nv : (s.trackMotion).nv = s.nv := rfl
@[simp] theorem State.trackMotion_answer : (s.trackMotion).answer = s.answer := rfl
@[simp] theorem State.trackMotion_resetting : (s.trackMotion).resetting = s.resetting := rfl
@[simp] theorem State.trackMotion_sampleEpoch : (s.trackMotion).sampleEpoch = s.sampleEpoch := rfl
@[simp] theorem State.trackMotion_clock : (s.trackMotion).clock = s.clock := rfl
@[simp] theorem State.trackMotion_front : (s.trackMotion).front = s.front := rfl
@[simp] theorem State.trackMotion_forming : (s.trackMotion).forming = s.forming := rfl
@[simp] theorem State.trackMotion_late : (s.trackMotion).late = s.late := rfl
@[simp] theorem State.trackMotion_snap : (s.trackMotion).snap = s.snap := rfl
@[simp] theorem State.trackMotion_skipRun : (s.trackMotion).skipRun = s.skipRun := rfl
@[simp] theorem State.trackMotion_dramShut : (s.trackMotion).dramShut = s.dramShut := rfl
@[simp] theorem State.trackMotion_dram : (s.trackMotion).dram = s.dram := rfl
@[simp] theorem State.trackMotion_sram : (s.trackMotion).sram = s.sram := rfl
@[simp] theorem State.trackMotion_chain : (s.trackMotion).chain = s.chain := rfl
@[simp] theorem State.trackMotion_mons : (s.trackMotion).mons = s.mons := rfl
@[simp] theorem State.trackMotion_eis : (s.trackMotion).eis = s.eis := rfl
@[simp] theorem State.trackMotion_cdt : (s.trackMotion).cdt = s.cdt := rfl
@[simp] theorem State.trackMotion_est : (s.trackMotion).est = s.est := rfl
@[simp] theorem State.trackMotion_bal : (s.trackMotion).bal = s.bal := rfl
@[simp] theorem State.trackMotion_prot : (s.trackMotion).prot = s.prot := rfl
@[simp] theorem State.trackMotion_safe : (s.trackMotion).safe = s.safe := rfl
@[simp] theorem State.trackMotion_cle : (s.trackMotion).cle = s.cle := rfl
@[simp] theorem State.trackMotion_link : (s.trackMotion).link = s.link := rfl
@[simp] theorem State.trackMotion_orders : (s.trackMotion).orders = s.orders := rfl
@[simp] theorem State.trackMotion_tally : (s.trackMotion).tally = s.tally := rfl
@[simp] theorem State.trackMotion_lane : (s.trackMotion).lane = s.lane := rfl
@[simp] theorem State.trackMotion_cbus : (s.trackMotion).cbus = s.cbus := rfl
@[simp] theorem State.trackMotion_pwr : (s.trackMotion).pwr = s.pwr := rfl
@[simp] theorem State.trackMotion_flash : (s.trackMotion).flash = s.flash := rfl
@[simp] theorem State.trackMotion_pending : (s.trackMotion).pending = s.pending := rfl

end Sys2Proof.Machine
end

