-- ==== Sys2Proof/Laws/Store.lean ====
section
/-! SUPPORT. The sparse store: reads after writes, and the canonical form that every write keeps; the bit fields of a word. -/

namespace Sys2Proof.Machine

open Sys2Proof

variable {α : Type}

/-! ### Reads after writes -/

theorem sget_sdel_same (d : Nat → α) (k : Nat) (l : List (Nat × α)) : sget d (sdel k l) k = d k := by
  induction l with
  | nil => rfl
  | cons x l ih =>
    obtain ⟨j, w⟩ := x
    by_cases h : j = k
    · simpa [sdel, h] using ih
    · simp [sdel, h, sget, ih]

theorem sget_sdel_ne (d : Nat → α) {k j : Nat} (l : List (Nat × α)) (h : j ≠ k) : sget d (sdel k l) j = sget d l j := by
  induction l with
  | nil => rfl
  | cons x l ih =>
    obtain ⟨i, w⟩ := x
    by_cases hi : i = k
    · subst hi
      simp [sdel, sget, ih, h.symm]
    · simp only [sdel, hi, if_false, sget, ih]

theorem sget_sins_same (d : Nat → α) (k : Nat) (v : α) (l : List (Nat × α)) :
    sget d (sins k v (sdel k l)) k = v := by
  induction l with
  | nil => simp [sdel, sins, sget]
  | cons x l ih =>
    obtain ⟨j, w⟩ := x
    by_cases h : j = k
    · simpa [sdel, h] using ih
    · by_cases hk : k < j
      · simp [sdel, h, sins, hk, sget]
      · simp [sdel, h, sins, hk, sget, ih]

theorem sget_sins_ne (d : Nat → α) {k j : Nat} (v : α) (l : List (Nat × α)) (h : j ≠ k) :
    sget d (sins k v l) j = sget d l j := by
  induction l with
  | nil => simp [sins, sget, h.symm]
  | cons x l ih =>
    obtain ⟨i, w⟩ := x
    by_cases hk : k < i
    · simp [sins, hk, sget, h.symm]
    · simp only [sins, hk, if_false, sget, ih]

theorem mem_sdel {k : Nat} {l : List (Nat × α)} {x : Nat × α} (h : x ∈ sdel k l) : x ∈ l ∧ x.1 ≠ k := by
  induction l with
  | nil => simp [sdel] at h
  | cons y l ih =>
    obtain ⟨j, w⟩ := y
    by_cases hj : j = k
    · simp [sdel, hj] at h
      exact ⟨List.mem_cons_of_mem _ (ih h).1, (ih h).2⟩
    · simp [sdel, hj] at h
      rcases h with rfl | h
      · exact ⟨by simp, hj⟩
      · exact ⟨List.mem_cons_of_mem _ (ih h).1, (ih h).2⟩

theorem mem_sins {k : Nat} {v : α} {l : List (Nat × α)} {x : Nat × α} (h : x ∈ sins k v l) : x = (k, v) ∨ x ∈ l := by
  induction l with
  | nil => simpa [sins] using h
  | cons y l ih =>
    obtain ⟨j, w⟩ := y
    by_cases hk : k < j
    · simpa [sins, hk] using h
    · simp [sins, hk] at h
      rcases h with rfl | h
      · exact .inr (by simp)
      · rcases ih h with h | h
        · exact .inl h
        · exact .inr (List.mem_cons_of_mem _ h)

variable [DecidableEq α]

/-- A key reads what was written to it. -/
@[simp] theorem sget_sput_same (d : Nat → α) (l : List (Nat × α)) (k : Nat) (v : α) : sget d (sput d l k v) k = v := by
  unfold sput
  split
  · rename_i h; rw [sget_sdel_same, h]
  · exact sget_sins_same d k v l

/-- Every other key reads as before. -/
theorem sget_sput_ne (d : Nat → α) (l : List (Nat × α)) {k j : Nat} (v : α) (h : j ≠ k) :
    sget d (sput d l k v) j = sget d l j := by
  unfold sput
  split
  · exact sget_sdel_ne d l h
  · rw [sget_sins_ne d v _ h, sget_sdel_ne d l h]

/-! ### The canonical form -/

theorem swf_tail (d : Nat → α) (x : Nat × α) (l : List (Nat × α)) (h : swf d (x :: l) = true) : swf d l = true := by
  obtain ⟨k, v⟩ := x
  cases l with
  | nil => rfl
  | cons y l => obtain ⟨j, w⟩ := y; simp [swf] at h; exact h.2

/-- In canonical form the first key lies below every other. -/
theorem swf_head_lt (d : Nat → α) (k : Nat) (v : α) (l : List (Nat × α)) (h : swf d ((k, v) :: l) = true) :
    ∀ x ∈ l, k < x.1 := by
  induction l generalizing k v with
  | nil => simp
  | cons y l ih =>
    obtain ⟨j, w⟩ := y
    simp [swf] at h
    intro x hx
    rcases List.mem_cons.1 hx with rfl | hx
    · exact h.1.1
    · exact lt_trans h.1.1 (ih j w h.2 x hx)

theorem swf_cons (d : Nat → α) (k : Nat) (v : α) (l : List (Nat × α)) (hl : swf d l = true) (hv : v ≠ d k)
    (hk : ∀ x ∈ l, k < x.1) : swf d ((k, v) :: l) = true := by
  cases l with
  | nil => simp [swf, hv]
  | cons y l =>
    obtain ⟨j, w⟩ := y
    have := hk (j, w) (by simp)
    simp [swf, hv, this, hl]

theorem swf_val (d : Nat → α) (k : Nat) (v : α) (l : List (Nat × α)) (h : swf d ((k, v) :: l) = true) : v ≠ d k := by
  cases l with
  | nil => simpa [swf] using h
  | cons y l => obtain ⟨j, w⟩ := y; simp [swf] at h; exact h.1.2

theorem swf_sdel (d : Nat → α) (k : Nat) (l : List (Nat × α)) (h : swf d l = true) : swf d (sdel k l) = true := by
  induction l with
  | nil => rfl
  | cons y l ih =>
    obtain ⟨j, w⟩ := y
    have ht := ih (swf_tail d _ _ h)
    by_cases hj : j = k
    · simpa [sdel, hj] using ht
    · simp only [sdel, hj, if_false]
      exact swf_cons d j w _ ht (swf_val d j w l h) fun x hx => swf_head_lt d j w l h x (mem_sdel hx).1

theorem swf_sins (d : Nat → α) (k : Nat) (v : α) (l : List (Nat × α)) (h : swf d l = true) (hv : v ≠ d k)
    (hk : ∀ x ∈ l, x.1 ≠ k) : swf d (sins k v l) = true := by
  induction l with
  | nil => simp [sins, swf, hv]
  | cons y l ih =>
    obtain ⟨j, w⟩ := y
    by_cases hj : k < j
    · simp only [sins, hj, if_true]
      refine swf_cons d k v _ h hv fun x hx => ?_
      rcases List.mem_cons.1 hx with rfl | hx
      · exact hj
      · exact lt_trans hj (swf_head_lt d j w l h x hx)
    · simp only [sins, hj, if_false]
      have hjk : j < k := lt_of_le_of_ne (Nat.le_of_not_lt hj) (hk (j, w) (by simp))
      refine swf_cons d j w _ (ih (swf_tail d _ _ h) fun x hx => hk x (List.mem_cons_of_mem _ hx))
        (swf_val d j w l h) fun x hx => ?_
      rcases mem_sins hx with rfl | hx
      · exact hjk
      · exact swf_head_lt d j w l h x hx

/-- A write keeps the canonical form. -/
theorem swf_sput (d : Nat → α) (l : List (Nat × α)) (k : Nat) (v : α) (h : swf d l = true) :
    swf d (sput d l k v) = true := by
  unfold sput
  split
  · exact swf_sdel d k l h
  · rename_i hv
    exact swf_sins d k v _ (swf_sdel d k l h) hv fun x hx => (mem_sdel hx).2

/-! ### Memories -/

/-- Every store of bytes keeps a memory's canonical form. -/
theorem memStore_swf (bs : List Nat) (m : List Host.Cell) (a : Nat) (h : swf (fun _ => (0 : Byte)) m = true) :
    swf (fun _ => (0 : Byte)) (memStore m a bs) = true := by
  induction bs generalizing m a with
  | nil => exact h
  | cons b bs ih => exact ih _ _ (swf_sput _ _ _ _ h)

/-- A byte outside the stored ones reads as before. -/
theorem memByte_memStore_ne (bs : List Nat) (m : List Host.Cell) (a x : Nat) (h : x < a ∨ a + bs.length ≤ x) :
    memByte (memStore m a bs) x = memByte m x := by
  induction bs generalizing m a with
  | nil => rfl
  | cons b bs ih =>
    simp only [List.length_cons] at h
    rw [memStore, ih _ _ (by omega)]
    unfold memByte
    rw [sget_sput_ne _ _ _ (by omega)]

/-- A stored byte reads as stored. -/
theorem memByte_memStore (bs : List Nat) (m : List Host.Cell) (a i : Nat) (h : i < bs.length) :
    memByte (memStore m a bs) (a + i) = bs[i] % 256 := by
  induction bs generalizing m a i with
  | nil => simp at h
  | cons b bs ih =>
    cases i with
    | zero =>
      rw [memStore, memByte_memStore_ne _ _ _ _ (by omega)]
      simp [memByte]
    | succ i =>
      rw [memStore, show a + (i + 1) = a + 1 + i by omega, ih _ _ _ (by simpa using h)]
      simp

/-! ### Bit fields -/

theorem getBits_lt (w : Word) (hi lo : Nat) : getBits w hi lo < 2 ^ (hi + 1 - lo) := Nat.mod_lt _ (by positivity)

/-- A field reads what was written to it. -/
theorem getBits_setBits (w : Word) (hi lo v : Nat) (h : lo ≤ hi) (hw : hi < 32) :
    getBits (setBits w hi lo v) hi lo = v % 2 ^ (hi + 1 - lo) := by
  unfold getBits setBits
  obtain ⟨d, rfl⟩ := Nat.exists_eq_add_of_le h
  have hd : lo + d + 1 - lo = d + 1 := by omega
  rw [hd, BitVec.toNat_ofNat]
  have e1 : 2 ^ (lo + d + 1) = 2 ^ lo * 2 ^ (d + 1) := by rw [← pow_add]; ring_nf
  obtain ⟨c, hc⟩ := Nat.exists_eq_add_of_le (show lo + d + 1 ≤ 32 by omega)
  have e2 : 2 ^ 32 = 2 ^ lo * 2 ^ (d + 1) * 2 ^ c := by rw [hc, pow_add, e1]
  set A := w.toNat / 2 ^ (lo + d + 1)
  set B := v % 2 ^ (d + 1) with hB
  set C := w.toNat % 2 ^ lo with hC
  have hCl : C < 2 ^ lo := Nat.mod_lt _ (by positivity)
  have hBl : B < 2 ^ (d + 1) := Nat.mod_lt _ (by positivity)
  rw [e1, e2, mul_assoc, Nat.mod_mul_right_div_self, Nat.mod_mul_right_mod]
  have : A * (2 ^ lo * 2 ^ (d + 1)) + B * 2 ^ lo + C = C + 2 ^ lo * (B + 2 ^ (d + 1) * A) := by ring
  rw [this, Nat.add_mul_div_left _ _ (by positivity), Nat.div_eq_of_lt hCl, zero_add, Nat.add_mul_mod_self_left,
    Nat.mod_eq_of_lt hBl]

/-- A field below the written one reads as before. -/
theorem getBits_setBits_below (w : Word) (hi lo v hi' lo' : Nat) (h : hi' < lo) (hl : lo ≤ hi) (hw : hi < 32) :
    getBits (setBits w hi lo v) hi' lo' = getBits w hi' lo' := by
  by_cases hlo : hi' < lo'
  · unfold getBits
    have : hi' + 1 - lo' = 0 := by omega
    simp [this, Nat.mod_one]
  · unfold getBits setBits
    rw [BitVec.toNat_ofNat]
    obtain ⟨a, ha⟩ := Nat.exists_eq_add_of_le (show hi' + 1 ≤ lo by omega)
    obtain ⟨d, hd⟩ := Nat.exists_eq_add_of_le (show lo' ≤ hi' + 1 by omega)
    obtain ⟨c, hc⟩ := Nat.exists_eq_add_of_le (show lo ≤ 32 by omega)
    obtain ⟨e, he⟩ := Nat.exists_eq_add_of_le (show lo ≤ hi + 1 by omega)
    have key : ∀ n : Nat, n / 2 ^ lo' % 2 ^ (hi' + 1 - lo') = n % 2 ^ lo / 2 ^ lo' % 2 ^ (hi' + 1 - lo') := by
      intro n
      have e1 : hi' + 1 - lo' = d := by omega
      have e2 : lo = lo' + (d + a) := by omega
      rw [e1, e2, pow_add, Nat.mod_mul_right_div_self, pow_add, Nat.mod_mul_right_mod]
    rw [key, key w.toNat]
    congr 2
    have e2 : (2:Nat) ^ 32 = 2 ^ lo * 2 ^ c := by rw [hc, pow_add]
    rw [e2, Nat.mod_mul_right_mod, he, pow_add]
    have : w.toNat / (2 ^ lo * 2 ^ e) * (2 ^ lo * 2 ^ e) + v % 2 ^ (lo + e - lo) * 2 ^ lo + w.toNat % 2 ^ lo =
        w.toNat % 2 ^ lo + 2 ^ lo * (v % 2 ^ (lo + e - lo) + w.toNat / (2 ^ lo * 2 ^ e) * 2 ^ e) := by ring
    rw [this, Nat.add_mul_mod_self_left, Nat.mod_mod]

/-- A field above the written one reads as before. -/
theorem getBits_setBits_above (w : Word) (hi lo v hi' lo' : Nat) (h : hi < lo') (hl : lo ≤ hi) (hw : hi < 32) :
    getBits (setBits w hi lo v) hi' lo' = getBits w hi' lo' := by
  unfold getBits setBits
  rw [BitVec.toNat_ofNat]
  obtain ⟨d, rfl⟩ := Nat.exists_eq_add_of_le hl
  have hd : lo + d + 1 - lo = d + 1 := by omega
  rw [hd]
  have hw2 : w.toNat < 2 ^ 32 := w.isLt
  have hCl : w.toNat % 2 ^ lo < 2 ^ lo := Nat.mod_lt _ (by positivity)
  have hBl : v % 2 ^ (d + 1) < 2 ^ (d + 1) := Nat.mod_lt _ (by positivity)
  have e1 : 2 ^ (lo + d + 1) = 2 ^ lo * 2 ^ (d + 1) := by rw [← pow_add]; ring_nf
  have hX : v % 2 ^ (d + 1) * 2 ^ lo + w.toNat % 2 ^ lo < 2 ^ (lo + d + 1) := by
    rw [e1]
    calc _ < v % 2 ^ (d + 1) * 2 ^ lo + 2 ^ lo := by omega
      _ = (v % 2 ^ (d + 1) + 1) * 2 ^ lo := by ring
      _ ≤ 2 ^ (d + 1) * 2 ^ lo := Nat.mul_le_mul_right _ (by omega)
      _ = _ := by ring
  set X := v % 2 ^ (d + 1) * 2 ^ lo + w.toNat % 2 ^ lo
  have hsum : w.toNat / 2 ^ (lo + d + 1) * 2 ^ (lo + d + 1) + v % 2 ^ (d + 1) * 2 ^ lo + w.toNat % 2 ^ lo =
      X + 2 ^ (lo + d + 1) * (w.toNat / 2 ^ (lo + d + 1)) := by simp only [X]; ring
  rw [hsum]
  obtain ⟨c, hc⟩ := Nat.exists_eq_add_of_le (show lo + d + 1 ≤ 32 by omega)
  have hlt : X + 2 ^ (lo + d + 1) * (w.toNat / 2 ^ (lo + d + 1)) < 2 ^ 32 := by
    have hq : w.toNat / 2 ^ (lo + d + 1) < 2 ^ c := by
      rw [Nat.div_lt_iff_lt_mul (by positivity), ← pow_add, Nat.add_comm c (lo + d + 1), ← hc]; exact hw2
    rw [show (2 : Nat) ^ 32 = 2 ^ (lo + d + 1) * 2 ^ c by rw [← pow_add, ← hc]]
    calc _ < 2 ^ (lo + d + 1) + 2 ^ (lo + d + 1) * (w.toNat / 2 ^ (lo + d + 1)) := by omega
      _ = 2 ^ (lo + d + 1) * (w.toNat / 2 ^ (lo + d + 1) + 1) := by ring
      _ ≤ _ := Nat.mul_le_mul_left _ (by omega)
  rw [Nat.mod_eq_of_lt hlt]
  congr 1
  obtain ⟨k, hk⟩ := Nat.exists_eq_add_of_le (show lo + d + 1 ≤ lo' by omega)
  rw [hk, pow_add 2 (lo + d + 1) k, ← Nat.div_div_eq_div_mul, ← Nat.div_div_eq_div_mul,
    Nat.add_mul_div_left _ _ (by positivity), Nat.div_eq_of_lt hX, zero_add]

/-! ### Single bits -/

theorem bitAt_testBit (n k : Nat) : bitAt n k = n.testBit k := by
  rw [Nat.testBit_eq_decide_div_mod_eq]
  unfold bitAt
  by_cases h : n / 2 ^ k % 2 = 1 <;> simp [h]

/-- A bit that is set reads as set, and every other bit reads as before. -/
theorem bitAt_putBit (n k j : Nat) (b : Bool) : bitAt (putBit n k b) j = if j = k then b else bitAt n j := by
  simp only [bitAt_testBit, putBit]
  have hx : n % 2 ^ k < 2 ^ k := Nat.mod_lt _ (by positivity)
  have e : n / 2 ^ (k + 1) * 2 ^ (k + 1) + (if b = true then 2 ^ k else 0) + n % 2 ^ k =
      2 ^ (k + 1) * (n / 2 ^ (k + 1)) + (2 ^ k * (if b = true then 1 else 0) + n % 2 ^ k) := by
    cases b <;> simp <;> ring
  have hy : 2 ^ k * (if b = true then 1 else 0) + n % 2 ^ k < 2 ^ (k + 1) := by
    rw [pow_succ]; cases b <;> simp <;> omega
  rw [e, Nat.testBit_two_pow_mul_add _ hy, Nat.testBit_two_pow_mul_add _ hx]
  rcases lt_trichotomy j k with h | rfl | h
  · simp [h, h.ne, show j < k + 1 by omega, Nat.testBit_mod_two_pow]
  · cases b <;> simp
  · have h1 : ¬ j < k + 1 := by omega
    simp only [h1, if_false, h.ne', Nat.testBit_div_two_pow]
    congr 1
    omega

theorem putBit_lt (n k : Nat) (b : Bool) (h : n < 2 ^ 32) (hk : k < 32) : putBit n k b < 2 ^ 32 := by
  apply Nat.lt_pow_two_of_testBit
  intro i hi
  rw [← bitAt_testBit, bitAt_putBit, if_neg (by omega), bitAt_testBit]
  exact Nat.testBit_lt_two_pow (lt_of_lt_of_le h (Nat.pow_le_pow_right (by omega) hi))

end Sys2Proof.Machine
end

