-- ==== Sys2Proof/Laws/Regs.lean ====
section
/-! SUPPORT. The register file: reads after writes; the end of a command, which writes page epochs only. -/

namespace Sys2Proof.Machine

open Sys2Proof

variable (s : State)

/-! ### Words -/

@[simp] theorem State.rd_wr_same (l : Lane) (p o : Nat) (w : Word) : (s.wr l p o w).rd l p o = w :=
  sget_sput_same _ _ _ _

theorem State.rd_wr_ne {l k : Lane} {p o q x : Nat} (w : Word) (h : regKey q x k ≠ regKey p o l) :
    (s.wr l p o w).rd k q x = s.rd k q x := by
  unfold State.rd State.wr
  exact sget_sput_ne _ _ _ h

theorem idx_le (l : Lane) : l.idx ≤ 1 := by cases l <;> decide

/-- A register's key: its page and offset, and a lane bit. -/
theorem regKey_form (p o : Nat) (l : Lane) : ∃ b, b ≤ 1 ∧ regKey p o l = p * 4096 + o + b * 1048576 := by
  unfold regKey
  by_cases h : isShared p o = true
  · exact ⟨0, by omega, by rw [if_pos h]⟩
  · exact ⟨l.idx, idx_le l, by rw [if_neg h]⟩

/-- Two registers of different pages or offsets are different. -/
theorem regKey_ne {p o q x : Nat} (l k : Lane) (ho : o < 4096) (hx : x < 4096) (hp : p < 256) (hq : q < 256)
    (h : p ≠ q ∨ o ≠ x) : regKey q x k ≠ regKey p o l := by
  obtain ⟨b, hb, e⟩ := regKey_form p o l
  obtain ⟨c, hc, f⟩ := regKey_form q x k
  omega

/-- A state with the same register file reads the same. -/
theorem State.rd_congr {s t : State} (h : t.regs = s.regs) (l : Lane) (p o : Nat) : t.rd l p o = s.rd l p o := by
  unfold State.rd; rw [h]

theorem State.get_congr {s t : State} (h : t.regs = s.regs) (l : Lane) (f : Fld) : t.get l f = s.get l f := by
  unfold State.get; rw [State.rd_congr h]

/-! ### Fields -/

theorem State.rd_put_ne {l k : Lane} {f : Fld} {q x : Nat} (v : Nat) (h : regKey q x k ≠ regKey f.page f.off l) :
    (s.put l f v).rd k q x = s.rd k q x := State.rd_wr_ne s _ h

/-- A field reads what was written to it. -/
theorem State.get_put_same (l : Lane) (f : Fld) (v : Nat) (h : f.lo ≤ f.hi ∧ f.hi < 32) :
    (s.put l f v).get l f = v % 2 ^ (f.hi + 1 - f.lo) := by
  unfold State.get State.put
  rw [State.rd_wr_same, getBits_setBits _ _ _ _ h.1 h.2]

/-- A field of the other lane's map reads the same where the register is shared. -/
theorem State.get_lane (l k : Lane) (f : Fld) (h : isShared f.page f.off = true) : s.get l f = s.get k f := by
  unfold State.get State.rd
  rw [show regKey f.page f.off l = regKey f.page f.off k by simp only [regKey, h, if_true]]

/-- A field of another register, or bits beside the written ones, read as before. -/
theorem State.get_put_ne (l k : Lane) (f g : Fld) (v : Nat)
    (h : regKey g.page g.off k ≠ regKey f.page f.off l ∨ (g.page = f.page ∧ g.off = f.off ∧ k = l ∧ f.lo ≤ f.hi ∧ f.hi < 32 ∧
      (g.hi < f.lo ∨ f.hi < g.lo))) :
    (s.put l f v).get k g = s.get k g := by
  rcases h with h | ⟨hp, ho, rfl, hl, hw, h⟩
  · unfold State.get; rw [State.rd_put_ne s v h]
  · unfold State.get State.put
    rw [hp, ho, State.rd_wr_same]
    rcases h with h | h
    · exact getBits_setBits_below _ _ _ _ _ _ h hl hw
    · exact getBits_setBits_above _ _ _ _ _ _ h hl hw

/-- A field holds a number of its width. -/
theorem State.get_lt (l : Lane) (f : Fld) : s.get l f < 2 ^ (f.hi + 1 - f.lo) := getBits_lt _ _ _

/-! ### The end of a command -/

theorem touchPage_eq (old s : State) (c : Nat) : touchPage old s c = { s with regs := (touchPage old s c).regs } := by
  unfold touchPage; split <;> rfl

theorem touch_foldl_eq (old : State) (cs : List Nat) (s : State) :
    cs.foldl (touchPage old) s = { s with regs := (cs.foldl (touchPage old) s).regs } := by
  induction cs generalizing s with
  | nil => rfl
  | cons c cs ih =>
    rw [List.foldl_cons, ih, touchPage_eq]

/-- The page epochs are registers. -/
theorem touch_eq (old s : State) : touch old s = { s with regs := (touch old s).regs } := touch_foldl_eq old pageCopies s

theorem touchPage_rd (old s : State) (c : Nat) {l : Lane} {p o : Nat} (h : o % 0x1000 ≠ 0x028) :
    (touchPage old s c).rd l p o = s.rd l p o := by
  unfold touchPage
  split
  · rfl
  · unfold State.rd
    refine sget_sput_ne _ _ _ ?_
    obtain ⟨b, hb, e⟩ := regKey_form p o l
    omega

/-- Every register but the page epochs reads as the command left it. -/
theorem touch_rd (old s : State) {l : Lane} {p o : Nat} (h : o % 0x1000 ≠ 0x028) : (touch old s).rd l p o = s.rd l p o := by
  unfold touch
  generalize pageCopies = cs
  induction cs generalizing s with
  | nil => rfl
  | cons c cs ih => rw [List.foldl_cons, ih, touchPage_rd old s c h]

theorem State.fin_on (old new : State) (h : old.pwr.on = true) : old.fin new = .next (old.settle new) := by
  simp [State.fin, h]

theorem State.settle_rd (old new : State) {l : Lane} {p o : Nat} (h : o % 0x1000 ≠ 0x028) :
    (old.settle new).rd l p o = new.rd l p o := by
  rw [← touch_rd old new h]
  exact State.rd_congr (by simp [State.settle]) l p o

theorem State.settle_get (old new : State) {l : Lane} {f : Fld} (h : f.off % 0x1000 ≠ 0x028) :
    (old.settle new).get l f = new.get l f := by
  unfold State.get; rw [State.settle_rd old new h]

@[simp] theorem State.settle_pending (old new : State) : (old.settle new).pending = old.pending := rfl

@[simp] theorem State.settle_shadow (old new : State) : (old.settle new).shadow = new.shadow := by
  simp only [State.settle, State.trackMotion_shadow]; rw [touch_eq]
@[simp] theorem State.settle_staged (old new : State) : (old.settle new).staged = new.staged := by
  simp only [State.settle, State.trackMotion_staged]; rw [touch_eq]
@[simp] theorem State.settle_lockT (old new : State) : (old.settle new).lockT = new.lockT := by
  simp only [State.settle, State.trackMotion_lockT]; rw [touch_eq]
@[simp] theorem State.settle_marks (old new : State) : (old.settle new).marks = new.marks := by
  simp only [State.settle, State.trackMotion_marks]; rw [touch_eq]
@[simp] theorem State.settle_up (old new : State) : (old.settle new).up = new.up := by
  simp only [State.settle, State.trackMotion_up]; rw [touch_eq]
@[simp] theorem State.settle_free (old new : State) : (old.settle new).free = new.free := by
  simp only [State.settle, State.trackMotion_free]; rw [touch_eq]
@[simp] theorem State.settle_recorder (old new : State) : (old.settle new).recorder = new.recorder := by
  simp only [State.settle, State.trackMotion_recorder]; rw [touch_eq]
@[simp] theorem State.settle_exporter (old new : State) : (old.settle new).exporter = new.exporter := by
  simp only [State.settle, State.trackMotion_exporter]; rw [touch_eq]
@[simp] theorem State.settle_icu (old new : State) : (old.settle new).icu = new.icu := by
  simp only [State.settle, State.trackMotion_icu]; rw [touch_eq]
@[simp] theorem State.settle_plink (old new : State) : (old.settle new).plink = new.plink := by
  simp only [State.settle, State.trackMotion_plink]; rw [touch_eq]
@[simp] theorem State.settle_regWin (old new : State) : (old.settle new).regWin = new.regWin := by
  simp only [State.settle, State.trackMotion_regWin]; rw [touch_eq]
@[simp] theorem State.settle_resendWin (old new : State) : (old.settle new).resendWin = new.resendWin := by
  simp only [State.settle, State.trackMotion_resendWin]; rw [touch_eq]
@[simp] theorem State.settle_nv (old new : State) : (old.settle new).nv = new.nv := by
  simp only [State.settle, State.trackMotion_nv]; rw [touch_eq]
@[simp] theorem State.settle_answer (old new : State) : (old.settle new).answer = new.answer := by
  simp only [State.settle, State.trackMotion_answer]; rw [touch_eq]
@[simp] theorem State.settle_resetting (old new : State) : (old.settle new).resetting = new.resetting := by
  simp only [State.settle, State.trackMotion_resetting]; rw [touch_eq]
@[simp] theorem State.settle_sampleEpoch (old new : State) : (old.settle new).sampleEpoch = new.sampleEpoch := by
  simp only [State.settle, State.trackMotion_sampleEpoch]; rw [touch_eq]
@[simp] theorem State.settle_clock (old new : State) : (old.settle new).clock = new.clock := by
  simp only [State.settle, State.trackMotion_clock]; rw [touch_eq]
@[simp] theorem State.settle_front (old new : State) : (old.settle new).front = new.front := by
  simp only [State.settle, State.trackMotion_front]; rw [touch_eq]
@[simp] theorem State.settle_forming (old new : State) : (old.settle new).forming = new.forming := by
  simp only [State.settle, State.trackMotion_forming]; rw [touch_eq]
@[simp] theorem State.settle_late (old new : State) : (old.settle new).late = new.late := by
  simp only [State.settle, State.trackMotion_late]; rw [touch_eq]
@[simp] theorem State.settle_snap (old new : State) : (old.settle new).snap = new.snap := by
  simp only [State.settle, State.trackMotion_snap]; rw [touch_eq]
@[simp] theorem State.settle_skipRun (old new : State) : (old.settle new).skipRun = new.skipRun := by
  simp only [State.settle, State.trackMotion_skipRun]; rw [touch_eq]
@[simp] theorem State.settle_dramShut (old new : State) : (old.settle new).dramShut = new.dramShut := by
  simp only [State.settle, State.trackMotion_dramShut]; rw [touch_eq]
@[simp] theorem State.settle_dram (old new : State) : (old.settle new).dram = new.dram := by
  simp only [State.settle, State.trackMotion_dram]; rw [touch_eq]
@[simp] theorem State.settle_sram (old new : State) : (old.settle new).sram = new.sram := by
  simp only [State.settle, State.trackMotion_sram]; rw [touch_eq]
@[simp] theorem State.settle_chain (old new : State) : (old.settle new).chain = new.chain := by
  simp only [State.settle, State.trackMotion_chain]; rw [touch_eq]
@[simp] theorem State.settle_mons (old new : State) : (old.settle new).mons = new.mons := by
  simp only [State.settle, State.trackMotion_mons]; rw [touch_eq]
@[simp] theorem State.settle_eis (old new : State) : (old.settle new).eis = new.eis := by
  simp only [State.settle, State.trackMotion_eis]; rw [touch_eq]
@[simp] theorem State.settle_cdt (old new : State) : (old.settle new).cdt = new.cdt := by
  simp only [State.settle, State.trackMotion_cdt]; rw [touch_eq]
@[simp] theorem State.settle_est (old new : State) : (old.settle new).est = new.est := by
  simp only [State.settle, State.trackMotion_est]; rw [touch_eq]
@[simp] theorem State.settle_bal (old new : State) : (old.settle new).bal = new.bal := by
  simp only [State.settle, State.trackMotion_bal]; rw [touch_eq]
@[simp] theorem State.settle_prot (old new : State) : (old.settle new).prot = new.prot := by
  simp only [State.settle, State.trackMotion_prot]; rw [touch_eq]
@[simp] theorem State.settle_safe (old new : State) : (old.settle new).safe = new.safe := by
  simp only [State.settle, State.trackMotion_safe]; rw [touch_eq]
@[simp] theorem State.settle_cle (old new : State) : (old.settle new).cle = new.cle := by
  simp only [State.settle, State.trackMotion_cle]; rw [touch_eq]
@[simp] theorem State.settle_link (old new : State) : (old.settle new).link = new.link := by
  simp only [State.settle, State.trackMotion_link]; rw [touch_eq]
@[simp] theorem State.settle_orders (old new : State) : (old.settle new).orders = new.orders := by
  simp only [State.settle, State.trackMotion_orders]; rw [touch_eq]
@[simp] theorem State.settle_tally (old new : State) : (old.settle new).tally = new.tally := by
  simp only [State.settle, State.trackMotion_tally]; rw [touch_eq]
@[simp] theorem State.settle_lane (old new : State) : (old.settle new).lane = new.lane := by
  simp only [State.settle, State.trackMotion_lane]; rw [touch_eq]
@[simp] theorem State.settle_cbus (old new : State) : (old.settle new).cbus = new.cbus := by
  simp only [State.settle, State.trackMotion_cbus]; rw [touch_eq]
@[simp] theorem State.settle_pwr (old new : State) : (old.settle new).pwr = new.pwr := by
  simp only [State.settle, State.trackMotion_pwr]; rw [touch_eq]
@[simp] theorem State.settle_flash (old new : State) : (old.settle new).flash = new.flash := by
  simp only [State.settle, State.trackMotion_flash]; rw [touch_eq]

end Sys2Proof.Machine
end

