-- ==== Sys2Proof/Laws/Events.lean ====
section
/-! SUPPORT. What raising an event can change: the event latches of pages, the ICUs, the recorder, the exporter, the record
queues, the NV path and the once-a-minute marks; every other part of the state stays. -/

namespace Sys2Proof.Machine

open Sys2Proof

/-- `t` differs from `s` only where raising events may: every named part, and in the register file the event latches, in
which bits are only set. -/
structure EvKeeps (s t : State) : Prop where
  parts : t = { s with
    regs := t.regs, recorder := t.recorder, exporter := t.exporter, icu := t.icu, plink := t.plink, nv := t.nv,
    marks := t.marks }
  nv : t.nv = { s.nv with queue := t.nv.queue, busy := t.nv.busy }
  rd : ∀ l p o, o < 4096 → p < 256 → o ≠ 0x010 → o ≠ 0x018 → t.rd l p o = s.rd l p o
  latched : ∀ l p o k, bitAt (s.rd l p o).toNat k = true → o = 0x010 ∨ o = 0x018 → p < 256 →
    bitAt (t.rd l p o).toNat k = true

theorem EvKeeps.refl (s : State) : EvKeeps s s := ⟨rfl, rfl, fun _ _ _ _ _ _ _ => rfl, fun _ _ _ _ h _ _ => h⟩

theorem EvKeeps.trans {s t u : State} (h : EvKeeps s t) (k : EvKeeps t u) : EvKeeps s u := by
  refine ⟨?_, ?_, fun l p o a b c d => (k.rd l p o a b c d).trans (h.rd l p o a b c d),
    fun l p o b hb ho hp => k.latched l p o b (h.latched l p o b hb ho hp) ho hp⟩
  · rw [k.parts, h.parts]
  · rw [k.nv, h.nv]

/-- A change of those parts alone. -/
theorem EvKeeps.set (s : State) (rc : Recorder) (ex : Exporter) (ic : Pair Icu) (pl : Pair Plink) (nq : List NvUnit)
    (nb : Option NvUnit) (mk : List (Nat × Nat)) :
    EvKeeps s { s with
      recorder := rc, exporter := ex, icu := ic, plink := pl, nv := { s.nv with queue := nq, busy := nb }, marks := mk } :=
  ⟨rfl, rfl, fun _ _ _ _ _ _ _ => rfl, fun _ _ _ _ h _ _ => h⟩

theorem nvKick_keeps (s : State) : EvKeeps s s.nvKick := by
  unfold State.nvKick
  split
  · exact .refl s
  · split
    · exact .refl s
    · exact .set s _ _ _ _ _ _ _

theorem nvWrite_keeps (s : State) (off seq : Nat) (b : NvBody) (n : Nat) : EvKeeps s (s.nvWrite off seq b n) := by
  unfold State.nvWrite
  split
  · exact .refl s
  · refine EvKeeps.trans ?_ (nvKick_keeps _)
    exact .set s _ _ _ _ _ _ _

/-- A bit of a register word set. -/
theorem setBit_rd (s : State) (l : Lane) (p o k : Nat) (hk : k < 32) (j : Nat) :
    bitAt ((s.setBit l p o k).rd l p o).toNat j = if j = k then true else bitAt (s.rd l p o).toNat j := by
  unfold State.setBit
  rw [State.rd_wr_same, BitVec.toNat_ofNat, Nat.mod_eq_of_lt (putBit_lt _ _ _ (s.rd l p o).isLt hk), bitAt_putBit]

theorem regKey_inj {p o : Nat} {l k : Lane} (h : regKey p o l = regKey p o k) (s : State) : s.rd l p o = s.rd k p o := by
  unfold State.rd; rw [h]

theorem setBit_keeps (s : State) (l : Lane) (p o k : Nat) (hp : p < 256) (ho : o = 0x010 ∨ o = 0x018) (hk : k < 32) :
    EvKeeps s (s.setBit l p o k) := by
  refine ⟨rfl, rfl, fun m q x hx hq h1 h2 => ?_, fun m q x j hj hx hq => ?_⟩
  · exact State.rd_wr_ne _ _ (regKey_ne _ _ (by omega) hx hp hq (.inr (by omega)))
  · by_cases e : regKey q x m = regKey p o l
    · have hpo : q = p ∧ x = o := by
        by_contra hne
        exact regKey_ne l m (by omega) (by omega) hp hq (by omega) e
      obtain ⟨rfl, rfl⟩ := hpo
      rw [regKey_inj e, setBit_rd s l q x k hk j]
      rw [regKey_inj e] at hj
      split
      · rfl
      · exact hj
    · rw [show (s.setBit l p o k).rd m q x = s.rd m q x from State.rd_wr_ne _ _ e]
      exact hj

theorem latch_keeps (s : State) (l : Lane) (p b : Nat) (hp : p < 256) (hb : b < 32) : EvKeeps s (s.latch l p b) :=
  (setBit_keeps s l p 0x010 b hp (.inl rfl) hb).trans (setBit_keeps _ l p 0x018 b hp (.inr rfl) hb)

/-- The latch that xx_EVT shows is set. -/
theorem latch_rd (s : State) (l : Lane) (p b : Nat) (hb : b < 32) : bitAt ((s.latch l p b).rd l p 0x018).toNat b = true := by
  unfold State.latch
  rw [setBit_rd _ _ _ _ _ hb, if_pos rfl]

theorem evtBit_lt (c : Nat) : evtBit c < 32 := by
  unfold evtBit; split <;> omega

theorem mark_keeps (s : State) (k : Nat) : EvKeeps s (s.mark k) := .set s _ _ _ _ _ _ _

theorem form_keeps (s : State) (l : Lane) (n typ stream epoch : Nat) (pl : List Nat) :
    EvKeeps s (s.form l n typ stream epoch pl).1 := by
  unfold State.form
  simp only
  split
  · exact .set s _ _ _ _ _ _ _
  · exact .set s _ _ _ _ _ _ _

theorem formAll_keeps (s : State) (n typ stream epoch : Nat) (pl : List Nat) :
    EvKeeps s (s.formAll n typ stream epoch pl).1 := by
  unfold State.formAll
  generalize lanes.filter s.active = ls
  have : ∀ (x : State × List Raising), EvKeeps s x.1 → EvKeeps s (ls.foldl
      (fun (x : State × List Raising) l =>
        let (s, f) := x.1.form l n typ stream epoch pl
        (s, x.2 ++ f)) x).1 := by
    induction ls with
    | nil => exact fun x h => h
    | cons l ls ih => exact fun x h => ih _ (h.trans (form_keeps x.1 l n typ stream epoch pl))
  exact this _ (.refl s)

theorem sendBatch_keeps (s : State) : EvKeeps s s.sendBatch.1 := by
  unfold State.sendBatch
  split
  · exact .refl s
  · simp only
    refine EvKeeps.trans ?_ (formAll_keeps _ _ _ _ _ _)
    exact .set s _ _ _ _ _ _ _

theorem exportEntry_keeps (s : State) (e : EvRec) : EvKeeps s (s.exportEntry e).1 := by
  unfold State.exportEntry
  simp only
  repeat' split
  all_goals first
    | exact .refl s
    | exact .set s _ _ _ _ _ _ _
    | (refine EvKeeps.trans ?_ (sendBatch_keeps _); exact .set s _ _ _ _ _ _ _)

theorem exportFrom_keeps (s : State) (l : Lane) (e : EvRec) : EvKeeps s (s.exportFrom l e).1 := by
  unfold State.exportFrom
  simp only
  split
  · split
    · exact .set s _ _ _ _ _ _ _
    · exact .set s _ _ _ _ _ _ _
  · exact exportEntry_keeps s e

theorem icuRouse_keeps (s : State) (l : Lane) : EvKeeps s (s.icuRouse l) := .set s _ _ _ _ _ _ _

theorem icuTake_keeps (s : State) (l : Lane) (e : EvRec) : EvKeeps s (s.icuTake l e).1 := by
  unfold State.icuTake
  simp only
  split
  · exact .set s _ _ _ _ _ _ _
  · split
    · refine EvKeeps.trans ?_ (exportFrom_keeps _ _ _)
      exact .set s _ _ _ _ _ _ _
    · exact .set s _ _ _ _ _ _ _

theorem traceMark_keeps (s : State) (l : Lane) (c : Nat) : EvKeeps s (s.traceMark l c) := .set s _ _ _ _ _ _ _

theorem icuIntake_keeps (s : State) (l : Lane) (e : EvRec) : EvKeeps s (s.icuIntake l e).1 := by
  unfold State.icuIntake
  split
  · exact .refl s
  · simp only
    split
    · refine EvKeeps.trans (traceMark_keeps s l e.code) ?_
      split
      · exact .set (s.traceMark l e.code) _ _ _ _ _ _ _
      · exact .set (s.traceMark l e.code) _ _ _ _ _ _ _
    · exact EvKeeps.trans (traceMark_keeps s l e.code) (icuTake_keeps _ _ _)

theorem repeatBack_keeps (s : State) : EvKeeps s s.repeatBack := by
  unfold State.repeatBack
  split
  · simp only
    split
    · refine EvKeeps.trans ?_ (nvWrite_keeps _ _ _ _ _)
      exact .set s _ _ _ _ _ _ _
    · exact .set s _ _ _ _ _ _ _
  · exact .refl s

theorem recWrite_keeps (s : State) (e : EvRec) : EvKeeps s (s.recWrite e) := by
  unfold State.recWrite
  refine EvKeeps.trans (repeatBack_keeps s) ?_
  simp only
  split
  · refine EvKeeps.trans ?_ (nvWrite_keeps _ _ _ _ _)
    exact .set s.repeatBack _ _ _ _ _ _ _
  · split
    · refine EvKeeps.trans ?_ (nvWrite_keeps _ _ _ _ _)
      exact .set s.repeatBack _ _ _ _ _ _ _
    · exact .set s.repeatBack _ _ _ _ _ _ _

theorem recTreat_keeps (s : State) (e : EvRec) : EvKeeps s (s.recTreat e).1 := by
  unfold State.recTreat
  simp only
  repeat' split
  all_goals first
    | exact .set s _ _ _ _ _ _ _
    | exact recWrite_keeps s e
    | (refine EvKeeps.trans ?_ (recWrite_keeps _ _); exact .set s _ _ _ _ _ _ _)

theorem recIntake_keeps (s : State) (e : EvRec) : EvKeeps s (s.recIntake e).1 := by
  unfold State.recIntake
  simp only
  repeat' split
  all_goals first
    | exact .refl s
    | exact .set s _ _ _ _ _ _ _
    | (refine EvKeeps.trans ?_ (recTreat_keeps _ _); exact .set s _ _ _ _ _ _ _)

/-! ### A raising and what follows from it -/

theorem foldl_keeps {β : Type} (f : State → β → State × List Raising) (hf : ∀ s b, EvKeeps s (f s b).1) (bs : List β)
    (x : State × List Raising) :
    EvKeeps x.1 (bs.foldl (fun (x : State × List Raising) b => ((f x.1 b).1, x.2 ++ (f x.1 b).2)) x).1 := by
  induction bs generalizing x with
  | nil => exact .refl _
  | cons b bs ih => exact (hf x.1 b).trans (ih ((f x.1 b).1, x.2 ++ (f x.1 b).2))

theorem latches_keep (p b : Nat) (hp : p < 256) (hb : b < 32) (ls : List Lane) (s : State) :
    EvKeeps s (ls.foldl (fun s l => s.latch l p b) s) := by
  induction ls generalizing s with
  | nil => exact .refl s
  | cons l ls ih => exact (latch_keeps s l p b hp hb).trans (ih _)

theorem raiseOne_keeps (s : State) (r : Raising) : EvKeeps s (s.raiseOne r).1 := by
  unfold State.raiseOne
  simp only
  refine EvKeeps.trans ?_ (recIntake_keeps _ _)
  refine EvKeeps.trans ?_ (foldl_keeps _ (fun s l => icuIntake_keeps s l _) _ _)
  exact latches_keep _ _ (Nat.mod_lt _ (by omega)) (evtBit_lt _) _ _

theorem latches_rd (p b : Nat) (hp : p < 256) (hb : b < 32) (ls : List Lane) (s : State) (l : Lane) (h : l ∈ ls) :
    bitAt ((ls.foldl (fun s l => s.latch l p b) s).rd l p 0x018).toNat b = true := by
  induction ls generalizing s with
  | nil => simp at h
  | cons k ls ih =>
    rcases List.mem_cons.1 h with rfl | h
    · exact (latches_keep p b hp hb ls _).latched _ _ _ _ (latch_rd s l p b hb) (.inr rfl) hp
    · exact ih _ h

theorem raiseOne_latched (s : State) (r : Raising) (l : Lane) (h : l ∈ r.lanes) :
    bitAt ((s.raiseOne r).1.rd l (r.code / 0x100 % 0x100) 0x018).toNat (evtBit r.code) = true := by
  have hp : r.code / 0x100 % 0x100 < 256 := Nat.mod_lt _ (by omega)
  unfold State.raiseOne
  simp only
  refine (EvKeeps.trans (foldl_keeps _ (fun s l => icuIntake_keeps s l _) _ _) (recIntake_keeps _ _)).latched _ _ _ _ ?_
    (.inr rfl) hp
  exact latches_rd _ _ hp (evtBit_lt _) _ _ _ h

theorem raiseAll_keeps (n : Nat) (s : State) (rs : List Raising) : EvKeeps s (raiseAll n s rs) := by
  induction n generalizing s rs with
  | zero => exact .refl s
  | succ n ih =>
    unfold raiseAll
    simp only
    split
    · exact foldl_keeps _ raiseOne_keeps rs (s, [])
    · exact (foldl_keeps _ raiseOne_keeps rs (s, [])).trans (ih _ _)

theorem raiseAll_one (n : Nat) (s : State) (r : Raising) : raiseAll (n + 1) s [r] =
    if (s.raiseOne r).2.isEmpty then (s.raiseOne r).1 else raiseAll n (s.raiseOne r).1 (s.raiseOne r).2 := rfl

theorem raiseAll_latched (n : Nat) (s : State) (r : Raising) (l : Lane) (h : l ∈ r.lanes) :
    bitAt ((raiseAll (n + 1) s [r]).rd l (r.code / 0x100 % 0x100) 0x018).toNat (evtBit r.code) = true := by
  have hp : r.code / 0x100 % 0x100 < 256 := Nat.mod_lt _ (by omega)
  rw [raiseAll_one]
  by_cases e : (s.raiseOne r).2.isEmpty = true
  · rw [if_pos e]
    exact raiseOne_latched s r l h
  · rw [if_neg e]
    exact (raiseAll_keeps n _ _).latched _ _ _ _ (raiseOne_latched s r l h) (.inr rfl) hp

/-- An event of a shared page is latched for both lanes (R77). -/
theorem ev_latched (s : State) (code unit : Nat) (data : List Nat) (l : Lane) :
    bitAt ((s.ev code unit data).rd l (code / 0x100 % 0x100) 0x018).toNat (evtBit code) = true :=
  raiseAll_latched 5 s ⟨lanes, code, unit, data, false⟩ l (by cases l <;> simp [lanes])

/-- An event of a lane's page is latched there (R77). -/
theorem evL_latched (s : State) (l : Lane) (code unit : Nat) (data : List Nat) :
    bitAt ((s.evL l code unit data).rd l (code / 0x100 % 0x100) 0x018).toNat (evtBit code) = true :=
  raiseAll_latched 5 s ⟨[l], code, unit, data, false⟩ l (by simp)

/-- What an event of a shared page can change. -/
theorem ev_keeps (s : State) (code unit : Nat) (data : List Nat) : EvKeeps s (s.ev code unit data) := raiseAll_keeps _ _ _

/-- What an event of a lane's page can change. -/
theorem evL_keeps (s : State) (l : Lane) (code unit : Nat) (data : List Nat) : EvKeeps s (s.evL l code unit data) :=
  raiseAll_keeps _ _ _

theorem evIf_keeps (s : State) (c : Bool) (code unit : Nat) (data : List Nat) : EvKeeps s (s.evIf c code unit data) := by
  unfold State.evIf
  split
  · exact ev_keeps _ _ _ _
  · exact .refl s

/-- What forming a record of a stream in every active lane can change. -/
theorem emitAll_keeps (s : State) (n typ stream epoch : Nat) (pl : List Nat) : EvKeeps s (s.emitAll n typ stream epoch pl) := by
  unfold State.emitAll
  exact (formAll_keeps s n typ stream epoch pl).trans (raiseAll_keeps _ _ _)

theorem sendEvents_keeps (s : State) : EvKeeps s s.sendEvents := by
  unfold State.sendEvents
  exact (sendBatch_keeps s).trans (raiseAll_keeps _ _ _)

/-! ### The parts that events leave alone -/

section

variable {s t : State}

theorem EvKeeps.shadow (h : EvKeeps s t) : t.shadow = s.shadow := (congrArg State.shadow h.parts).trans rfl
theorem EvKeeps.staged (h : EvKeeps s t) : t.staged = s.staged := (congrArg State.staged h.parts).trans rfl
theorem EvKeeps.lockT (h : EvKeeps s t) : t.lockT = s.lockT := (congrArg State.lockT h.parts).trans rfl
theorem EvKeeps.up (h : EvKeeps s t) : t.up = s.up := (congrArg State.up h.parts).trans rfl
theorem EvKeeps.free (h : EvKeeps s t) : t.free = s.free := (congrArg State.free h.parts).trans rfl
theorem EvKeeps.regWin (h : EvKeeps s t) : t.regWin = s.regWin := (congrArg State.regWin h.parts).trans rfl
theorem EvKeeps.resendWin (h : EvKeeps s t) : t.resendWin = s.resendWin := (congrArg State.resendWin h.parts).trans rfl
theorem EvKeeps.answer (h : EvKeeps s t) : t.answer = s.answer := (congrArg State.answer h.parts).trans rfl
theorem EvKeeps.resetting (h : EvKeeps s t) : t.resetting = s.resetting := (congrArg State.resetting h.parts).trans rfl
theorem EvKeeps.sampleEpoch (h : EvKeeps s t) : t.sampleEpoch = s.sampleEpoch := (congrArg State.sampleEpoch h.parts).trans rfl
theorem EvKeeps.clock (h : EvKeeps s t) : t.clock = s.clock := (congrArg State.clock h.parts).trans rfl
theorem EvKeeps.front (h : EvKeeps s t) : t.front = s.front := (congrArg State.front h.parts).trans rfl
theorem EvKeeps.forming (h : EvKeeps s t) : t.forming = s.forming := (congrArg State.forming h.parts).trans rfl
theorem EvKeeps.snap (h : EvKeeps s t) : t.snap = s.snap := (congrArg State.snap h.parts).trans rfl
theorem EvKeeps.skipRun (h : EvKeeps s t) : t.skipRun = s.skipRun := (congrArg State.skipRun h.parts).trans rfl
theorem EvKeeps.dram (h : EvKeeps s t) : t.dram = s.dram := (congrArg State.dram h.parts).trans rfl
theorem EvKeeps.sram (h : EvKeeps s t) : t.sram = s.sram := (congrArg State.sram h.parts).trans rfl
theorem EvKeeps.still (h : EvKeeps s t) : t.still = s.still := (congrArg State.still h.parts).trans rfl
theorem EvKeeps.chain (h : EvKeeps s t) : t.chain = s.chain := (congrArg State.chain h.parts).trans rfl
theorem EvKeeps.mons (h : EvKeeps s t) : t.mons = s.mons := (congrArg State.mons h.parts).trans rfl
theorem EvKeeps.eis (h : EvKeeps s t) : t.eis = s.eis := (congrArg State.eis h.parts).trans rfl
theorem EvKeeps.cdt (h : EvKeeps s t) : t.cdt = s.cdt := (congrArg State.cdt h.parts).trans rfl
theorem EvKeeps.est (h : EvKeeps s t) : t.est = s.est := (congrArg State.est h.parts).trans rfl
theorem EvKeeps.bal (h : EvKeeps s t) : t.bal = s.bal := (congrArg State.bal h.parts).trans rfl
theorem EvKeeps.prot (h : EvKeeps s t) : t.prot = s.prot := (congrArg State.prot h.parts).trans rfl
theorem EvKeeps.safe (h : EvKeeps s t) : t.safe = s.safe := (congrArg State.safe h.parts).trans rfl
theorem EvKeeps.cle (h : EvKeeps s t) : t.cle = s.cle := (congrArg State.cle h.parts).trans rfl
theorem EvKeeps.link (h : EvKeeps s t) : t.link = s.link := (congrArg State.link h.parts).trans rfl
theorem EvKeeps.orders (h : EvKeeps s t) : t.orders = s.orders := (congrArg State.orders h.parts).trans rfl
theorem EvKeeps.tally (h : EvKeeps s t) : t.tally = s.tally := (congrArg State.tally h.parts).trans rfl
theorem EvKeeps.lane (h : EvKeeps s t) : t.lane = s.lane := (congrArg State.lane h.parts).trans rfl
theorem EvKeeps.cbus (h : EvKeeps s t) : t.cbus = s.cbus := (congrArg State.cbus h.parts).trans rfl
theorem EvKeeps.pwr (h : EvKeeps s t) : t.pwr = s.pwr := (congrArg State.pwr h.parts).trans rfl
theorem EvKeeps.flash (h : EvKeeps s t) : t.flash = s.flash := (congrArg State.flash h.parts).trans rfl
theorem EvKeeps.pending (h : EvKeeps s t) : t.pending = s.pending := (congrArg State.pending h.parts).trans rfl

theorem EvKeeps.get (h : EvKeeps s t) (l : Lane) (f : Fld) (ho : f.off < 4096 ∧ f.page < 256 ∧ f.off ≠ 0x010 ∧ f.off ≠ 0x018) :
    t.get l f = s.get l f := by
  unfold State.get; rw [h.rd l f.page f.off ho.1 ho.2.1 ho.2.2.1 ho.2.2.2]

end

@[simp] theorem State.ev_shadow (s : State) (c u : Nat) (d : List Nat) : (s.ev c u d).shadow = s.shadow :=
  (ev_keeps s c u d).shadow
@[simp] theorem State.ev_staged (s : State) (c u : Nat) (d : List Nat) : (s.ev c u d).staged = s.staged :=
  (ev_keeps s c u d).staged
@[simp] theorem State.ev_lockT (s : State) (c u : Nat) (d : List Nat) : (s.ev c u d).lockT = s.lockT :=
  (ev_keeps s c u d).lockT
@[simp] theorem State.ev_up (s : State) (c u : Nat) (d : List Nat) : (s.ev c u d).up = s.up :=
  (ev_keeps s c u d).up
@[simp] theorem State.ev_free (s : State) (c u : Nat) (d : List Nat) : (s.ev c u d).free = s.free :=
  (ev_keeps s c u d).free
@[simp] theorem State.ev_regWin (s : State) (c u : Nat) (d : List Nat) : (s.ev c u d).regWin = s.regWin :=
  (ev_keeps s c u d).regWin
@[simp] theorem State.ev_resendWin (s : State) (c u : Nat) (d : List Nat) : (s.ev c u d).resendWin = s.resendWin :=
  (ev_keeps s c u d).resendWin
@[simp] theorem State.ev_answer (s : State) (c u : Nat) (d : List Nat) : (s.ev c u d).answer = s.answer :=
  (ev_keeps s c u d).answer
@[simp] theorem State.ev_resetting (s : State) (c u : Nat) (d : List Nat) : (s.ev c u d).resetting = s.resetting :=
  (ev_keeps s c u d).resetting
@[simp] theorem State.ev_sampleEpoch (s : State) (c u : Nat) (d : List Nat) : (s.ev c u d).sampleEpoch = s.sampleEpoch :=
  (ev_keeps s c u d).sampleEpoch
@[simp] theorem State.ev_clock (s : State) (c u : Nat) (d : List Nat) : (s.ev c u d).clock = s.clock :=
  (ev_keeps s c u d).clock
@[simp] theorem State.ev_front (s : State) (c u : Nat) (d : List Nat) : (s.ev c u d).front = s.front :=
  (ev_keeps s c u d).front
@[simp] theorem State.ev_forming (s : State) (c u : Nat) (d : List Nat) : (s.ev c u d).forming = s.forming :=
  (ev_keeps s c u d).forming
@[simp] theorem State.ev_snap (s : State) (c u : Nat) (d : List Nat) : (s.ev c u d).snap = s.snap :=
  (ev_keeps s c u d).snap
@[simp] theorem State.ev_skipRun (s : State) (c u : Nat) (d : List Nat) : (s.ev c u d).skipRun = s.skipRun :=
  (ev_keeps s c u d).skipRun
@[simp] theorem State.ev_dram (s : State) (c u : Nat) (d : List Nat) : (s.ev c u d).dram = s.dram :=
  (ev_keeps s c u d).dram
@[simp] theorem State.ev_sram (s : State) (c u : Nat) (d : List Nat) : (s.ev c u d).sram = s.sram :=
  (ev_keeps s c u d).sram
@[simp] theorem State.ev_still (s : State) (c u : Nat) (d : List Nat) : (s.ev c u d).still = s.still :=
  (ev_keeps s c u d).still
@[simp] theorem State.ev_chain (s : State) (c u : Nat) (d : List Nat) : (s.ev c u d).chain = s.chain :=
  (ev_keeps s c u d).chain
@[simp] theorem State.ev_mons (s : State) (c u : Nat) (d : List Nat) : (s.ev c u d).mons = s.mons :=
  (ev_keeps s c u d).mons
@[simp] theorem State.ev_eis (s : State) (c u : Nat) (d : List Nat) : (s.ev c u d).eis = s.eis :=
  (ev_keeps s c u d).eis
@[simp] theorem State.ev_cdt (s : State) (c u : Nat) (d : List Nat) : (s.ev c u d).cdt = s.cdt :=
  (ev_keeps s c u d).cdt
@[simp] theorem State.ev_est (s : State) (c u : Nat) (d : List Nat) : (s.ev c u d).est = s.est :=
  (ev_keeps s c u d).est
@[simp] theorem State.ev_bal (s : State) (c u : Nat) (d : List Nat) : (s.ev c u d).bal = s.bal :=
  (ev_keeps s c u d).bal
@[simp] theorem State.ev_prot (s : State) (c u : Nat) (d : List Nat) : (s.ev c u d).prot = s.prot :=
  (ev_keeps s c u d).prot
@[simp] theorem State.ev_safe (s : State) (c u : Nat) (d : List Nat) : (s.ev c u d).safe = s.safe :=
  (ev_keeps s c u d).safe
@[simp] theorem State.ev_cle (s : State) (c u : Nat) (d : List Nat) : (s.ev c u d).cle = s.cle :=
  (ev_keeps s c u d).cle
@[simp] theorem State.ev_link (s : State) (c u : Nat) (d : List Nat) : (s.ev c u d).link = s.link :=
  (ev_keeps s c u d).link
@[simp] theorem State.ev_orders (s : State) (c u : Nat) (d : List Nat) : (s.ev c u d).orders = s.orders :=
  (ev_keeps s c u d).orders
@[simp] theorem State.ev_tally (s : State) (c u : Nat) (d : List Nat) : (s.ev c u d).tally = s.tally :=
  (ev_keeps s c u d).tally
@[simp] theorem State.ev_lane (s : State) (c u : Nat) (d : List Nat) : (s.ev c u d).lane = s.lane :=
  (ev_keeps s c u d).lane
@[simp] theorem State.ev_cbus (s : State) (c u : Nat) (d : List Nat) : (s.ev c u d).cbus = s.cbus :=
  (ev_keeps s c u d).cbus
@[simp] theorem State.ev_pwr (s : State) (c u : Nat) (d : List Nat) : (s.ev c u d).pwr = s.pwr :=
  (ev_keeps s c u d).pwr
@[simp] theorem State.ev_flash (s : State) (c u : Nat) (d : List Nat) : (s.ev c u d).flash = s.flash :=
  (ev_keeps s c u d).flash
@[simp] theorem State.ev_pending (s : State) (c u : Nat) (d : List Nat) : (s.ev c u d).pending = s.pending :=
  (ev_keeps s c u d).pending

@[simp] theorem State.evL_shadow (s : State) (l : Lane) (c u : Nat) (d : List Nat) : (s.evL l c u d).shadow = s.shadow :=
  (evL_keeps s l c u d).shadow
@[simp] theorem State.evL_staged (s : State) (l : Lane) (c u : Nat) (d : List Nat) : (s.evL l c u d).staged = s.staged :=
  (evL_keeps s l c u d).staged
@[simp] theorem State.evL_lockT (s : State) (l : Lane) (c u : Nat) (d : List Nat) : (s.evL l c u d).lockT = s.lockT :=
  (evL_keeps s l c u d).lockT
@[simp] theorem State.evL_up (s : State) (l : Lane) (c u : Nat) (d : List Nat) : (s.evL l c u d).up = s.up :=
  (evL_keeps s l c u d).up
@[simp] theorem State.evL_free (s : State) (l : Lane) (c u : Nat) (d : List Nat) : (s.evL l c u d).free = s.free :=
  (evL_keeps s l c u d).free
@[simp] theorem State.evL_regWin (s : State) (l : Lane) (c u : Nat) (d : List Nat) : (s.evL l c u d).regWin = s.regWin :=
  (evL_keeps s l c u d).regWin
@[simp] theorem State.evL_resendWin (s : State) (l : Lane) (c u : Nat) (d : List Nat) : (s.evL l c u d).resendWin = s.resendWin :=
  (evL_keeps s l c u d).resendWin
@[simp] theorem State.evL_answer (s : State) (l : Lane) (c u : Nat) (d : List Nat) : (s.evL l c u d).answer = s.answer :=
  (evL_keeps s l c u d).answer
@[simp] theorem State.evL_resetting (s : State) (l : Lane) (c u : Nat) (d : List Nat) : (s.evL l c u d).resetting = s.resetting :=
  (evL_keeps s l c u d).resetting
@[simp] theorem State.evL_sampleEpoch (s : State) (l : Lane) (c u : Nat) (d : List Nat) : (s.evL l c u d).sampleEpoch = s.sampleEpoch :=
  (evL_keeps s l c u d).sampleEpoch
@[simp] theorem State.evL_clock (s : State) (l : Lane) (c u : Nat) (d : List Nat) : (s.evL l c u d).clock = s.clock :=
  (evL_keeps s l c u d).clock
@[simp] theorem State.evL_front (s : State) (l : Lane) (c u : Nat) (d : List Nat) : (s.evL l c u d).front = s.front :=
  (evL_keeps s l c u d).front
@[simp] theorem State.evL_forming (s : State) (l : Lane) (c u : Nat) (d : List Nat) : (s.evL l c u d).forming = s.forming :=
  (evL_keeps s l c u d).forming
@[simp] theorem State.evL_snap (s : State) (l : Lane) (c u : Nat) (d : List Nat) : (s.evL l c u d).snap = s.snap :=
  (evL_keeps s l c u d).snap
@[simp] theorem State.evL_skipRun (s : State) (l : Lane) (c u : Nat) (d : List Nat) : (s.evL l c u d).skipRun = s.skipRun :=
  (evL_keeps s l c u d).skipRun
@[simp] theorem State.evL_dram (s : State) (l : Lane) (c u : Nat) (d : List Nat) : (s.evL l c u d).dram = s.dram :=
  (evL_keeps s l c u d).dram
@[simp] theorem State.evL_sram (s : State) (l : Lane) (c u : Nat) (d : List Nat) : (s.evL l c u d).sram = s.sram :=
  (evL_keeps s l c u d).sram
@[simp] theorem State.evL_still (s : State) (l : Lane) (c u : Nat) (d : List Nat) : (s.evL l c u d).still = s.still :=
  (evL_keeps s l c u d).still
@[simp] theorem State.evL_chain (s : State) (l : Lane) (c u : Nat) (d : List Nat) : (s.evL l c u d).chain = s.chain :=
  (evL_keeps s l c u d).chain
@[simp] theorem State.evL_mons (s : State) (l : Lane) (c u : Nat) (d : List Nat) : (s.evL l c u d).mons = s.mons :=
  (evL_keeps s l c u d).mons
@[simp] theorem State.evL_eis (s : State) (l : Lane) (c u : Nat) (d : List Nat) : (s.evL l c u d).eis = s.eis :=
  (evL_keeps s l c u d).eis
@[simp] theorem State.evL_cdt (s : State) (l : Lane) (c u : Nat) (d : List Nat) : (s.evL l c u d).cdt = s.cdt :=
  (evL_keeps s l c u d).cdt
@[simp] theorem State.evL_est (s : State) (l : Lane) (c u : Nat) (d : List Nat) : (s.evL l c u d).est = s.est :=
  (evL_keeps s l c u d).est
@[simp] theorem State.evL_bal (s : State) (l : Lane) (c u : Nat) (d : List Nat) : (s.evL l c u d).bal = s.bal :=
  (evL_keeps s l c u d).bal
@[simp] theorem State.evL_prot (s : State) (l : Lane) (c u : Nat) (d : List Nat) : (s.evL l c u d).prot = s.prot :=
  (evL_keeps s l c u d).prot
@[simp] theorem State.evL_safe (s : State) (l : Lane) (c u : Nat) (d : List Nat) : (s.evL l c u d).safe = s.safe :=
  (evL_keeps s l c u d).safe
@[simp] theorem State.evL_cle (s : State) (l : Lane) (c u : Nat) (d : List Nat) : (s.evL l c u d).cle = s.cle :=
  (evL_keeps s l c u d).cle
@[simp] theorem State.evL_link (s : State) (l : Lane) (c u : Nat) (d : List Nat) : (s.evL l c u d).link = s.link :=
  (evL_keeps s l c u d).link
@[simp] theorem State.evL_orders (s : State) (l : Lane) (c u : Nat) (d : List Nat) : (s.evL l c u d).orders = s.orders :=
  (evL_keeps s l c u d).orders
@[simp] theorem State.evL_tally (s : State) (l : Lane) (c u : Nat) (d : List Nat) : (s.evL l c u d).tally = s.tally :=
  (evL_keeps s l c u d).tally
@[simp] theorem State.evL_lane (s : State) (l : Lane) (c u : Nat) (d : List Nat) : (s.evL l c u d).lane = s.lane :=
  (evL_keeps s l c u d).lane
@[simp] theorem State.evL_cbus (s : State) (l : Lane) (c u : Nat) (d : List Nat) : (s.evL l c u d).cbus = s.cbus :=
  (evL_keeps s l c u d).cbus
@[simp] theorem State.evL_pwr (s : State) (l : Lane) (c u : Nat) (d : List Nat) : (s.evL l c u d).pwr = s.pwr :=
  (evL_keeps s l c u d).pwr
@[simp] theorem State.evL_flash (s : State) (l : Lane) (c u : Nat) (d : List Nat) : (s.evL l c u d).flash = s.flash :=
  (evL_keeps s l c u d).flash
@[simp] theorem State.evL_pending (s : State) (l : Lane) (c u : Nat) (d : List Nat) : (s.evL l c u d).pending = s.pending :=
  (evL_keeps s l c u d).pending

@[simp] theorem State.emitAll_shadow (s : State) (n t m e : Nat) (d : List Nat) : (s.emitAll n t m e d).shadow = s.shadow :=
  (emitAll_keeps s n t m e d).shadow
@[simp] theorem State.emitAll_staged (s : State) (n t m e : Nat) (d : List Nat) : (s.emitAll n t m e d).staged = s.staged :=
  (emitAll_keeps s n t m e d).staged
@[simp] theorem State.emitAll_lockT (s : State) (n t m e : Nat) (d : List Nat) : (s.emitAll n t m e d).lockT = s.lockT :=
  (emitAll_keeps s n t m e d).lockT
@[simp] theorem State.emitAll_up (s : State) (n t m e : Nat) (d : List Nat) : (s.emitAll n t m e d).up = s.up :=
  (emitAll_keeps s n t m e d).up
@[simp] theorem State.emitAll_free (s : State) (n t m e : Nat) (d : List Nat) : (s.emitAll n t m e d).free = s.free :=
  (emitAll_keeps s n t m e d).free
@[simp] theorem State.emitAll_regWin (s : State) (n t m e : Nat) (d : List Nat) : (s.emitAll n t m e d).regWin = s.regWin :=
  (emitAll_keeps s n t m e d).regWin
@[simp] theorem State.emitAll_resendWin (s : State) (n t m e : Nat) (d : List Nat) : (s.emitAll n t m e d).resendWin = s.resendWin :=
  (emitAll_keeps s n t m e d).resendWin
@[simp] theorem State.emitAll_answer (s : State) (n t m e : Nat) (d : List Nat) : (s.emitAll n t m e d).answer = s.answer :=
  (emitAll_keeps s n t m e d).answer
@[simp] theorem State.emitAll_resetting (s : State) (n t m e : Nat) (d : List Nat) : (s.emitAll n t m e d).resetting = s.resetting :=
  (emitAll_keeps s n t m e d).resetting
@[simp] theorem State.emitAll_sampleEpoch (s : State) (n t m e : Nat) (d : List Nat) : (s.emitAll n t m e d).sampleEpoch = s.sampleEpoch :=
  (emitAll_keeps s n t m e d).sampleEpoch
@[simp] theorem State.emitAll_clock (s : State) (n t m e : Nat) (d : List Nat) : (s.emitAll n t m e d).clock = s.clock :=
  (emitAll_keeps s n t m e d).clock
@[simp] theorem State.emitAll_front (s : State) (n t m e : Nat) (d : List Nat) : (s.emitAll n t m e d).front = s.front :=
  (emitAll_keeps s n t m e d).front
@[simp] theorem State.emitAll_forming (s : State) (n t m e : Nat) (d : List Nat) : (s.emitAll n t m e d).forming = s.forming :=
  (emitAll_keeps s n t m e d).forming
@[simp] theorem State.emitAll_snap (s : State) (n t m e : Nat) (d : List Nat) : (s.emitAll n t m e d).snap = s.snap :=
  (emitAll_keeps s n t m e d).snap
@[simp] theorem State.emitAll_skipRun (s : State) (n t m e : Nat) (d : List Nat) : (s.emitAll n t m e d).skipRun = s.skipRun :=
  (emitAll_keeps s n t m e d).skipRun
@[simp] theorem State.emitAll_dram (s : State) (n t m e : Nat) (d : List Nat) : (s.emitAll n t m e d).dram = s.dram :=
  (emitAll_keeps s n t m e d).dram
@[simp] theorem State.emitAll_sram (s : State) (n t m e : Nat) (d : List Nat) : (s.emitAll n t m e d).sram = s.sram :=
  (emitAll_keeps s n t m e d).sram
@[simp] theorem State.emitAll_still (s : State) (n t m e : Nat) (d : List Nat) : (s.emitAll n t m e d).still = s.still :=
  (emitAll_keeps s n t m e d).still
@[simp] theorem State.emitAll_chain (s : State) (n t m e : Nat) (d : List Nat) : (s.emitAll n t m e d).chain = s.chain :=
  (emitAll_keeps s n t m e d).chain
@[simp] theorem State.emitAll_mons (s : State) (n t m e : Nat) (d : List Nat) : (s.emitAll n t m e d).mons = s.mons :=
  (emitAll_keeps s n t m e d).mons
@[simp] theorem State.emitAll_eis (s : State) (n t m e : Nat) (d : List Nat) : (s.emitAll n t m e d).eis = s.eis :=
  (emitAll_keeps s n t m e d).eis
@[simp] theorem State.emitAll_cdt (s : State) (n t m e : Nat) (d : List Nat) : (s.emitAll n t m e d).cdt = s.cdt :=
  (emitAll_keeps s n t m e d).cdt
@[simp] theorem State.emitAll_est (s : State) (n t m e : Nat) (d : List Nat) : (s.emitAll n t m e d).est = s.est :=
  (emitAll_keeps s n t m e d).est
@[simp] theorem State.emitAll_bal (s : State) (n t m e : Nat) (d : List Nat) : (s.emitAll n t m e d).bal = s.bal :=
  (emitAll_keeps s n t m e d).bal
@[simp] theorem State.emitAll_prot (s : State) (n t m e : Nat) (d : List Nat) : (s.emitAll n t m e d).prot = s.prot :=
  (emitAll_keeps s n t m e d).prot
@[simp] theorem State.emitAll_safe (s : State) (n t m e : Nat) (d : List Nat) : (s.emitAll n t m e d).safe = s.safe :=
  (emitAll_keeps s n t m e d).safe
@[simp] theorem State.emitAll_cle (s : State) (n t m e : Nat) (d : List Nat) : (s.emitAll n t m e d).cle = s.cle :=
  (emitAll_keeps s n t m e d).cle
@[simp] theorem State.emitAll_link (s : State) (n t m e : Nat) (d : List Nat) : (s.emitAll n t m e d).link = s.link :=
  (emitAll_keeps s n t m e d).link
@[simp] theorem State.emitAll_orders (s : State) (n t m e : Nat) (d : List Nat) : (s.emitAll n t m e d).orders = s.orders :=
  (emitAll_keeps s n t m e d).orders
@[simp] theorem State.emitAll_tally (s : State) (n t m e : Nat) (d : List Nat) : (s.emitAll n t m e d).tally = s.tally :=
  (emitAll_keeps s n t m e d).tally
@[simp] theorem State.emitAll_lane (s : State) (n t m e : Nat) (d : List Nat) : (s.emitAll n t m e d).lane = s.lane :=
  (emitAll_keeps s n t m e d).lane
@[simp] theorem State.emitAll_cbus (s : State) (n t m e : Nat) (d : List Nat) : (s.emitAll n t m e d).cbus = s.cbus :=
  (emitAll_keeps s n t m e d).cbus
@[simp] theorem State.emitAll_pwr (s : State) (n t m e : Nat) (d : List Nat) : (s.emitAll n t m e d).pwr = s.pwr :=
  (emitAll_keeps s n t m e d).pwr
@[simp] theorem State.emitAll_flash (s : State) (n t m e : Nat) (d : List Nat) : (s.emitAll n t m e d).flash = s.flash :=
  (emitAll_keeps s n t m e d).flash
@[simp] theorem State.emitAll_pending (s : State) (n t m e : Nat) (d : List Nat) : (s.emitAll n t m e d).pending = s.pending :=
  (emitAll_keeps s n t m e d).pending

end Sys2Proof.Machine
end

