-- ==== Sys2Proof/Laws/Claims.lean ====
section
/-! SUPPORT. How the claims are reached: a command's end, an access that breaks no rule, and the frames. -/

namespace Sys2Proof.Machine

open Sys2Proof

variable {s t : State}

/-! ### The end of a command -/

theorem does_fin {c : Instr} {n : State} {P : State → Prop} (hc : exec c s = s.fin n) (hp : s.pwr.on = true)
    (h : P (s.settle n)) : ∃ t, exec c s = .next t ∧ P t := ⟨_, hc.trans (State.fin_on s n hp), h⟩

theorem does_answered {c : Instr} {x : Nat × State} {P : State → Prop} (hc : exec c s = s.answered x) (hp : s.pwr.on = true)
    (h : P (s.settle { x.2 with answer := (x.1, 0) })) : ∃ t, exec c s = .next t ∧ P t := does_fin hc hp h

theorem does_readOut {c : Instr} {v : Nat} {n : State} {P : State → Prop} (hc : exec c s = s.readOut v n)
    (hp : s.pwr.on = true) (h : P (s.settle { n with answer := (0, v) })) : ∃ t, exec c s = .next t ∧ P t := does_fin hc hp h

/-! ### An access -/

/-- An access that breaks no rule is carried out. -/
theorem access_ok (r : Req) (page off : Nat) (cs : List Chk) (eff : State → State)
    (h : refusal ((.hw, s.deadLane r) :: cs) = none) : s.access r page off cs eff = (0, eff s) := by
  unfold State.access; rw [h]

/-- An access that breaks a rule leaves the refusal record and nothing else. -/
theorem access_refused (r : Req) (page off c : Nat) (cs : List Chk) (eff : State → State)
    (h : refusal ((.hw, s.deadLane r) :: cs) = some c) : s.access r page off cs eff = (c, s.refuse r page off c) := by
  unfold State.access; rw [h]

/-- No rule is broken. -/
theorem refusal_none (cs : List Chk) (h : ∀ c ∈ cs, c.2 = false) : refusal cs = none := by
  unfold refusal
  rw [List.findSome?_eq_none_iff]
  intro w _
  have : cs.any (fun c => c.1 == w && c.2) = false := by
    rw [List.any_eq_false]
    intro c hc
    simp [h c hc]
  simp [this]

/-- An access of which every rule holds is carried out. -/
theorem access_free (r : Req) (page off : Nat) (cs : List Chk) (eff : State → State) (hd : s.deadLane r = false)
    (h : ∀ c ∈ cs, c.2 = false) : s.access r page off cs eff = (0, eff s) := by
  refine access_ok r page off cs eff (refusal_none _ ?_)
  intro c hc
  rcases List.mem_cons.1 hc with rfl | hc
  · exact hd
  · exact h c hc

/-! ### Frames -/

theorem settle_parts (s n : State) : s.settle n = { n with
    regs := (s.settle n).regs, still := (s.settle n).still, pending := s.pending } := by
  unfold State.settle State.trackMotion
  rw [touch_eq]

theorem settle_keeps (ev : Bool) (may : Regs) (s n : State) (h : KeepsRegs ev may s n) : KeepsRegs ev may s (s.settle n) := by
  intro l p o hp ho h28 he hm
  rw [State.settle_rd s n (by omega)]
  exact h l p o hp ho h28 he hm

/-- A command that changes registers only. -/
theorem onlyRegs_settle (may : Regs) (s n : State) (hp : n = { s with regs := n.regs, answer := n.answer })
    (h : KeepsRegs false may s n) : OnlyRegs may s (s.settle n) := by
  refine ⟨?_, settle_keeps _ _ _ _ h⟩
  have e := settle_parts s n
  clear h
  generalize s.settle n = t at *
  rw [e]
  rw [hp]

/-- A command that changes registers and raises events. -/
theorem onlyEvents_settle (may : Regs) (s n : State) (hp : n = { s with
    regs := n.regs, answer := n.answer, recorder := n.recorder, exporter := n.exporter, icu := n.icu, plink := n.plink
    nv := { s.nv with queue := n.nv.queue, busy := n.nv.busy }, marks := n.marks }) (h : KeepsRegs true may s n) :
    OnlyEvents may s (s.settle n) := by
  refine ⟨?_, settle_keeps _ _ _ _ h⟩
  have e := settle_parts s n
  clear h
  generalize s.settle n = t at *
  rw [e]
  rw [hp]

theorem onlyRegs_memory {may : Regs} (h : OnlyRegs may s t) : SameMemory s t := by
  intro l a
  rw [h.1]
  exact ⟨rfl, rfl⟩

theorem onlyEvents_memory {may : Regs} (h : OnlyEvents may s t) : SameMemory s t := by
  intro l a
  rw [h.1]
  exact ⟨rfl, rfl⟩

theorem keepsRegs_put (l : Lane) (f : Fld) (v : Nat) (hf : f.off < 4096 ∧ f.page < 26) (ev : Bool) (may : Regs)
    (hm : ∀ k, may k f.page f.off = true) : KeepsRegs ev may s (s.put l f v) := by
  intro k p o hp ho _ _ h
  refine State.rd_put_ne s v (regKey_ne _ _ hf.1 ho (by omega) (by omega) ?_)
  by_contra hc
  simp only [not_or, not_not] at hc
  rw [← hc.1, ← hc.2, hm] at h
  exact absurd h (by simp)

theorem KeepsRegs.trans {u : State} {ev : Bool} {may : Regs} (h : KeepsRegs ev may s t) (k : KeepsRegs ev may t u) :
    KeepsRegs ev may s u := fun l p o a b c d e => (k l p o a b c d e).trans (h l p o a b c d e)

theorem EvKeeps.regs (h : EvKeeps s t) (may : Regs) : KeepsRegs true may s t := by
  intro l p o hp ho _ he _
  simp only [Bool.true_and, Bool.or_eq_false_iff, beq_eq_false_iff_ne] at he
  exact h.rd l p o ho (by omega) he.1 he.2

/-! ### Reads of a field after the shared operations, with side conditions that `decide` settles -/

/-- A field whose register neither holds event latches nor a page epoch. -/
def plainFld (f : Fld) : Bool :=
  decide (f.off < 4096) && decide (f.page < 26) && f.off != 0x010 && f.off != 0x018 && f.off != 0x028

theorem State.put_other (s : State) (l k : Lane) (f g : Fld) (v : Nat)
    (h : f.off < 4096 ∧ g.off < 4096 ∧ f.page < 256 ∧ g.page < 256 ∧ (f.page ≠ g.page ∨ f.off ≠ g.off)) :
    (s.put l f v).get k g = s.get k g :=
  State.get_put_ne s l k f g v (.inl (regKey_ne l k h.1 h.2.1 h.2.2.1 h.2.2.2.1 h.2.2.2.2))

theorem State.put_beside (s : State) (l : Lane) (f g : Fld) (v : Nat)
    (h : g.page = f.page ∧ g.off = f.off ∧ f.lo ≤ f.hi ∧ f.hi < 32 ∧ (g.hi < f.lo ∨ f.hi < g.lo)) :
    (s.put l f v).get l g = s.get l g :=
  State.get_put_ne s l l f g v (.inr ⟨h.1, h.2.1, rfl, h.2.2.1, h.2.2.2.1, h.2.2.2.2⟩)

theorem State.ev_get (s : State) (c u : Nat) (d : List Nat) (l : Lane) (f : Fld) (h : plainFld f = true) :
    (s.ev c u d).get l f = s.get l f := by
  simp [plainFld] at h
  exact (ev_keeps s c u d).get l f ⟨by omega, by omega, by omega, by omega⟩

theorem State.evL_get (s : State) (k : Lane) (c u : Nat) (d : List Nat) (l : Lane) (f : Fld) (h : plainFld f = true) :
    (s.evL k c u d).get l f = s.get l f := by
  simp [plainFld] at h
  exact (evL_keeps s k c u d).get l f ⟨by omega, by omega, by omega, by omega⟩

theorem State.evIf_get (s : State) (b : Bool) (c u : Nat) (d : List Nat) (l : Lane) (f : Fld) (h : plainFld f = true) :
    (s.evIf b c u d).get l f = s.get l f := by
  simp [plainFld] at h
  exact (evIf_keeps s b c u d).get l f ⟨by omega, by omega, by omega, by omega⟩

theorem State.settle_fld (old new : State) (l : Lane) (f : Fld) (h : plainFld f = true) :
    (old.settle new).get l f = new.get l f := by
  simp [plainFld] at h
  exact State.settle_get old new (by omega)

/-- A latched event stays latched to the end of the command. -/
theorem latched_settle {n : State} (l : Lane) (code : Nat) (h : Latched n l code) : Latched (s.settle n) l code := by
  unfold Latched at *
  rw [State.settle_rd s n (by decide)]
  exact h

theorem latched_keeps {n : State} (h : EvKeeps s n) (l : Lane) (code : Nat) (hc : code < 6656) (hl : Latched s l code) :
    Latched n l code := h.latched _ _ _ _ hl (.inr rfl) (by omega)

theorem latched_congr {n : State} (h : n.regs = s.regs) (l : Lane) (code : Nat) (hl : Latched s l code) : Latched n l code := by
  unfold Latched at *
  rw [State.rd_congr h]
  exact hl

theorem latched_ev (s : State) (code unit : Nat) (data : List Nat) (l : Lane) (hc : code < 6656) :
    Latched (s.ev code unit data) l code := by
  have := ev_latched s code unit data l
  rwa [show code / 0x100 % 0x100 = code / 0x100 by omega] at this

theorem latched_evL (s : State) (l : Lane) (code unit : Nat) (data : List Nat) (hc : code < 6656) :
    Latched (s.evL l code unit data) l code := by
  have := evL_latched s l code unit data
  rwa [show code / 0x100 % 0x100 = code / 0x100 by omega] at this

/-- A register write beside the latches keeps an event latched. -/
theorem latched_put (l k : Lane) (f : Fld) (v code : Nat) (h : plainFld f = true) (hc : code < 6656) (hl : Latched s l code) :
    Latched (s.put k f v) l code := by
  simp [plainFld] at h
  unfold Latched at *
  rw [State.rd_put_ne s v (regKey_ne _ _ (by omega) (by omega) (by omega) (by omega) (.inr (by omega)))]
  exact hl

end Sys2Proof.Machine
end

