-- ==== Sys2Proof/WellFormed.lean ====
section
/-! DEFINITION. The well-formed commands: every operand within the range that the manual gives its field. A meaning reads
an operand outside its range as its low bits; this file says which terms are commands that can be sent. -/

namespace Sys2Proof

/-- An unsigned value of 8, 16 or 32 bits. -/
def u8 (n : Nat) : Bool := decide (n < 2 ^ 8)
def u16 (n : Nat) : Bool := decide (n < 2 ^ 16)
def u32 (n : Nat) : Bool := decide (n < 2 ^ 32)

/-- The 26 register pages (R73). -/
def pageOk (p : Nat) : Bool := decide (p < 26)

/-- A place of the ring counted from RING-E, 1 to 40 (R112). -/
def monOk (k : Nat) : Bool := decide (1 ≤ k) && decide (k ≤ 40)

/-- A monitor ID, 1 to 40 (R112). -/
def idOk (k : Nat) : Bool := decide (1 ≤ k) && decide (k ≤ 40)

/-- A list of bytes. -/
def bytesOk (bs : List Nat) : Bool := bs.all u8

/-- The fields of a ring frame (R109, R110): HOP, HOP_N and ADDR are one byte each, the CRC is two. -/
def Frame.wf (f : Frame) : Bool := u8 f.hop && u8 f.hopN && u8 f.addr && u16 f.crc

/-- A reply (R110): CMD and ADDR of a byte each, payload bytes, a CRC of two bytes. -/
def RingReply.wf (r : RingReply) : Bool := u8 r.cmd && u8 r.addr && bytesOk r.payload && u16 r.crc

/-- A CAN frame (R377): a 32-bit identifier word, a 4-bit DLC, at most 64 data bytes. -/
def CanFrame.wf (f : CanFrame) : Bool := u32 f.id && decide (f.dlc < 16) && bytesOk f.data && decide (f.data.length ≤ 64)

/-- Every operand of a command within its range. -/
def Instr.wf : Instr → Bool
  | .pageSreset _ page => pageOk page
  | .registerWrite _ addr _ => u32 addr
  | .multiwordLowRead _ addr => u32 addr
  | .unmappedAccess _ addr => u32 addr
  | .evtClear _ page _ => pageOk page
  | .evtSet _ page _ => pageOk page
  | .errClear _ page _ => pageOk page
  | .lockOpen _ page => pageOk page
  | .lockClose _ page => pageOk page
  | .lockTimeout _ page => pageOk page
  | .cdtInvalImmediate _ first count => u16 first && u16 count
  | .cdtInvalDeferred _ first count _ => u16 first && u16 count
  | .ptpSyncRx _ dom _ seq _ _ => u8 dom && u16 seq
  | .ptpAnnounceRx _ dom _ _ => u8 dom
  | .ptpFollowUpRx _ dom _ seq _ _ _ => u8 dom && u16 seq
  | .enum k f _ _ => monOk k && f.wf
  | .echo k f => monOk k && f.wf
  | .readReg k f _ _ => monOk k && f.wf
  | .writeReg k f _ _ => monOk k && f.wf
  | .sample k f _ _ => monOk k && f.wf
  | .monitorSampleInstant k _ => monOk k
  | .monitorConversionDone k _ _ => monOk k
  | .readSweep k f _ _ => monOk k && f.wf
  | .sweepSlotSilent _ k => idOk k
  | .chainReplyRx r => r.wf
  | .owResultRx r _ => r.wf
  | .sweepReplyRx _ _ crc => u16 crc
  | .unknownRingCommand k f code payload => monOk k && f.wf && u8 code && bytesOk payload
  | .trimMeasure k _ _ => idOk k
  | .owTest k f _ => monOk k && f.wf
  | .owRoundDone k _ => monOk k
  | .lullEnter k f _ _ _ _ _ => monOk k && f.wf
  | .monitorLullCheck k _ => monOk k
  | .cbusWake f _ => f.wf
  | .monitorSelfLull k => monOk k
  | .bleedPlan k f _ _ => monOk k && f.wf
  | .bleedStop k f _ => monOk k && f.wf
  | .bleedDutyCycle k => monOk k
  | .bleedTimerEnd k n => monOk k && decide (1 ≤ n) && decide (n ≤ 12)
  | .bleedReconcile k _ _ => idOk k
  | .eisSetup k f _ _ _ _ _ _ => monOk k && f.wf
  | .eisFreq k f _ _ => monOk k && f.wf
  | .eisAccept k f _ _ _ => monOk k && f.wf
  | .eisAbortFrame k f _ => monOk k && f.wf
  | .eisRead k f _ _ _ => monOk k && f.wf
  | .protLimitWrite _ k w _ => decide (k < 11) && decide (w < 3)
  | .ntcBlindTimeout k => idOk k
  | .loopSample k _ => decide (k < 8)
  | .converterReturnFrame frame => bytesOk frame
  | .clrPlaus _ k => decide (k < 8)
  | .traceArm _ k _ => decide (k < 8)
  | .traceForce _ k _ => decide (k < 8)
  | .order _ q payload src => u32 q && bytesOk payload && bytesOk src
  | .cbusTxreq _ n => decide (n < 3)
  | .cbusTxCancel _ n => decide (n < 3)
  | .cbusFrameRx _ f _ => f.wf
  | .cbusRxbufLock _ k => decide (k < 2)
  | .cbusRxbufRelease _ k => decide (k < 2)
  | .cbusRxbufLockTimeout _ k => decide (k < 2)
  | .shadowDrop _ n => decide (n < 3)
  | .hppRecordIntake _ _ _ src b => bytesOk src && bytesOk b
  | .regRead _ _ seq addr count src => u32 seq && u32 addr && u16 count && bytesOk src
  | .regWrite _ _ seq addr count _ src => u32 seq && u32 addr && u16 count && bytesOk src
  | .resendReq _ seq _ _ _ src => u32 seq && bytesOk src
  | .flush _ mask => u8 mask
  | .flushEffect _ n => decide (n < 8)
  | .queCntRead _ n => decide (n < 8)
  | .icuClaim _ t => decide (t < 4)
  | .icuEoi _ t k => decide (t < 4) && u8 k
  | .icuModTimeout _ k => u8 k
  | .icuHoldoffEnd _ g => decide (g < 16)
  | .icuRerouteTimeout _ k => u8 k
  | .icuTargetSleep _ t => decide (t < 4)
  | .icuTargetWake _ t => decide (t < 4)
  | .icuMaskWrite _ n _ => decide (n < 8)
  | .serviceRegRead _ seq addr count _ _ => u32 seq && u32 addr && u16 count
  | .serviceRegWrite _ seq addr count _ _ _ => u32 seq && u32 addr && u16 count
  | .stagingData bs => bytesOk bs
  | .monitorPowerUp k => monOk k
  | .icmpEchoRequestRx _ _ target body => bytesOk target && bytesOk body
  | .neighborDiscoveryRx _ _ target => bytesOk target
  | .powerUp _ _ _ _ _ _ | .moduleReset _ _ _ | .brownOutWarning _ | .trunkOvervoltage _ | .brownOutClear _ _
  | .holdupFull | .actUndervoltage _ | .actSupplyRestored _ | .mreset _ | .go _ | .hold _ | .presenceClose _
  | .sealPoll _ | .nvWriteComplete _ _ | .nvmCfgCommit _ | .cdtInvalDone _ | .cdtTableRelocate _ _ _
  | .fmonWindow _ _ _ | .rootRatioWindow _ _ _ | .pdelayReqTx _ _ _ | .pdelayReqRx _ _ _ | .pdelayRespRx _ _ _ _
  | .ptpUnsupportedRx _ | .timeStep _ _ | .timeRateWrite _ _ | .timeReset _ | .tsqPop _ _
  | .tsqDropRead _ | .snapOriginWrite _ _ | .snapPeriodWrite _ _ | .snapSlotsWrite _ _ _ | .chainReenum _
  | .enumerationDone _ _ _ _ _ | .sweepComplete _ | .sampleLoopback _ | .verdictSetRx _
  | .chainOwReq _ _ | .owAll _ | .serTake _ | .chainMreg _ _ | .chainLullEnter _ _ | .wakeBurst _ _ | .stopAll _
  | .planNow _ | .eisStart _ | .eisResultsComplete | .eisAbort _ _ | .decimatorResult _ _ _ _ _ _ _
  | .frontEndFault _ | .frontEndFaultClear _ | .snapshotReady _ _ | .estRelearn _ _ | .estEfcClr _ | .squallTrip _ _
  | .squallCmpRelease _ | .squallLatchClear _ _ _ | .squallThrWrite _ _ | .squallTest _ _ | .squallTestDone _
  | .clrTrip _ | .protCcellWrite _ _ | .tripReadbackFault _ _ | .safetyCycle _ _ _ _ | .safetyInputSample _ _ _
  | .testPulse _ _ _ | .darkTest _ _ _ | .ramMarchDone _ | .romCrcCheck _ | .resetInRelease _ | .selfTestRunDone _
  | .clrSf _ | .feedbackTimeout _ | .gainTableCommit _ _ | .cleModeWrite _ _ | .rebase _ | .tallyCycle _ _ _
  | .tallyLoad _ | .tallyLoadDone _ | .tallyRun _ | .tallyStop _ | .stationInRx _ _ _ _ | .laneWdog _ _
  | .laneWdogExpire _ | .appWdKick _ | .appWdExpire _ | .laneFail _ _ | .handover _ | .swap _ | .inject _ | .lreset _
  | .laneAutoReset _ | .laneBootComplete _ | .laneRdy _ _ | .sync _ | .cbusTxDone _ _ _ | .cbusFifoPop _
  | .cbusError _ _ _ _ _ | .boRec _ | .cbusBusoffRecovered _ | .dominantTimeout _ | .cbusErrRead _
  | .cbusRxlostRead _ | .arrive _ _ | .barrierTimeout _ | .plinkLinkUp _ | .plinkLinkDown _ | .dadFail _ | .linkRst _
  | .heartbeat _ | .recordTxDone _ | .txUnderrun _ | .retentionExpire _ | .plnkRxdropRead _ | .icuGdisWrite _ _
  | .icuStatRead _ | .icuUnmatchedRead _ | .evrClear _ | .thermSample _ | .shutdownExit _ _ _ | .updStageStart _ _
  | .updStageAbort _ | .stagingComplete _ _ | .updAct _ _ | .ownerSet _ | .ownerClr _ | .rbCommit _
  | .announceReceiptTimeout _ _ | .cbusBusIntegration _ | .bootComplete | .powerFailSwitchOff | .holdupExhausted
  | .presenceOpen | .presenceTimeout | .cfgCommitDone | .pllLockLoss | .rootRelease | .rootLockTimeout
  | .syncLossTimeout | .epochSample | .sampleLaunch | .sweepStart | .chainReplyTimeout | .owPeriodic | .lullEntry
  | .selfWake | .s1Wake | .wakeComplete | .selfWakeRelull | .eisWindowStart | .eisWindowEnd | .shuntClip
  | .slotRelease | .fastBlockWrite | .estEpochProcessing | .restEvaluation | .stateRecordWrite | .learnedRecordWrite
  | .impedanceTableWrite | .squallDacUpdate | .plausTripTimeout | .safetyWatchdogExpire | .safetySupplyFault
  | .verdictTimeout | .tickWatchdogExpire | .closingStep | .prechargeEnd | .prechargeTimeout | .openTimeout
  | .returnFrameTimeout | .convRunTimeout | .orderCommitDone | .orderExecute | .contactorWaitDone
  | .relearnWritebackDone | .orderCompletionCommit | .gapResendRepeat | .gapTimeout | .mergeEnd | .syncCopy
  | .syncComplete | .eventBatchSend | .evrRepeatWriteback | .evrHoldEnd | .evrClearDone | .shutdownOutputsOff
  | .shutdownLanesStop | .exhaustionFlagLost | .servicePortAttach | .squallDacSettled => true

end Sys2Proof
end

