-- ==== Sys2Proof/Tests/Slice0.lean ====
section
/-! SUPPORT. Tests: the ill-formed terms that WellFormed refuses, the hypotheses of each statement met by a concrete state and
operands, and one command on a small state against the manual's figures. -/

namespace Sys2Proof.Tests

open Sys2Proof Sys2Proof.Machine

set_option Elab.async false

/-! ### Ill-formed commands -/

theorem test_wf_addresses : (Instr.registerWrite ⟨.a, .mgmt⟩ (2 ^ 32) 0).wf = false ∧
    (Instr.multiwordLowRead ⟨.a, .mgmt⟩ (2 ^ 32)).wf = false ∧ (Instr.unmappedAccess ⟨.a, .mgmt⟩ (2 ^ 32)).wf = false ∧
    (Instr.regRead .a .b (2 ^ 32) 0 1 []).wf = false ∧ (Instr.serviceRegRead .a 0 0 (2 ^ 16) true true).wf = false := by decide

theorem test_wf_pages : (Instr.pageSreset ⟨.a, .mgmt⟩ 26).wf = false ∧ (Instr.lockOpen ⟨.a, .mgmt⟩ 26).wf = false ∧
    (Instr.evtClear ⟨.a, .mgmt⟩ 26 0).wf = false ∧ (Instr.lockTimeout .a 26).wf = false ∧
    (Instr.lockOpen ⟨.a, .mgmt⟩ 25).wf = true := by decide

theorem test_wf_monitors : (Instr.bleedDutyCycle 0).wf = false ∧ (Instr.bleedDutyCycle 41).wf = false ∧
    (Instr.ntcBlindTimeout 0).wf = false ∧ (Instr.bleedReconcile 41 [] 0).wf = false ∧ (Instr.bleedTimerEnd 1 0).wf = false ∧
    (Instr.bleedTimerEnd 1 13).wf = false ∧ (Instr.bleedTimerEnd 40 12).wf = true := by decide

theorem test_wf_frames : (Instr.echo 1 ⟨.e, 256, 0, 0, 255⟩).wf = false ∧
    (Instr.echo 1 ⟨.e, 0, 2 ^ 16, 0, 255⟩).wf = false ∧ (Instr.echo 1 ⟨.e, 0, 0, 256, 255⟩).wf = false ∧
    (Instr.chainReplyRx ⟨256, 1, [], 0⟩).wf = false ∧ (Instr.chainReplyRx ⟨0x83, 1, [256], 0⟩).wf = false ∧
    (Instr.cbusWake ⟨2 ^ 32, false, false, false, 8, []⟩ true).wf = false ∧
    (Instr.cbusFrameRx .a ⟨0, false, false, false, 16, []⟩ 0).wf = false ∧
    (Instr.cbusFrameRx .a ⟨0, true, true, false, 15, List.replicate 65 0⟩ 0).wf = false ∧
    (Instr.cbusFrameRx .a ⟨0, false, false, false, 1, [256]⟩ 0).wf = false := by decide

theorem test_wf_ranges : (Instr.protLimitWrite ⟨.a, .mgmt⟩ 11 0 0).wf = false ∧ (Instr.protLimitWrite ⟨.a, .mgmt⟩ 0 3 0).wf = false ∧
    (Instr.loopSample 8 0).wf = false ∧ (Instr.cbusTxreq ⟨.a, .mgmt⟩ 3).wf = false ∧ (Instr.cbusRxbufLock ⟨.a, .mgmt⟩ 2).wf = false ∧
    (Instr.flush ⟨.a, .mgmt⟩ 256).wf = false ∧ (Instr.queCntRead ⟨.a, .mgmt⟩ 8).wf = false ∧ (Instr.icuClaim ⟨.a, .mgmt⟩ 4).wf = false ∧
    (Instr.icuEoi ⟨.a, .mgmt⟩ 0 256).wf = false ∧ (Instr.icuHoldoffEnd .a 16).wf = false ∧ (Instr.icuMaskWrite ⟨.a, .mgmt⟩ 8 0).wf = false ∧
    (Instr.cdtInvalImmediate ⟨.a, .mgmt⟩ (2 ^ 16) 1).wf = false ∧ (Instr.converterReturnFrame [256]).wf = false ∧
    (Instr.stagingData [256]).wf = false := by decide

/-! ### States of the tests: powered, lane A in authority, lane B in STANDBY, in OPERATE, nothing in motion -/

/-- Management firmware of lane A, of lane B, and the service port on lane A. -/
def qa : Req := ⟨.a, .mgmt⟩
def qb : Req := ⟨.b, .mgmt⟩
def qs : Req := ⟨.a, .service⟩

def live : State :=
  ((((((({ State.reset with pwr := { Power.reset with on := true }, front := { Front.reset with iq := 0 }, still := some 0 } : State).p
    F.SYS_STATE_STATE St.OPERATE).p F.LANE_STATE_A 5).p F.LANE_STATE_B 4).p F.LANE_AUTH_OWNER 1).p F.CHAIN_CFG_MON_COUNT 40).p
    F.SAFE_IN_CFG_FB_EN 0).p F.CLK_STAT_PLL_LOCK 1

/-- In another module state. -/
def mode (m : Nat) (s : State) : State := s.p F.SYS_STATE_STATE m

/-- With the page's lock open for the management firmware of lane A. -/
def locked (page : Nat) (s : State) : State := s.wr .a page 0x024 (BitVec.ofNat 32 (2 ^ 31))

/-- With a current of 1,000 A. -/
def moving (s : State) : State := s.p F.MEAS_I_I 10000000

/-- With the presence window open. -/
def present (s : State) : State :=
  { s.p F.SYS_PRESENCE_OPEN 1 with pwr := { s.pwr with presence := some 0 } }

theorem test_live : live.hears1 qa ∧ live.hears1 qb ∧ live.isAuth Lane.a = true ∧ live.auth = some Lane.a ∧ live.active Lane.b = true ∧
    live.mode = St.OPERATE ∧ live.inMotion = false ∧ live.motionKept = true ∧ live.monCount = 40 ∧
    (moving live).inMotion = true := by decide +kernel

/-! ### The hypotheses of the statements, each met together -/

theorem test_hyp_whole_machine : live.pwr.on = true ∧ State.reset.pwr.on = false ∧ live.pending = [] ∧ State.reset.pending = [] ∧
    ({ live with pending := [.presenceOpen, .s1Wake] } : State).pending = .presenceOpen :: [.s1Wake] ∧
    State.reset.motionKept = true ∧ live.motionKept = true := by decide +kernel

/-- A command that powers the module, and one that leaves it unpowered, both next states. -/
theorem test_hyp_power :
    (match exec (.powerUp 40000 0 0 [] [] []) State.reset with | .next t => t.pwr.on | _ => false) = true ∧
    (match exec .exhaustionFlagLost State.reset with | .next t => !t.pwr.on | _ => false) = true ∧
    (match exec (.evtSet qa Pg.SYS 1) live with | .next t => bitAt (t.rd .a Pg.SYS 0x018).toNat 0 | _ => false) = true := by
  decide +kernel

theorem test_hyp_go_hold_boot :
    (live.hears1 qa ∧ live.isAuth qa.lane = true ∧ (mode St.CONFIG live).mode = St.CONFIG ∧ (mode St.CONFIG live).cfgGood = true) ∧
    (live.mode = St.OPERATE ∧ live.inMotion = false) ∧ (mode St.BOOT live).mode = St.BOOT ∧ (mode St.BOOT live).auth.isSome = true ∧
    ((moving live).mode = St.OPERATE ∧ (moving live).inMotion = true) ∧ (mode St.LULL live).mode = St.LULL ∧
    (mode St.SHUTDOWN live).mode = St.SHUTDOWN := by decide +kernel

/-- A configuration whose limit 0 has TACT 1 is none that GO accepts (R242). -/
theorem test_tact_below_2 : (live.p (F.PROT_Lk_CFG_TACT 0) 1).cfgGood = false ∧ (live.p (F.PROT_Lk_CFG_TACT 7) 0).cfgGood = true := by
  decide +kernel

theorem test_hyp_resets :
    (live.hears1 qa ∧ (locked Pg.SYS live).holds qa Pg.SYS = true ∧ (locked Pg.SYS live).inMotion = false) ∧
    ({ live with resetting := true } : State).resetting = true ∧ State.reset.pwr.on = false := by decide +kernel

theorem test_hyp_events : live.hears1 qa ∧ (0 < 26 ∧ 25 < 26) ∧ place 0x4F000000 = .nowhere ∧ 0x4F000000 < 2 ^ 32 := by decide +kernel

theorem test_hyp_locks :
    (live.hears1 qa ∧ getBits (live.lockWord .a Pg.PROT) 31 31 = 0) ∧ (locked 25 live).holds qa 25 = true ∧
    (getBits ((locked 0 live).lockWord .a 0) 31 31 = 1 ∧ (locked 0 live).holds ⟨.a, .hpp⟩ 0 = false) ∧
    place 0x40008024 = .page 8 0x024 ∧
    ((locked Pg.TIME live).holds qa Pg.TIME = true ∧ toSigned 32 0x20C49BA5 = 549755813 ∧ toSigned 32 0xDF3B645B = -549755813) ∧
    sharedPage Pg.SYS = true := by decide +kernel

theorem test_hyp_presence :
    (live.mode ≠ St.LULL ∧ live.mode ≠ St.SHUTDOWN ∧ live.g F.SYS_PRESENCE_OPEN = 0) ∧
    ((present live).g F.SYS_PRESENCE_OPEN = 1 ∧ (present live).pwr.presence = some 0 ∧ (present live).deadLane qa = false) := by
  decide +kernel

theorem test_hyp_writes :
    (place 0x40008014 = .page 8 0x014 ∧ place 0x40008020 = .page 8 0x020 ∧ 0x020 < 0x040) ∧
    (let ad (p off : Nat) := 0x40000000 + 0x1000 * p + off
     let s := locked Pg.EST live
     let off := F.EST_REST_RELAX_MIN.off
     (place (ad Pg.TIME 0x04C) = .page Pg.TIME 0x04C ∧ isStaged Pg.TIME 0x04C = true) ∧
     (place (ad Pg.TIME 0x050) = .page Pg.TIME 0x050 ∧ isStaged Pg.TIME 0x050 = false ∧ (writeA live qa Pg.TIME 0x050 5).isSome = true) ∧
     ((writeB live qa Pg.PROT 0x040 5).isSome = true ∧ (writeA live qa Pg.PROT 0x040 5).isNone = true ∧
      (writeC live qa Pg.LANE 0x050 5).isSome = true ∧ (writeB live qa Pg.LANE 0x050 5).isNone = true) ∧
     (place (ad Pg.EST off) = .page Pg.EST off ∧ 0x040 ≤ off ∧ isStaged Pg.EST off = false ∧ Pg.EST ≠ Pg.UPD ∧ Pg.EST ≠ Pg.CBUS ∧
      (writeA s qa Pg.EST off 0x000A0005).isNone = true ∧ (writeB s qa Pg.EST off 0x000A0005).isNone = true ∧
      (writeC s qa Pg.EST off 0x000A0005).isNone = true ∧ s.isAuth qa.lane = true ∧ s.pageBad .a Pg.EST off 0x000A0005 = false ∧
      ∀ c ∈ regChecks s qa false Pg.EST off 0x000A0005, c.2 = false) ∧
     upperOf Pg.TIME 0x040 ≠ [] ∧ isUpper Pg.SNAP 0x044 = true) ∧
    (place 0x30000000 = .sram 0 ∧ place 0x80000000 = .dram ∧ qa.path ≠ .hpp ∧ qa.path ≠ .service) := by decide +kernel

theorem test_hyp_sresets_commit :
    (live.hears1 qa ∧ (live.p F.CDT_STAT_INV_BUSY 1).getB .a F.CDT_STAT_INV_BUSY = true) ∧
    (let s := { present live with nv := { live.nv with aOk := true, bOk := true } }
     s.nv.gone = false ∧ s.noPresence qa = false ∧ s.nv.commit = none ∧ s.bo = false ∧ (s.p F.PWR_BO_BO 1).bo = true) ∧
    (let u : NvUnit := ⟨cfgOff 1, 2, .config [] none true true, 0⟩
     let s := { live with nv := { live.nv with aOk := true, commit := some 1, a := live.nv.a ++ [(cfgOff 1, u)] } }
     s.nv.commit = some 1 ∧ s.nv.unit (cfgOff 1) = some ⟨cfgOff 1, s.nv.cfgSeq + 1, .config [] none true true, 0⟩ ∧ s.flash.acting = none ∧
     ∀ v ∈ s.nv.busy.toList ++ s.nv.queue, v.off ≠ cfgOff 1) := by decide +kernel

theorem test_hyp_nv_body : ∀ c, NvBody.rollback 3 ≠ .wipe c := by
  intro c h
  cases h

theorem test_hyp_nv :
    (let s := { live with nv := { live.nv with aOk := true, bOk := true, busy := some ⟨0, 1, .rollback 3, 0⟩ } }
     s.nv.busy = some ⟨0, 1, .rollback 3, 0⟩ ∧ s.nv.aOk = true ∧ s.nv.bOk = true) ∧
    (live.nv.j1 = true ∧ live.bo = false ∧ (live.p F.PWR_BO_BO 1).bo = true) ∧
    ({ live with nv := { live.nv with j1 := false } } : State).nv.j1 = false := by decide +kernel

theorem test_hyp_power_fail : (live.bo = false ∧ 37999 < 38000 ∧ 62000 < 62001 ∧ 62001 < 65536) ∧
    (live.p F.PWR_BO_BO 1).bo = true ∧ (950 ≤ 950 ∧ 1100 ≤ 1100) ∧ (15999 < 16000 ∧ 18000 ≤ 18000) ∧
    live.safe.powerOff = false ∧ live.safe.actLow = true ∧ live.g F.PWR_STAT_HOLDUP_FULL = 0 := by decide +kernel

theorem test_hyp_clocks :
    (live.lane.stopLine = false ∧ live.laneState .a ≠ 0 ∧ Nat.land 1 (live.lane.fmon.get .a) = 0) ∧
    (let s := { live with lane := { live.lane with fmon := ⟨0x7FF, 0⟩ } }
     Nat.land 0x7FF (s.lane.fmon.get .a) ≠ 0) ∧
    (live.lane.awaitLock = false ∧ live.g F.CLK_STAT_PLL_LOCK = 1 ∧ (live.put2 F.CLK_STAT_PLL_LOCK 1).get .b F.CLK_STAT_PLL_LOCK = 1) ∧
    ({ live with lane := { live.lane with stopLine := true } } : State).lane.stopLine = true ∧
    ({ live with lane := { live.lane with awaitLock := true } } : State).lane.awaitLock = true := by decide +kernel

theorem test_hyp_thermal_sensors : ∀ j, j < 6 → ∃ x, (List.replicate 6 (some (1250 : Int))).getD j none = some x ∧ -550 ≤ x ∧ x ≤ 1500 := by
  intro j h
  exact ⟨1250, by interval_cases j <;> rfl, by decide, by decide⟩

theorem test_hyp_thermal :
    (live.g F.THERM_STAT_SENS_FAIL = 0 ∧ (maxSensor 0 (List.replicate 6 (some (1250 : Int)))).map (·.1) = some 1250 ∧
      live.g F.THERM_STAT_LEVEL = 0 ∧ live.pwr.hot = [0, 0, 0]) ∧
    (let s := { live.p F.THERM_STAT_LEVEL 1 with pwr := { live.pwr with hot := [4, 3, 0] } }
     s.g F.THERM_STAT_LEVEL = 1 ∧ s.pwr.hot = [4, 3, 0] ∧ s.pwr.cold = [0, 0, 0]) ∧
    (let s := { live.p F.THERM_STAT_LEVEL 2 with pwr := { live.pwr with hot := [4, 4, 3] } }
     s.g F.THERM_STAT_LEVEL = 2 ∧ s.pwr.hot = [4, 4, 3] ∧ s.mode = St.OPERATE) ∧
    ((mode St.SHUTDOWN live).mode = St.SHUTDOWN ∧ live.safe.shutTrip = false ∧ live.prot.exhausted = false ∧ live.prot.cmd ≠ 2 ∧
     live.pwr.cold.getD 2 0 ≠ 1000 ∧
     ([0, 0, 1000] : List Nat).getD 2 0 = 1000) := by decide +kernel

theorem test_hyp_time_step :
    (let s := locked Pg.TIME live
     s.hears1 qa ∧ s.isAuth qa.lane = true ∧ s.holds qa Pg.TIME = true ∧ s.g F.TIME_STAT_STEPPED = 0 ∧
     2000000 = toSigned 64 ((2000000 : Word).toNat + 2 ^ 32 * s.stagedWord qa Pg.TIME 0x04C) ∧
     (s.originReg : Int) + 2000000 ≤ s.clock.count + 2000000 ∧ (s.p F.TIME_STAT_STEPPED 1).g F.TIME_STAT_STEPPED = 1) ∧
    (toSigned 32 0x20C49BA6 = 549755814 ∧ toSigned 32 0xDF3B645A = -549755814) := by decide +kernel

theorem test_hyp_queues :
    (live.clock.tsq.get .a).length < 8 ∧
    (let s := { live with clock := { live.clock with tsq := ⟨List.replicate 8 (1, 2), []⟩ } }
     8 ≤ (s.clock.tsq.get .a).length ∧ s.clock.tsq.get qa.lane = (1, 2) :: List.replicate 7 (1, 2) ∧
     s.get .a F.TIME_TSQ_DROP_DROP_P = 0) := by decide +kernel

theorem test_hyp_sync :
    (let s := { live with clock := { live.clock with pdReq := ⟨some 5, none⟩, masters := ⟨[([1], 7)], []⟩,
                                                     sync := ⟨some (3, 100), none⟩ } }
     s.clock.pdReq.get .a = some 5 ∧ s.grandmaster .a = some 7 ∧ s.clock.sync.get .a = some (3 % 2 ^ 16, 100) ∧
     s.isAuth .a = true ∧ s.g F.TIME_STAT_SERVO_OFF = 0 ∧ s.minuteOver 0x0309 = true ∧ 5 ≠ s.clock.domain ∧
     (∀ x ∈ s.clock.masters.get .a, x.2 ≠ 8 → [0] < x.1)) ∧
    (let s := { live with clock := { live.clock with lastPair := some (3, 40) } }
     s.clock.lastPair = some (3, 40)) ∧
    ({ live with marks := [(0x0309, 1)] } : State).minuteOver 0x0309 = false ∧ (live.p F.TIME_STAT_QUAL 2).g F.TIME_STAT_QUAL = 2 ∧
    live.g F.TIME_STAT_QUAL ≠ 2 := by decide +kernel

theorem test_hyp_schedule :
    (let s := mode St.CONFIG (locked Pg.SNAP live)
     s.hears1 qa ∧ s.holds qa Pg.SNAP = true ∧ s.g F.TIME_STAT_QUAL = 0 ∧ getBits (5 : Word) 2 0 ≤ 5 ∧ s.mode = St.CONFIG ∧
     ((s.p F.TIME_STAT_QUAL 1).g F.TIME_STAT_QUAL ≠ 0)) ∧
    (let s := (mode St.CONFIG (locked Pg.SNAP live)).p F.SNAP_BASE_BASE 0x40000
     inDram (s.g F.SNAP_BASE_BASE * 0x2000) (getBits (16 : Word) 13 0 * 0x2000) = true ∧
     ∀ c ∈ regChecks s qa false Pg.SNAP 0x064 16, c.2 = false) ∧
    (let s := { live with clock := { live.clock with next := some (3, 40) } }
     s.clock.next = some (3, 40) ∧ s.mode ≠ St.LULL ∧ s.mode ≠ St.SHUTDOWN) := by decide +kernel

theorem test_hyp_snapshots :
    (let f := { live.beginSnap 7 70000000 false with slot := some (0x80002000, 1) }
     let s := { live with forming := some f }
     s.forming = some f ∧ f.slot = some (0x80002000, 1) ∧ s.late = [] ∧ f.epoch < 2 ^ 64 ∧ f.lateBound < 2 * 5000) ∧
    (let f := live.beginSnap 7 70000000 false
     ({ live with late := [f] } : State).late.head? = some f) ∧
    (live.dramOpen .a = true ∧ ({ live with dramShut := ⟨true, false⟩ } : State).dramOpen .a = false) := by decide +kernel

theorem test_hyp_measurement :
    (live.mode ≠ St.LULL ∧ 2 < 3 ∧ live.g (faultFld 2) = 0 ∧ (live.p (faultFld 0) 1).g (faultFld 0) = 1) ∧
    (let s := { live.p F.MEAS_FAST_BLOCKS_BLOCKS 1 with front := { live.front with fast := List.replicate 50 (1, 2) } }
     50 ≤ s.front.fast.length ∧ s.g F.MEAS_FAST_BLOCKS_BLOCKS ≠ 0 ∧ s.dramOpen .a = true) := by decide +kernel

/-- A monitor with ID 1; a frame from RING-E to everybody, and one to ID 1, with the CRC of its command. -/
def mon1 (m : Monitor) : State := { live with mons := [(1, m.setReg 0x05 1)] }
def frameAll (cmd : Nat) (payload : List Nat) : Frame := ⟨.e, 0, crc16 (frameBody 0 cmd payload), 0, 255⟩
def frame1 (cmd : Nat) (payload : List Nat) : Frame := ⟨.e, 1, crc16 (frameBody 1 cmd payload), 0, 255⟩

theorem test_hyp_frames : frameBad { frameAll 0x02 [] with hop := 40, hopN := 215 } 0x02 [] = true ∧
    frameBad { frameAll 0x02 [] with hop := 39, hopN := 216 } 0x02 [] = false ∧
    (frameAll 0x01 (packBytes [(6, 5), (1, 0)])).toAll = true ∧
    frameBad (frameAll 0x01 (packBytes [(6, 5), (1, 0)])) 0x01 (packBytes [(6, 5), (1, 0)]) = false ∧
    (frameBad (frameAll 0x01 (packBytes [(6, 1), (1, 1)])) 0x01 (packBytes [(6, 1), (1, 1)]) = false ∧ (live.mon 1).reg 0x05 = 0 ∧
      (frameAll 0x01 (packBytes [(6, 1), (1, 1)])).h ≤ 1) ∧
    (frame1 0x02 []).names (((mon1 Monitor.fresh).mon 1).reg 0x05) = true ∧ frameBad (frame1 0x02 []) 0x02 [] = false ∧
    (frame1 0x03 [0, 4]).names (((mon1 Monitor.fresh).mon 1).reg 0x05) = true ∧ frameBad (frame1 0x03 [0, 4]) 0x03 [0, 4] = false ∧
    (frame1 0x07 [1]).names (((mon1 Monitor.fresh).mon 1).reg 0x05) = true ∧ frameBad (frame1 0x07 [1]) 0x07 [1] = false ∧
    (frame1 0x04 (writePayload 0x0A [1])).names (((mon1 Monitor.fresh).mon 1).reg 0x05) = true ∧
    frameBad (frame1 0x04 (writePayload 0x0A [1])) 0x04 (writePayload 0x0A [1]) = false ∧ regsWritable 0x0A [1] = true ∧
    frameBad (frame1 0x04 (writePayload 0x00 [1])) 0x04 (writePayload 0x00 [1]) = false ∧ regsWritable 0x00 [1] = false := by
  decide +kernel

theorem test_hyp_sampling :
    (let f := frameAll 0x10 (samplePayload 9 false)
     f.toAll = true ∧ frameBad f 0x10 (samplePayload 9 false) = false ∧ (live.mon 1).epoch ≠ some 9 ∧
     ((mon1 { Monitor.fresh with epoch := some 9 }).mon 1).epoch = some 9) ∧
    (let s := mon1 { Monitor.fresh with epoch := some 9, delay := some 400 }
     (s.mon 1).delay = some 400 ∧ (s.mon 1).epoch = some 9) ∧
    (let f := frameAll 0x11 [1, 1]
     f.toAll = true ∧ frameBad f 0x11 [1, 1] = false ∧ 1 ≤ f.h ∧ f.h ≤ 1) ∧
    (let f := frameAll 0x11 [2, 40]
     f.toAll = true ∧ frameBad f 0x11 [2, 40] = false ∧ f.h < 2) := by decide +kernel

theorem test_hyp_monitor_tests :
    (let f := frame1 0x30 (leBytes 2 0x1FFF)
     f.names (((mon1 Monitor.fresh).mon 1).reg 0x05) = true ∧ frameBad f 0x30 (leBytes 2 0x1FFF) = false) ∧
    (let s := mon1 { Monitor.fresh with sink := 1, rounds := [] }
     (s.mon 1).sink ≠ 0 ∧ (s.mon 1).rounds = []) ∧
    (let f := frameAll 0x50 (lullPayload 60 100 200 0 1023)
     f.toAll = true ∧ frameBad f 0x50 (lullPayload 60 100 200 0 1023) = false) ∧
    (let s := mon1 { Monitor.fresh with lull := true, vlo := 100, vhi := 200 }
     (s.mon 1).lull = true ∧ (s.mon 1).alarmed ⟨[], List.replicate 12 50, 0, [], 0⟩ = true) ∧
    (let s := mon1 { Monitor.fresh with lull := true, vlo := 0, vhi := 65535, tlo := 0, thi := 65535 }
     (s.mon 1).alarmed ⟨[], List.replicate 12 50, 0, List.replicate 8 100, 0⟩ = false) := by decide +kernel

theorem test_hyp_bleeding :
    (let f := frame1 0x20 (planPayload 3 (List.replicate 12 60))
     f.names (((mon1 Monitor.fresh).mon 1).reg 0x05) = true ∧ frameBad f 0x20 (planPayload 3 (List.replicate 12 60)) = false) ∧
    (let f := frame1 0x21 (leBytes 2 0xFFF)
     f.names (((mon1 Monitor.fresh).mon 1).reg 0x05) = true ∧ frameBad f 0x21 (leBytes 2 0xFFF) = false) ∧
    (1 ≤ 1 ∧ 12 ≤ 12) ∧ live.isAuth qb.lane = false ∧ live.hears1 qb ∧ live.active .a = true ∧
    ∀ j, j < 12 → (((live.bal.get .a).at1 (12 * (40 - 1) + j + 1)).remain - ([1, 0] : List Nat).getD j 0 * 1000000 : Int).natAbs < 2000000 := by
  decide +kernel

theorem test_hyp_lock_in :
    (let b := eisPayload 1 [7, 1, 10, 100000, 0, 1]
     (frame1 0x40 b).names (((mon1 Monitor.fresh).mon 1).reg 0x05) = true ∧ frameBad (frame1 0x40 b) 0x40 b = false) ∧
    (let b := eisPayload 2 (8 :: List.replicate 8 30)
     (frame1 0x40 b).names (((mon1 Monitor.fresh).mon 1).reg 0x05) = true ∧ frameBad (frame1 0x40 b) 0x40 b = false) ∧
    (let b := eisPayload 3 [7, 3, 4]
     let w := { MonWin.of [7, 1, 10, 0, 0, 1] with held := some 3 }
     let s := mon1 { Monitor.fresh with eis := { MonEis.idle with cur := some w } }
     let t := mon1 { Monitor.fresh with eis := { MonEis.idle with closing := some w } }
     (frame1 0x40 b).names ((s.mon 1).reg 0x05) = true ∧ (frame1 0x40 b).names ((t.mon 1).reg 0x05) = true ∧
     frameBad (frame1 0x40 b) 0x40 b = false ∧ w.win = 7 % 256 ∧ (s.mon 1).eis.closing = none ∧ (s.mon 1).eis.cur = some w ∧
     (t.mon 1).eis.closing = some w ∧ w.held = some 3) ∧
    (let b := eisPayload 4 [7]
     (frame1 0x40 b).names (((mon1 Monitor.fresh).mon 1).reg 0x05) = true ∧ frameBad (frame1 0x40 b) 0x40 b = false) ∧
    (let w := MonWin.of [7, 1, 10, 0, 0, 1]
     let s := mon1 { Monitor.fresh with eis := { MonEis.idle with res := some w } }
     [3, 4, 5].all (fun sel => (frame1 0x41 [7, sel]).names ((s.mon 1).reg 0x05) && !frameBad (frame1 0x41 [7, sel]) 0x41 [7, sel]) = true ∧
     (s.mon 1).eis.res = some w ∧ w.win = 7 % 256 ∧ ((s.mon 1).eis.res.map fun w => w.win) ≠ some (8 % 256)) := by decide +kernel

theorem test_hyp_enumeration :
    ((mode St.CONFIG live).mode = St.CONFIG ∧ live.isAuth qb.lane = false ∧ some 40 = some live.monCount ∧ 39 ≠ live.monCount ∧
      openRingOk live.monCount (List.range' 1 20) (List.range' 21 20).reverse = true) ∧
    live.g F.CHAIN_STAT_OPEN_MODE = 0 ∧ (live.p F.CHAIN_STAT_OPEN_MODE 1).g F.CHAIN_STAT_OPEN_MODE = 1 := by decide +kernel

theorem test_hyp_sweep :
    (let s := { live with clock := { live.clock with next := some (3, 40000000) } }
     s.samples = true ∧ s.clock.next = some (3, 40000000)) ∧
    (let r : SweepReply := ⟨1, 0, 0, ⟨List.replicate 12 0, List.replicate 12 0, 0, List.replicate 4 0, 0⟩⟩
     let s := { live with chain := { live.chain with sweep := [(.e, 1, 20, false), (.w, 1, 1, true)] } }
     s.chain.readAt .e (s.hopFrom .e r.id) = some (.e, 1, 20, false) ∧ s.chain.readAt .w (s.hopFrom .w r.id) = none ∧
     s.chain.readAt .w (s.hopFrom .w 40) = some (.w, 1, 1, true) ∧ (sweepFrame r).crc ≠ (sweepFrame r).crc + 1 ∧
     (Ring.e, r.id) ∉ s.chain.again) ∧ 65535 < 2 ^ 16 := by decide +kernel

theorem test_hyp_replies :
    (let s := { live with chain := { live.chain with await := some ⟨.mreg 1 5 false 0, 2, false⟩ } }
     s.chain.await = some ⟨.mreg 1 5 false 0, 2, false⟩ ∧ 2 ≤ 2 ∧ 1 < 2 ∧ replyCrcOk (ringReply 0x03 1 [1, 0]) = true ∧
     replyTo (ringReply 0x03 1 [1, 0]) 0x03 1 = true ∧
     replyCrcOk { ringReply 0x03 1 [1, 0] with payload := [2, 0] } = false) ∧
    (let c := live.chain.setInf 1 { live.chain.inf 1 with leads := List.replicate 12 ⟨0, 0, false⟩ ++ [⟨0, 1, true⟩] }
     let s := { live with chain := { c with await := some ⟨.ow 1 0x1FFF 2, 0, false⟩ } }
     12 ≤ 12 ∧ replyCrcOk (ringReply 0x30 1 [0, 0]) = true ∧ replyTo (ringReply 0x30 1 [0, 0]) 0x30 1 = true ∧
     (s.chain.inf 1).leads.length = 13 ∧ s.chain.await = some ⟨.ow 1 0x1FFF 2, 0, false⟩ ∧
     (s.chain.inf 1).openLead 0 = false ∧ (s.chain.inf 1).leads.getD 12 ⟨0, 0, false⟩ = ⟨0, 1, true⟩) := by decide +kernel

theorem test_hyp_chain_requests :
    let s := { live with chain := { live.chain with await := some ⟨.ow 2 1 1, 0, false⟩ } }
    let v : Word := 0x28001000
    (s.mode ≠ St.LULL ∧ s.g F.CHAIN_STAT_OW_BUSY = 0 ∧ getBits v 29 24 = 40 ∧ 40 ≤ s.monCount ∧ getBits v 12 0 = 0x1000 ∧
      s.chain.await.isSome = true ∧ s.g F.CHAIN_MREG_BUSY = 0) ∧ (s.p F.CHAIN_OWCFG_OW_PERIOD 1).g F.CHAIN_OWCFG_OW_PERIOD ≠ 0 ∧
    (s.p F.CHAIN_OWCFG_OW_PERIOD 0).g F.CHAIN_OWCFG_OW_PERIOD = 0 := by decide +kernel

theorem test_hyp_lull :
    (let s := locked Pg.CHAIN { live with still := some 0, up := 20000000000 }
     s.lullOk = true ∧ live.lullOk = false ∧ ∀ c ∈ regChecks s qa false Pg.CHAIN 0x080 (setBits (20 : Word) 31 31 1), c.2 = false) ∧
    (let s := { live with chain := { live.chain with lullReq := true, clean := some 10 },
                          est := Pair.of { Est.reset with last := some live.snapEpoch } }
     s.mode = St.OPERATE ∧ s.chain.lullReq = true ∧ s.chain.waits RingCmd.isLull = false ∧ 10 ≤ 10 ∧ s.chain.clean = some 10 ∧
     s.alarmsSettled = true ∧ s.noAlarm = true) ∧
    (let s := mode St.LULL live
     let f : CanFrame := ⟨2 ^ 31 + 2 ^ 18 + 63, false, false, false, 8, []⟩
     s.mode = St.LULL ∧ s.chain.waking = none ∧ f.fdf = false ∧ f.ide = true ∧ f.type = 0x01 ∧ f.rem = 63 ∧ s.getB s.evrLane F.CBUS_WAKE_WAKE_EN = true) ∧
    (let s := mode St.LULL { live with chain := { live.chain with waking := some 4 } }
     s.mode = St.LULL ∧ s.chain.waking = some 4) := by decide +kernel

theorem test_hyp_invalidations :
    (live.getB .a F.CDT_STAT_INV_BUSY = false ∧ live.getB .a F.CDT_STAT_DEFER_PEND = false ∧ 1 ≤ 2 ^ 14 ∧ 0 + 2 ^ 14 ≤ 2 ^ 14 ∧
      ((2 ^ 31 : Word).toNat + 2 ^ 32 - live.nextEst .a % 2 ^ 32) % 2 ^ 32 ≤ 2 ^ 31) ∧
    (live.p F.CDT_STAT_INV_BUSY 1).getB .a F.CDT_STAT_INV_BUSY = true ∧
    (let s := mode St.CONFIG (locked Pg.CDT live)
     getBits (0 : Word) 14 0 = 0 ∧ ∀ c ∈ regChecks s qa false Pg.CDT 0x044 0, c.2 = false) := by decide +kernel

theorem test_hyp_window :
    (let s := (((live.put2 F.EIS_PLAN_FMASK 1).put2 F.EIS_WIN_W_S 20).put2 F.EIS_SIZE_SIZE 0xFFFFFFF).p F.SAFE_STATE_OUT_CMD 7
     s.eisStateBad .a = false ∧ s.eisPlanBad .a = false ∧ s.eisNow.phase = 0 ∧ live.deadLane qa = false) ∧
    (let s := { live with eis := Pair.of { Eis.reset with phase := 1, notBefore := 5 } }
     s.eisNow.phase = 1 ∧ ({ s with forming := some (live.beginSnap 7 5 false) } : State).sampledAt = some 5 ∧ s.eisNow.notBefore ≤ 5 ∧
     ({ s with snap := some (live.beginSnap 7 4 false) } : State).sampledAt = some 4 ∧ 4 < s.eisNow.notBefore) ∧
    (let s := { live with eis := Pair.of { Eis.reset with phase := 2 } }
     s.eisNow.phase = 2 ∧ s.eisNow.cur.nep ≤ s.eisNow.cur.idx ∧ s.eisNow.next = none ∧ s.eisNow.restart = false ∧
     s.eisStateBad .a = true ∧ 15 < 16) ∧
    (let s := { live with eis := Pair.of { Eis.reset with phase := 2, next := some Eis.reset.cur } }
     s.eisNow.next = some Eis.reset.cur ∧ s.throttled = false ∧ s.eisNow.cur.nep ≤ s.eisNow.cur.idx) ∧
    (let s := { live with eis := Pair.of { Eis.reset with phase := 2, cur := { Eis.reset.cur with nep := 1 } } }
     s.eisNow.phase = 2 ∧ s.eisNow.cur.idx < s.eisNow.cur.nep) ∧
    (let s := { live with eis := Pair.of { Eis.reset with out := some Eis.reset.cur } }
     s.eisNow.out = some Eis.reset.cur ∧ s.eisNow.phase = 0 ∧ live.eisNow.out = none) := by decide +kernel

theorem test_hyp_estimator :
    (let n := live.beginSnap 7 70000000 false
     let s := { live with snap := some n }
     s.snap = some n ∧ s.active .a = true ∧ s.skipRun.get .a = false ∧ (s.est.get .a).last ≠ some n.epoch ∧
     (s.p F.LANE_STATE_B 6).active .b = false) ∧
    ((live.est.get .a).relearn = [] ∧ 1 ≤ getBits (0x01DF0001 : Word) 8 0 ∧
      getBits (0x01DF0001 : Word) 8 0 + getBits (0x01DF0001 : Word) 24 16 ≤ 480 ∧ (present live).noPresence qa = false) ∧
    (let e := { Est.reset with last := some 7, relearn := [(1, 1, 9)], dirtyL := true, dirtyT := true }
     let s := { live with est := Pair.of e, nv := { live.nv with aOk := true } }
     s.auth = some .a ∧ (s.est.get .a).last.isSome = true ∧ s.nv.gone = false ∧ (s.est.get .a).relearn ≠ [] ∧
     (s.est.get .a).dirtyL = true ∧ (s.est.get .a).dirtyT = true) := by decide +kernel

/-- A position at rest: two fine values, 1 V and 1 V, 60 s apart. -/
def resting : EstPos := { EstPos.zero with restNs := 60000000000, fines := [(0, 1), (60000000000, 1)] }

theorem test_hyp_rest :
    let s := ({ live with est := Pair.of { Est.reset with prev := some (7, 0, 0), upAt := 60000000000, pos := [(1, resting)] } } : State).put2
      F.EST_REST_RELAX_MIN 1 |>.put2 F.EST_REST_SLOPE_UV 5
    let fs := resting.fines.filter fun z => decide ((s.est.get .a).upAt ≤ z.1 + min 600000000000 (s.relaxNs .a resting.prof))
    (s.est.get .a).prev = some (7, 0, 0) ∧ (s.est.get .a).pos = [(1, resting)] ∧ s.active .a = true ∧
    s.relaxNs .a resting.prof ≤ resting.restNs ∧ 2 ≤ fs.length ∧ slopeOf fs = 0 ∧ |slopeOf fs| < s.slopeLim .a resting.prof := by
  intro s fs
  have h : slopeOf fs = 0 := by decide +kernel
  have h1 : (0 : Rat) < s.slopeLim .a resting.prof := by decide +kernel
  refine ⟨rfl, rfl, by decide +kernel, by decide +kernel, by decide +kernel, h, ?_⟩
  rw [h, abs_zero]
  exact h1

/-- What the store holds of a record is what the lane would write, and is not. -/
theorem test_hyp_records :
    (let s := { live with est := Pair.of { Est.reset with last := some 7 }, nv := { live.nv with aOk := true } }
     s.estChanged .a 1 = true ∧ (s.est.get .a).dirtyT = false) ∧
    (let s := { live with est := Pair.of { Est.reset with last := some 7 } }
     let u (k : Nat) : NvUnit := ⟨(estSlots k).headD 0, 1, .est k (s.estHeader .a) (s.estRowsNow .a k), 0⟩
     let s := { s with nv := { s.nv with aOk := true, a := [u 1, u 2].map fun (x : NvUnit) => (x.off, x) } }
     s.estChanged .a 1 = false ∧ s.estChanged .a 2 = false ∧ (s.est.get .a).dirtyL = false ∧ (s.est.get .a).dirtyT = false) := by
  decide +kernel

theorem test_hyp_squall :
    (let s := live.p F.PROT_SQ_STAT_LOADED 1
     s.g F.PROT_SQ_STAT_LOADED = 1 ∧ s.prot.exhausted = false ∧ s.mode ≠ St.LULL ∧ s.g F.CLK_STAT_PLL_LOCK = 1 ∧
     2 ^ 64 - 1 < 2 ^ 64 ∧ live.g F.PROT_SQ_STAT_LOADED = 0) ∧
    (let s := { live with prot := { live.prot with settling := true, testing := some 1 } }
     s.prot.settling = true ∧ s.prot.testing = some 1 ∧ 1023 < 1024 ∧ 180 < 1023 / 4 * 4) ∧
    (live.g (cmpFld 0) = 0 ∧ live.g (cmpFld 1) = 0 ∧ (live.p (latchFld 0) 1).g (latchFld 0) = 1 ∧
      (live.p (cmpFld 0) 1).g (cmpFld 0) = 1) ∧
    (let s := locked Pg.PROT live
     ∀ c ∈ regChecks s qa false Pg.PROT 0x044 0x00140014, c.2 = false) := by decide +kernel

theorem test_hyp_limits :
    (let s := mode St.CONFIG (locked Pg.PROT live)
     s.hears1 qa ∧ s.isAuth qa.lane = true ∧ s.holds qa Pg.PROT = true ∧ 10 ≤ 10 ∧ s.limitBad 10 0 0x00010002 = false ∧
     (∀ c ∈ regChecks s qa false Pg.PROT (0x080 + 0x10 * 10) 0x00010002, c.2 = false) ∧ thrBad 10 0x00020001 = true) ∧
    (let s := mode St.CONFIG (locked Pg.PROT live)
     s.g (F.PROT_Lk_THR_TRIP 0) ≤ 20 * getBits (0x00010000 : Word) 27 16 ∧
     20 * getBits (0x00010000 : Word) 11 0 ≤ s.g (F.PROT_Lk_THR_TRIP 1) ∧
     ∀ c ∈ regChecks s qa false Pg.PROT 0x040 0x00010000, c.2 = false) ∧
    (let s := (live.p F.MEAS_STAT_PLAUS_FAIL 1).p F.PROT_PLAUS_T_S 1
     s.g F.MEAS_STAT_PLAUS_FAIL = 1 ∧ s.g F.PROT_PLAUS_T_S ≠ 0 ∧ s.g F.PROT_TRIP_PLAUS = 0 ∧ live.g F.MEAS_STAT_PLAUS_FAIL = 0) ∧
    live.g F.PROT_TRIP_RB = 0 ∧ 40 ∉ live.prot.blind ∧ live.blindAt 40 = none ∧
    ({ live with prot := { live.prot with blind := [40] } } : State).prot.blind = [40] ∧
    ({ live with prot := { live.prot with firstAt := some 3 } } : State).blindAt 40 =
      some (3 + 1000000000 * live.g F.PROT_PLAUS_TBLIND) := by
  decide +kernel

theorem test_hyp_lockout :
    (live.g F.SAFE_LOCKOUT_LATCHED = 0 ∧ live.mode = St.OPERATE ∧ 3 < 4 ∧ (live.p F.SAFE_STATE_OUT_CMD 15).outOn 4 = true) ∧
    (live.safe.resetTold = false ∧ 200 ≤ 5000 ∧ live.bo = false ∧ live.causeCleared = true ∧ live.demanded = false ∧ 199 < 200) ∧
    (live.lane.stopLine = false ∧ (mode St.SHUTDOWN live).mode = St.SHUTDOWN ∧
      ({ live with lane := { live.lane with stopLine := true } } : State).lane.stopLine = true) ∧
    ((live.p F.SAFE_STAT_STEST_RUN 1).gb F.SAFE_STAT_STEST_RUN = true ∧ live.gb F.SAFE_STAT_STEST_RUN = false) ∧
    (let s := { live with safe := { live.safe with press := true, allIn := 2 } }
     s.safe.press = true ∧ s.causeCleared = true ∧ s.bo = false ∧ 2 ≤ s.safe.allIn ∧ live.safe.allIn < 2) := by decide +kernel

theorem test_hyp_safety_demands :
    (255 < 256 ∧ 2 < 3 ∧ 7 < 8 ∧ live.safe.settled.length = 8) ∧
    (let s := { live with safe := { live.safe with awaiting := [(5, 7), (6, 9)], monCount := 40 },
                          chain := { live.chain with verdicts := some (5, List.replicate 480 0) } }
     s.safe.awaiting = (5, 7) :: [(6, 9)] ∧ s.safe.monCount = s.monCount ∧ s.monCount ≠ 0 ∧ s.monCount ≤ 40 ∧
     s.chain.verdicts = some (5 % 2 ^ 16, List.replicate (12 * s.monCount) 0) ∧ live.safe.awaiting = []) ∧
    (let s := { live with safe := { live.safe with settled := 2 :: List.replicate 7 1 } }
     15 < 16 ∧ s.safe.settled.getD 0 0 = 2 ∧ bitAt (s.g F.SAFE_STATE_SF) 0 = false ∧ s.g F.SAFE_LOCKOUT_LATCHED = 0) := by
  decide +kernel

/-- A sequence may go on: the permissive, the bank and the actuator supply. -/
def closing (seq : Nat) : State :=
  { (live.p F.SAFE_STATE_SEQ seq).p F.PWR_STAT_HOLDUP_FULL 1 with safe := { live.safe with main := true, actLow := false } }

theorem test_hyp_contactors :
    (let s := closing 1
     s.notOpened = false ∧ s.g F.SAFE_STATE_SEQ = 1 ∧ s.offCond = false ∧ s.safe.main = true ∧ s.bankReady = true ∧ s.fbUsed 3 = false ∧
     (s.p F.SAFE_LOCKOUT_LATCHED 1).offCond = true ∧ (s.p F.PWR_STAT_HOLDUP_FULL 0).bankReady = false ∧
     (s.p F.PWR_STAT_HOLDUP_FULL 0).offCond = false) ∧
    ((closing 3).g F.SAFE_STATE_SEQ = 3 ∧ (closing 3).notOpened = false) ∧
    (let s := { (closing 2).p F.SAFE_PRE_I_END 100 with safe := { (closing 2).safe with lowAt := some 0 } }
     s.g F.SAFE_STATE_SEQ = 2 ∧ s.fbUsed 1 = false ∧ s.notOpened = false ∧ s.currentBelow (s.g F.SAFE_PRE_I_END) = true ∧
     s.preDue = some (max 10000000 (10000000 * s.g F.SAFE_PRE_T_MIN)) ∧
     max s.up (max 10000000 (10000000 * s.g F.SAFE_PRE_T_MIN)) ≤ s.safe.seqAt + 10000000 * s.g F.SAFE_PRE_T_MAX ∧
     s.offCond = false ∧ s.safe.main = true ∧ s.bankReady = true ∧
     (moving s).currentBelow ((moving s).g F.SAFE_PRE_I_END) = false) ∧
    (let s := { (((live.p F.SAFE_IN_CFG_FB_EN 7).p F.SAFE_IN_FILT 0x70).p F.SAFE_STATE_OUT_CMD 7).p F.SAFE_STATE_SEQ 2 with
                  safe := { live.safe with fbAt := [(3, 8)] } }
     2 < 3 ∧ s.fbUsed 3 = true ∧ s.outOn 3 = true ∧ s.fbClosed 3 = true ∧ s.safe.fbAt.lookup 3 = some 8 ∧
     live.safe.fbAt.lookup 3 = none) ∧
    (let s := { live.p F.SAFE_IN_CFG_FB_EN 7 with safe := { live.safe with fbAt := [(1, 8)] } }
     s.fbUsed 1 = true ∧ s.outOn 1 = false ∧ s.fbClosed 1 = false ∧ s.g F.SAFE_LOCKOUT_LATCHED = 0 ∧
     s.safe.fbAt.lookup 1 = some 8) ∧
    (let s := (live.p F.SAFE_STATE_SEQ 5).p F.SAFE_STATE_OUT_CMD 1
     s.g F.SAFE_STATE_SEQ = 5 ∧ s.outOn 1 = true) := by decide +kernel

theorem test_hyp_loops :
    (let s := { live.p (F.CLE_Lk_CFG_EN 7) 1 with clock := { live.clock with plant := true } }
     7 < 8 ∧ s.mode ≠ St.LULL ∧ s.active .a = true ∧ s.loopOn .a 7 = true ∧
     s.onGrid 0 (tsNs (s.get .a (F.CLE_Lk_CFG_RATE 7))) = true ∧ (mode St.LULL s).mode = St.LULL) ∧
    gtBad (gtOf (live.loop .a 7).shadow) = false ∧
    gtBad (gtOf ((live.setLoop .a 7 { live.loop .a 7 with shadow := [(0, 0x7F800000)] }).loop .a 7).shadow) = true ∧
    (live.put .a (F.CLE_Lk_CFG_FC_N 0) 0).plausHeld .a 0 = false ∧
    (1 ≠ live.get .a F.CLE_MODE_POWER ∧ qs.path ≠ .mgmt) ∧ live.plausHeld .b 0 = true ∧
    (let s := live
     (∀ c ∈ regChecks s qa false Pg.CLE (loopOff 7 0x50) (setBits (0 : Word) 31 31 1), c.2 = false) ∧
     s.get .a (F.CLE_Lk_TRC_STAT_TRIGGERED 7) = 0 ∧ (s.p (F.CLE_Lk_TRC_STAT_TRIGGERED 7) 1).get .a (F.CLE_Lk_TRC_STAT_TRIGGERED 7) = 1 ∧
     s.get .a (F.CLE_Lk_TRC_STAT_DONE 7) = 0) ∧
    (let s := live.setLoop .a 7 { live.loop .a 7 with trace := { Trace.zero with on := true } }
     (s.loop .a 7).trace.on = true ∧ (s.loop .a 7).trace.left = none ∧ getBits (0 : Word) 31 31 = 0) := by decide +kernel

/-- A return frame of sequence 0 with zeros, and its CRC. -/
def zeroReturn : List Nat := 0x4D :: List.replicate 18 0 ++ leBytes 4 (crc32c (0x4D :: List.replicate 18 0))

theorem test_hyp_converter :
    (let s := { live.p F.CLINK_STAT_LOST 1 with link := { live.link with awaiting := true, regain := 999 } }
     s.link.awaiting = true ∧ (∀ x ∈ zeroReturn, x < 256) ∧ s.up ≤ s.link.sentAt + 30000 ∧ zeroReturn.length = 23 ∧
     leAt zeroReturn 0 1 = 0x4D ∧ crc32c (zeroReturn.take 19) = leAt zeroReturn 19 4 ∧ leAt zeroReturn 1 2 = s.link.seq ∧
     s.g F.CLINK_STAT_LOST = 1 ∧ s.g F.CLINK_CFG_REGAIN_N ≤ s.link.regain + 1) ∧
    (([0] : List Nat).length ≠ 23 ∧ leAt zeroReturn 1 2 ≠ 1 ∧
      ({ live with up := 30001 } : State).link.sentAt + 30000 < ({ live with up := 30001 } : State).up) ∧
    (let s := { live with link := { live.link with awaiting := true, loss := 255, runAt := some 5 } }
     s.g F.CLINK_STAT_LOST = 0 ∧ s.g F.CLINK_CFG_LOSS_N ≤ s.link.loss + 1 ∧ s.link.runAt = some 5) ∧
    live.link.awaiting = false ∧ live.link.runAt = none := by decide +kernel

/-- With the order unit running and an order journaled in slot 5 of MRAM A. -/
def ordered (fl : List OrderEnt) (u : List NvUnit) : State :=
  { live with orders := { live.orders with running := true, flight := fl, oldest := 5 },
              nv := { live.nv with aOk := true, a := live.nv.a ++ u.map fun x => (x.off, x) } }

/-- A CONTACTOR order with sequence 5: MAIN 1, AUX unchanged, WAIT_S 60. -/
def contactor5 : JCommit := ⟨5, 0, padTo 176 [6, 0, 4, 0, 0, 0, 0, 0, 0, 0, 0, 0, 0, 0, 0, 0, 1, 0xFF, 60, 0]⟩

theorem test_hyp_orders :
    (let s := ordered [] []
     s.orders.running = true ∧ s.bo = false ∧ s.auth.isSome = true ∧ seqDist s.orders.oldest 132 < 128 ∧
     s.orders.has 132 = false ∧ (∀ c ∈ s.orders.coming, c.seq ≠ 132) ∧ s.nv.gone = false ∧
     128 ≤ seqDist s.orders.oldest 133 ∧ 384 < seqDist 133 s.orders.oldest ∧ live.orders.running = false) ∧
    (let s := { ordered [] [⟨entryOff 5, 5, .commit contactor5, 0⟩] with orders := { live.orders with running := true, coming := [contactor5] } }
     s.orders.coming = contactor5 :: [] ∧ s.nvWaits (entryOff 5) = false ∧ (s.commitOf 5).isSome = true ∧ s.mode = St.OPERATE) ∧
    (let s := { live with orders := { live.orders with gapAt := some 0 } }
     s.orders.gapAt = some 0 ∧ 0 ≤ s.up ∧ s.orders.gapTold = false ∧ live.orders.gapAt = none) ∧
    ((mode St.CONFIG live).mode = St.CONFIG ∧ live.orders.flight = [] ∧ live.mode ≠ St.CONFIG) := by decide +kernel

theorem test_hyp_execution :
    (let e : OrderEnt := ⟨contactor5, false, false, false⟩
     let s := ordered [e] []
     s.ordFront = some e ∧ s.auth = some .a ∧ s.ordHold e = none ∧ s.ordFree = true ∧ e.unit.toe = false ∧ e.unit.bad = false ∧
     e.unit.typ = 6 ∧ e.unit.wait = false ∧ e.unit.byte 0 = 1 ∧ e.unit.byte 1 = 0xFF ∧
     ((s.p F.PWR_BO_BO 1).ordHold e).isSome = true) ∧
    (JCommit.bad ⟨5, 0, padTo 176 [9]⟩ = true ∧ JCommit.toe ⟨5, 0, padTo 176 [9]⟩ = false) ∧
    (let c : JCommit := ⟨5, 0, padTo 176 [6, 1, 4, 0, 1, 0, 0, 0, 0, 0, 0, 0, 0, 0, 0, 0, 1, 0xFF, 60, 0]⟩
     let s := { ordered [⟨c, false, false, false⟩] [] with clock := { live.clock with count := 10 ^ 9 } }
     c.toe = true ∧ c.expUs = 1 ∧ c.expUs < 0xFFFFFFFF ∧ s.gridUp c.tEff + 1000 * (c.expUs + 1) ≤ max (s.ordInstant ⟨c, false, false, false⟩) (s.gridUp s.clock.count)) := by
  decide +kernel

theorem test_hyp_completion :
    let d : JDone := ⟨5, 8, 0, 0, 0, 0, 0, 0⟩
    let u : NvUnit := ⟨doneOff 5, 5, .done d, 0⟩
    let s := { live with orders := { live.orders with contactor := some (d, 1, 0xFF, 0), relearn := some d, finishing := [d] },
                         nv := { live.nv with aOk := true, a := live.nv.a ++ [(doneOff 5, u)] } }
    s.orders.contactor = some (d, 1, 0xFF, 0) ∧ s.contactorMet 1 0xFF = false ∧ s.contactorMet 0xFF 0xFF = true ∧ s.up ≤ 0 ∧
    s.orders.relearn = some d ∧ s.auth = some .a ∧ s.nv.queue = [] ∧ s.nv.busy = none ∧ (s.est.get .a).relearn = [] ∧
    (s.est.get .a).dirtyL = false ∧ (s.est.get .a).dirtyT = false ∧ s.orders.finishing = d :: [] ∧ s.nvWaits (doneOff 5) = false ∧
    (s.doneOf 5).isSome = true ∧ d.seq < 2 ^ 32 ∧ d.result < 2 ^ 8 ∧ live.orders.contactor = none ∧
    ({ s with nv := { s.nv with busy := some u } } : State).nvWaits (doneOff 5) = true := by decide +kernel

theorem test_hyp_tally :
    (let s := locked Pg.TALLY live
     s.hears1 qa ∧ s.holds qa Pg.TALLY = true ∧ s.get .a F.TALLY_STAT_STATE = 0 ∧ s.inMotion = false ∧
     (s.put .a F.TALLY_STAT_STATE 2).get .a F.TALLY_STAT_STATE ≠ 0 ∧ (moving s).inMotion = true) ∧
    (let s := (live.put .a F.TALLY_STAT_LOADED 1).put .a F.TALLY_RUN_EP_EPOCH 1
     s.get .a F.TALLY_STAT_LOADED = 1 ∧ s.get .a F.TALLY_STAT_LOADING = 0 ∧
     0 < seqDist s.sampleEpoch (s.get .a F.TALLY_RUN_EP_EPOCH) ∧ seqDist s.sampleEpoch (s.get .a F.TALLY_RUN_EP_EPOCH) ≤ 2 ^ 31) ∧
    ((live.put .a F.TALLY_STAT_LOADING 1).get .a F.TALLY_STAT_LOADING = 1 ∧ live.tally.a.prog = none ∧ live.tally.b.prog = none) ∧
    (let p : TallyProg := ⟨[], 0, 0, 1, [], [], [], [], [⟨true, 9, 0, 0, 0⟩]⟩
     let s := ({ live with tally := Pair.of { Tally.reset with prog := some p, skip := some 500000 },
                           clock := { live.clock with plant := true } } : State).put .a F.TALLY_STAT_STATE 2
     (s.tally.get .a).prog = some p ∧ 2 ≤ s.laneState .a ∧ s.laneState .a ≤ 5 ∧ s.onGrid 500000 (500000 * max 1 p.cycle) = true ∧
     s.get .a F.TALLY_STAT_STATE = 2 ∧ (s.tally.get .a).skip ≠ some 0 ∧ (s.tally.get .a).skip = some 500000 ∧
     s.onGrid 0 (500000 * max 1 p.cycle) = true ∧
     ((s.stations .a).find? fun x => x.2.node == 9) = some (0, ⟨true, 9, 0, 0, 0⟩) ∧ (s.tally.get .a).io[0]?.isSome = true ∧
     ((s.stations .a).find? fun x => x.2.node == 8) = none) := by
  decide +kernel

theorem test_hyp_watchdogs :
    (live.hears1 qa ∧ qa.path = .mgmt ∧ qs.path ≠ .mgmt ∧ (0x5745 : Word) ≠ 0x5744#32) ∧
    (let s := (locked Pg.LANE live).p F.LANE_APP_WD_TO_MS 10
     let r : Req := ⟨.a, .app0⟩
     s.hears1 r ∧ (∀ c ∈ regChecks (s.wr .a Pg.LANE 0x024 0x81000000) r false Pg.LANE 0x054
       (setBits (s.rd .a Pg.LANE 0x054) 31 31 1), c.2 = false)) ∧
    (live.kicks .a = true ∧ (live.p F.LANE_STATE_A 6).kicks .a = false ∧ (live.p F.LANE_APP_WD_TO_MS 10).g F.LANE_APP_WD_TO_MS ≠ 0) := by
  decide +kernel

theorem test_hyp_lanes :
    (7 < 8 ∧ live.laneState .a ≠ 0 ∧ (live.p F.LANE_STATE_A 0).laneState .a = 0) ∧
    (let s := locked Pg.LANE live
     s.hears1 qa ∧ s.isAuth qa.lane = true ∧ s.holds qa Pg.LANE = true ∧ s.laneBusy .a = false ∧ s.inMotion = false ∧ s.laneState .a = 5 ∧
     (s.p F.LANE_STATE_B 6).laneBusy .a = true ∧ s.clock.count < 2 ^ 64) := by decide +kernel

theorem test_hyp_handover :
    (let s := live.p F.LANE_STATE_A 6
     s.auth = some .a ∧ s.laneState .a = 6 ∧ s.laneState (Lane.a).other = 4 ∧ s.lane.merge = none ∧ s.lane.sync = none ∧
     (s.p F.LANE_STATE_B 1).laneState (Lane.a).other ≠ 4) ∧
    ({ live with lane := { live.lane with merge := some ⟨1, .a, true, 0⟩ } } : State).lane.merge = some ⟨1, .a, true, 0⟩ := by
  decide +kernel

theorem test_hyp_rejoin :
    (let s := (live.p F.LANE_STATE_B 2).p (rdyFld .b) 1
     s.syncBad .a = none ∧ live.syncBad .a ≠ none ∧ (s.p F.LANE_CFG_AUTO_SYNC 1).g F.LANE_CFG_AUTO_SYNC = 1 ∧
     (s.p F.LANE_CFG_AUTO_SYNC 0).g F.LANE_CFG_AUTO_SYNC = 0) ∧
    (let s := (live.p F.LANE_STATE_B 6).p F.LANE_CFG_AUTO_RST 1
     let t := { s with lane := { s.lane with failedAt := ⟨none, some 0⟩ } }
     t.lane.failedAt.get .b = some 0 ∧ t.laneState .b = 6 ∧ t.g F.LANE_CFG_AUTO_RST = 1 ∧ t.lane.resets.get .b = [] ∧ t.lane.merge = none ∧
     3 ≤ ([0, 0, 0] : List Nat).length ∧ (∀ u ∈ ([0, 0, 0] : List Nat), max t.up (0 + 100000000) < u + 600000000000)) ∧
    (let s := live.p F.LANE_STATE_B 1
     s.laneState .b = 1 ∧ s.flash.recovery.get .b = false ∧ s.lane.booted.get .b = false ∧ s.auth = some (Lane.b).other ∧
     s.lane.together = false ∧ s.lane.src.get .b = 0 ∧ ({ s with lane := { s.lane with together := true } } : State).lane.together = true) ∧
    (let s := (live.p F.LANE_STATE_A 1).p F.LANE_AUTH_OWNER 0
     s.auth = none ∧ s.g F.LANE_CFG_PREF = (Lane.a).idx) ∧
    (bitAt (1 : Word).toNat (Lane.a).idx = true ∧ bitAt (1 : Word).toNat (Lane.a).other.idx = false ∧ bitAt (2 : Word).toNat (Lane.a).other.idx = true) ∧
    (let y : Sync := { lane := .b, ep := some 3, t := 0, copied := true }
     let s := { live with lane := { live.lane with sync := some y }, est := Pair.of { Est.reset with last := some 4, prev := some (2000000, 0, 0) } }
     s.lane.sync = some y ∧ (s.est.get y.lane.other).last = some 4 ∧ y.ep = some 3 ∧ y.copied = true ∧ (s.est.get y.lane).last = some 4 ∧
     3 < 4 ∧ 3 < 2 ^ 32 ∧ s.outCrc y.lane = s.outCrc y.lane.other ∧ (s.p F.LANE_STATE_B 3).laneState y.lane = 3) ∧
    (let y : Sync := { lane := .b, ep := none, t := 0, copied := false }
     let s := { live with lane := { live.lane with sync := some y }, est := ⟨{ Est.reset with
       last := some 4, prev := some (2000000, 0, 0), out := List.replicate 0x3C40 0 ++ [1, 0, 0, 0] }, Est.reset⟩ }
     s.lane.sync = some y ∧ (s.est.get y.lane.other).prev = some (2000000, 0, 0) ∧ y.copied = false ∧ y.t + 2000000 ≤ 2000000 ∧
     s.outCrc y.lane ≠ s.outCrc y.lane.other) := by
  decide +kernel

/-- The bus on, with lane A in the transmit role. -/
def bus : State := ((live.put .a F.CBUS_STAT_ON 1).put .a F.CBUS_STAT_TX_ROLE 1).put .a F.CBUS_CTRL_ENABLE 1

theorem test_hyp_transmission :
    (bus.hears1 qa ∧ 2 < 3 ∧ (∀ c ∈ txChecks (bus.wr .a Pg.CBUS 0x100 0x10000000) .a 0, c.2 = false) ∧ bus.get .a F.CBUS_STAT_TX_ROLE = 1 ∧
      live.get .b F.CBUS_STAT_TX_ROLE = 0 ∧ (live.cbus.get .b).log = []) ∧
    ((bus.txFrame .a 0).ide = false ∧ (bus.setTx .a 0 1).txSt .a 0 = 1 ∧ (bus.setTx .a 2 5).txSt .a 2 = 5 ∧
      (bus.setTx .a 1 2).txSt .a 1 = 2) ∧
    (let s := bus.mapCbus .a fun c => { c with sending := some 2, cancel := [false, false, true] }
     (s.cbus.get .a).sending = some 2 ∧ (s.cbus.get .a).cancel.getD 2 false = true ∧ (bus.cbus.get .a).sending = none) := by
  decide +kernel

theorem test_hyp_fifo :
    let f : CanFrame := ⟨0, false, false, false, 1, [7]⟩
    (bus.get .a F.CBUS_STAT_ON = 1 ∧ bus.get .a F.CBUS_CTRL_ENABLE = 1 ∧ f.ide = false ∧
      (∀ j, j < 32 → j < 0 → bus.get .a (F.CBUS_FLT_CFG_EN j) = 0) ∧ (bus.put .a F.CBUS_RXCFG_ACC_ALL 1).get .a F.CBUS_RXCFG_ACC_ALL = 1 ∧
      (let s := (bus.put .a (F.CBUS_FLT_CFG_EN 0) 1).put .a (F.CBUS_FLT_CFG_DEST 0) 1
       s.get .a (F.CBUS_FLT_CFG_EN 0) = 1 ∧ s.get .a (F.CBUS_FLT_CFG_DEST 0) = 1 ∧ s.get .a (F.CBUS_FLT_ID_IDE 0) = 0 ∧
       Nat.land (Nat.xor f.ident (s.get .a (F.CBUS_FLT_ID_ID 0))) (s.get .a (F.CBUS_FLT_MASK_MASK 0)) = 0)) ∧
    (bus.cbus.get .a).fifo.length < 16 ∧
    (let s := bus.mapCbus .a fun c => { c with fifo := List.replicate 16 ⟨f, 0, 0⟩ }
     16 ≤ (s.cbus.get .a).fifo.length ∧ (s.cbus.get .a).fifo = ⟨f, 0, 0⟩ :: List.replicate 15 ⟨f, 0, 0⟩ ∧ 15 < 16 ∧
     s.get .a F.CBUS_RXLOST_FIFO = 0) := by decide +kernel

theorem test_hyp_reception :
    (live.get .a F.CBUS_STAT_ON = 0 ∧ 1 < 2 ∧ (live.cbus.get .a).locked.getD 1 none = none ∧ 1 < (live.cbus.get .a).locked.length) ∧
    (let s := live.mapCbus .a fun c => { c with locked := [none, some 5], waiting := [none, some ⟨⟨0, false, false, false, 0, []⟩, 0, 0⟩] }
     (s.cbus.get .a).locked[1]? = some (some 5) ∧ ((s.cbus.get .a).waiting.getD 1 none).isSome = true ∧
     (s.cbus.get .a).waiting.getD 0 none = none) := by decide +kernel

theorem test_hyp_bus_errors :
    (6 < 7 ∧ bus.get .a F.CBUS_STAT_TX_ROLE = 1 ∧ bus.get .a F.CBUS_STAT_FSTATE = 0 ∧ live.get .b F.CBUS_STAT_TX_ROLE = 0 ∧
      255 < (bus.mapCbus .a fun c => { c with tec := 248 }).cbus.a.tec + 8) ∧
    (let s := (live.put .a F.CBUS_STAT_FSTATE 2).put .a F.CBUS_STAT_BO_RECOVERING 1
     s.get .a F.CBUS_STAT_FSTATE = 2 ∧ s.get .a F.CBUS_STAT_BO_RECOVERING = 1 ∧ live.get .a F.CBUS_STAT_FSTATE ≠ 2) ∧
    ((live.mapCbus .a fun c => { c with arrived := some 0 }).cbus.a.arrived = some 0 ∧ live.cbus.a.arrived = none) ∧
    (2 ≤ live.laneState .a ∧ live.mode ≠ St.LULL ∧ live.mode ≠ St.SHUTDOWN ∧ bus.get .a F.CBUS_CTRL_ENABLE = 1 ∧
      (live.p F.LANE_STATE_A 1).laneState .a < 2) ∧
    (let s := bus.wr .a Pg.CBUS 0x074 2
     bitAt (s.barMask .a) (s.get .a F.CBUS_NODE_NODE) = true ∧ s.get .a F.CBUS_BAR_BUSY = 0 ∧ getBits (0x1FFF0001 : Word) 28 16 ≠ 0 ∧
     bitAt (live.barMask .a) (live.get .a F.CBUS_NODE_NODE) = false ∧ (s.put .a F.CBUS_BAR_BUSY 1).get .a F.CBUS_BAR_BUSY = 1) := by
  decide +kernel

theorem test_hyp_ports :
    (live.mode ≠ St.LULL ∧ live.mode ≠ St.SHUTDOWN ∧ live.get .a F.PLNK_STAT_LINK_UP = 0 ∧
      (live.put .a F.PLNK_STAT_LINK_UP 1).get .a F.PLNK_STAT_LINK_UP = 1) ∧
    (live.onGrid 0 (1000000 * max 1 (live.get live.evrLane F.PLNK_HB_PERIOD_MS)) = true ∧
      live.onGrid 1 (1000000 * max 1 (live.get live.evrLane F.PLNK_HB_PERIOD_MS)) = false ∧ live.active .a = true ∧
      (live.plink.get .a).seqs.length = 9) ∧
    (let s := live.mapPlink .a fun p => { p with sending := .queue 7, store := [⟨⟨4, 5, 0, 0, []⟩, 0⟩], flush := [7] }
     (s.plink.get .a).sending ≠ .idle ∧ (s.plink.get .a).sending = .queue 7 ∧ (s.plink.get .a).resend = [] ∧
     (s.plink.get .a).queues.length = 8 ∧ (s.plink.get .a).store = ⟨⟨4, 5, 0, 0, []⟩, 0⟩ :: [] ∧ 7 ∈ (s.plink.get .a).flush ∧
     7 ∉ (live.plink.get .a).flush ∧ (live.plink.get .a).sending = .idle ∧ (live.plink.get .a).store = []) ∧
    (live.resendWin.judge (7 % 2 ^ 32) = .fresh ∧ 1 ≤ 8 ∧ 65535 ≤ 65535 ∧ (live.plink.get .a).queues[7]?.isSome = true) ∧
    (let s := (live.put .a F.PLNK_STAT_LINK_UP 1).put .a F.PLNK_CTRL_ENABLE 1
     s.hears .a = true ∧ s.ownAddr .a false (s.linkLocal .a) = true ∧ live.hears .a = false ∧
     s.get .a F.PLNK_STAT_LINK_UP = 1) := by decide +kernel

theorem test_hyp_batch :
    let s := { (live.put .a F.PLNK_STAT_LINK_UP 1).put .b F.PLNK_STAT_LINK_UP 1 with
               exporter := { live.exporter with batch := [⟨1, 0, 0, 0, false, false, false, 0, 0, 0, []⟩] } }
    s.exporter.batch ≠ [] ∧ live.exporter.batch = [] ∧ (∀ l ∈ [Lane.a, Lane.b], s.get l F.PLNK_STAT_LINK_UP = 1 ∧ s.get l F.PLNK_RET_SIZE_SIZE = 0 ∧
      (s.plink.get l).queues.length = 8 ∧ ((s.plink.get l).queues.getD 3 ⟨[], 0, 0, 0⟩).bytes + 36 +
        (s.exporter.batch.flatMap evBytes).length ≤ s.queueCap l 3) := by decide +kernel

/-- An ORDER record of 208 bytes to node 0 with serial 0, sequence 9, and its CRC. -/
def orderRecord : List Nat :=
  let b := padTo 208 ([0x48, 1, 0, 0, 5, 0x80, 176, 0] ++ List.replicate 16 0 ++ [9, 0, 0, 0])
  b.take 28 ++ leBytes 4 (crc32c (b.take 28 ++ b.drop 32)) ++ b.drop 32

theorem test_hyp_requests :
    (live.regWin.judge 7 = .fresh ∧ (RxWin.mk (some 5000) [(5000, 0)]).judge 5 = .stale ∧ live.pwr.service = false ∧
      ({ live with pwr := { live.pwr with service := true } } : State).pwr.service = true ∧ reqOk 0x40000000 64 = true) ∧
    (let s := (live.put .a F.PLNK_STAT_LINK_UP 1).put .a F.PLNK_STAT_ADDR_OK 1
     s.hears .a = true ∧ s.intakeDrop .a true false (List.replicate 16 0) [0x48] = some 1 ∧
     s.intakeDrop .a true false (List.replicate 16 0) (orderRecord.map (· % 256)) = none ∧
     (orderRecord.map (· % 256)).getD 4 0 = 0x05 ∧
     s.intakeDrop .a true false (List.replicate 16 0) ([0x48, 1, 0, 0, 5, 0x80] ++ List.replicate 26 0) = some 2) := by decide +kernel

theorem test_hyp_interrupts :
    (let x := { IcuSlot.zero with en := true, pend := true, count := 1, target := 0 }
     let s := live.mapIcu .a fun i => i.setSlot 255 x
     s.hears1 qa ∧ coreOf qa.path = some 0 ∧ coreOf qs.path ≠ some 0 ∧ (bestOffer (s.icuOffers qa.lane 0)).isSome = true) ∧
    (let s := live.mapIcu .a fun i => i.setSlot 255 { IcuSlot.zero with insvc := true, server := 0, pend := true, timeUs := 5 }
     ((s.icu.get .a).slot 255).insvc = true ∧ ((s.icu.get .a).slot 255).server = 0 ∧ ((live.icu.get .a).slot 255).insvc = false ∧
     ((s.icu.get .a).slot 255).timeUs ≠ 0 ∧ ((s.icu.get .a).slot 255).pend = true ∧
     (∀ y ∈ (live.icu.get .a).slots, y.2.wake = false)) ∧
    (let s := live.mapIcu .a fun i => { i.setSlot 255 { IcuSlot.zero with target := 1, waitAt := some 4 } with holding := [(3, 7)] }
     ((s.icu.get .a).slot 255).moved = false ∧ ((s.icu.get .a).slot 255).fb ≠ ((s.icu.get .a).slot 255).target ∧
     ((s.icu.get .a).slot 255).waitAt = some 4 ∧ ((live.icu.get .a).slot 255).waitAt = none ∧
     (s.icu.get .a).holding.find? (·.1 == 3) = some (3, 7) ∧ ∀ y ∈ (live.icu.get .a).holding, y.1 ≠ 3) ∧
    (bitAt (8 : Word).toNat 3 = true ∧ bitAt (7 : Word).toNat 3 = false ∧ 7 < 8 ∧ 2 < 3) := by decide +kernel

theorem test_hyp_recorder :
    (let e : EvRec := ⟨1, 0, 0, 0, false, false, false, 0, 0, 0, []⟩
     let s := { live with recorder := { live.recorder with dirty := true, last := some (3, e) }, nv := { live.nv with aOk := true } }
     s.bo = false ∧ s.recorder.dirty = true ∧ s.recorder.last = some (3, e) ∧ s.nv.gone = false) ∧
    (let s := { live with recorder := { live.recorder with known := true, overflow := true } }
     s.recHolds = false ∧ s.recorder.held = [] ∧ s.recorder.overflow = true ∧ (s.p F.PWR_BO_BO 1).recHolds = true) ∧
    (let s := { live with recorder := { live.recorder with clearing := some 9 } }
     s.recorder.clearing = some 9 ∧ s.recWiping = false ∧ live.recorder.clearing = none ∧
     ({ s with nv := { s.nv with busy := some ⟨0, 0, .wipe 3, 1023⟩ } } : State).recWiping = true ∧ (present live).noPresence qa = false ∧ live.noPresence qa = true) := by
  decide +kernel

/-- Nothing stands against staging: the bank full, the trunk at 48 V. -/
def stageable : State := (live.p F.PWR_STAT_HOLDUP_FULL 1).p F.PWR_TRUNK_MV_MV 48000

theorem test_hyp_staging :
    (let s := stageable.wr .a Pg.UPD 0x024 0x84000000
     s.hears1 qs ∧ qs.path = .service ∧ s.stageCond = none ∧ s.inRecovery = false ∧ s.flash.staging = none ∧ s.flash.acting = none ∧
     stageLenBad (setBits (0x20000200 : Word) 31 31 1) = false ∧ getBits (0x20000200 : Word) 30 30 = 0 ∧
     getBits (0x20000200 : Word) 29 29 = 1 ∧ (∀ c ∈ regChecks s qs false Pg.UPD 0x050 (setBits (0x20000200 : Word) 31 31 1), c.2 = false)) ∧
    (let s := { stageable with flash := { live.flash with staging := some (0, .a, []) }, pwr := { live.pwr with service := true } }
     s.flash.staging = some (0, .a, []) ∧ s.stageCond = none ∧ live.stageCond ≠ none ∧ s.pwr.service = true ∧
     crc32c [] = s.get .a F.UPD_STAGE_CRC_CRC) ∧
    (live.served = true ∧ live.bo = false ∧ live.g F.PWR_STAT_INPUT_OPEN = 0 ∧ (live.p F.PWR_BO_BO 1).bo = true ∧ live.mode ≠ St.LULL ∧
      live.mode ≠ St.SHUTDOWN ∧ (mode St.LULL live).mode = St.LULL) := by decide +kernel

theorem test_hyp_activation :
    (let s := present { stageable with flash := live.flash.setSlot live.flash.idle ⟨2, none, 0, 0, []⟩,
                                       nv := { live.nv with aOk := true, j1 := false } }
     s.noPresence qa = false ∧ s.inRecovery = false ∧ s.stageCond = none ∧ s.flash.staging = none ∧ s.flash.acting = none ∧
     getBits (1 : Word) 1 0 = 1 ∧ ([Lane.a, Lane.b].all fun k => (s.flash.slot k s.flash.idle).st == 2) = true ∧ s.nv.gone = false ∧ s.nv.commit = none ∧ s.bo = false ∧
     s.nv.j1 = false ∧ s.flash.rollback ≤ (s.flash.slot .a s.flash.booted).rollback) ∧
    (([Lane.a, Lane.b].all fun k => (stageable.flash.slot k stageable.flash.idle).st != 2) = true ∧ live.noPresence qa = true ∧ live.nv.j1 = true) := by
  decide +kernel

/-! ### One command against the manual's figures -/

/-- Does a command run to a next state of which a test holds? -/
def runs (c : Instr) (s : State) (p : State → Bool) : Bool :=
  match exec c s with
  | .next t => p t
  | _ => false

/-- R100: GO in CONFIG; the standby lane is refused with 0x0A. -/
theorem test_go : runs (.go qa) (mode St.CONFIG live) (fun t => t.mode == St.OPERATE && t.answer == (0, 0)) = true ∧
    runs (.go qb) (mode St.CONFIG live) (fun t => t.mode == St.CONFIG && t.answer == (0x0A, 0)) = true := by decide +kernel

/-- R83: the open key of page 8 is 0x4C4B0008; another requester's open is refused with 0x05, a wrong key with 0x02. -/
theorem test_locks : runs (.registerWrite qa 0x40008024 0x4C4B0008) live (fun t => t.holds qa 8 && t.answer == (0, 0)) = true ∧
    runs (.registerWrite qs 0x40008024 0x4C4B0008) (locked 8 live) (fun t => t.answer == (0x05, 0)) = true ∧
    runs (.registerWrite qa 0x40008024 0x4C4B0009) live (fun t => t.answer == (0x02, 0)) = true := by decide +kernel

/-- R356: the key of LANE_WDOG is 0x5744. -/
theorem test_watchdog : runs (.laneWdog qa 0x5744) live (fun t => t.answer == (0, 0)) = true ∧
    runs (.laneWdog qa 0x5745) live (fun t => t.answer == (0x04, 0)) = true ∧
    runs (.laneWdog qs 0x5744) live (fun t => t.answer == (0x02, 0)) = true := by decide +kernel

/-- R59: 549,755,813 is taken and 549,755,814 refused; a tick at +2⁻¹¹ (2²⁹ units) adds 4 ns and 2³¹ units of 2⁻⁴⁰ ns. -/
theorem test_time_rate : runs (.timeRateWrite qa 0x20C49BA5) live (fun t => t.answer == (0, 0)) = true ∧
    runs (.timeRateWrite qa 0x20C49BA6) live (fun t => t.answer == (0x04, 0)) = true ∧
    ((live.p F.TIME_RATE_RATE (2 ^ 29)).elapse 4).clock.frac = 2 ^ 31 ∧
    ((live.p F.TIME_RATE_RATE (2 ^ 29)).elapse 4).clock.count = 4 := by decide +kernel

/-- R42: below 38.0 V, PWR_BO; at 38.0 V, not. -/
theorem test_brown_out : runs (.brownOutWarning 37999) live (fun t => t.bo) = true ∧
    runs (.powerUp 39999 0 0 [] [] []) State.reset (fun t => !t.pwr.on) = true := by decide +kernel

/-- R116: the monitor at hop 40 waits 400 ns, the one at hop 1 waits 39 × 160 ns more. -/
theorem test_sample_delay : runs (.sample 40 { frameAll 0x10 (samplePayload 9 false) with hop := 39, hopN := 216 } 9 false) live
      (fun t => (t.mon 40).delay == some 400) = true ∧
    runs (.sample 1 (frameAll 0x10 (samplePayload 9 false)) 9 false) live (fun t => (t.mon 1).delay == some 6640) = true := by
  decide +kernel

/-- R166: the base period is 20 s over the greatest common divisor of 20 and the selected codes. -/
theorem test_base_period : basePeriod [20, 30, 8] 3 = 2 ∧ basePeriod [20, 30, 8] 5 = 5 ∧ basePeriod [40] 1 = 1 := by decide +kernel

/-- The check value of CRC-32C: the nine digits 1 to 9 give 0xE3069283. -/
theorem test_crc : crc32c [0x31, 0x32, 0x33, 0x34, 0x35, 0x36, 0x37, 0x38, 0x39] = 0xE3069283 := by decide +kernel

/-- R389: the 17th frame is dropped and counted. -/
theorem test_fifo_full :
    let f : CanFrame := ⟨0, false, false, false, 1, [7]⟩
    let s := (bus.put .a F.CBUS_RXCFG_ACC_ALL 1).mapCbus .a fun c => { c with fifo := List.replicate 16 ⟨f, 0, 0⟩ }
    runs (.cbusFrameRx .a f 5) s (fun t => t.cbus.a.fifo.length == 16 && t.get .a F.CBUS_RXLOST_FIFO == 1) = true := by
  decide +kernel

/-- R249: limit 0 keeps its trip; TACT 1 is refused with 0x04. -/
theorem test_tact_write : runs (.protLimitWrite qa 0 1 0x00010140) (locked Pg.PROT live) (fun t => t.answer == (0x04, 0)) = true ∧
    runs (.protLimitWrite qa 0 1 0x000101C0) (locked Pg.PROT live) (fun t => t.answer == (0, 0) && t.g (F.PROT_Lk_CFG_TACT 0) == 3) = true := by
  decide +kernel

/-- R62: a pop answers VALID, the LEVEL left and the TAG of the oldest entry. -/
theorem test_tsq_pop :
    runs (.tsqPop qa false) { live with clock := { live.clock with tsq := ⟨[(0x1234, 77), (2, 3)], []⟩ } }
      (fun t => t.answer == (0, 0x80011234) && t.get .a F.TIME_TSQ_NS_NS == 77) = true := by decide +kernel

/-- A step takes the front command; an idle step is one tick of 4 ns. -/
theorem test_step : (match step { live with pending := [.timeRateWrite qa 5, .s1Wake] } with
      | .next t => t.pending == [.s1Wake] && t.g F.TIME_RATE_RATE == 5 | _ => false) = true ∧
    (match step live with | .next t => t.clock.count == 4 | _ => false) = true ∧
    decodeTableWord 32 0 = none ∧ (live.withFetchWord 32 0) = live := by decide +kernel

end Sys2Proof.Tests
end

section
/-! What a lane's failure leaves standing: the operations that follow a failed check (handover, transmit role, staging) keep
the lane in FAILED, its health bits, the running time and every latched event. -/

namespace Sys2Proof.Machine

open Sys2Proof

variable {s t u : State} {l : Lane}

/-! ### Operations that leave a failed lane failed -/

/-- `t` comes after `s` without time passing: a FAILED lane `l` stays FAILED, its health bits stand, and no event latch is
cleared. -/
structure LaneKeeps (l : Lane) (s t : State) : Prop where
  up : t.up = s.up
  failed : s.laneState l = 6 → t.laneState l = 6
  health : t.g (healthFld l) = s.g (healthFld l)
  latched : ∀ k code, code < 6656 → Latched s k code → Latched t k code

theorem LaneKeeps.refl (l : Lane) (s : State) : LaneKeeps l s s := ⟨rfl, id, rfl, fun _ _ _ h => h⟩

theorem LaneKeeps.trans (h : LaneKeeps l s t) (k : LaneKeeps l t u) : LaneKeeps l s u :=
  ⟨k.up.trans h.up, k.failed ∘ h.failed, k.health.trans h.health,
    fun m c hc hl => k.latched m c hc (h.latched m c hc hl)⟩

/-- A change beside the register file and the running time. -/
theorem LaneKeeps.of_regs (hu : t.up = s.up) (hr : t.regs = s.regs) : LaneKeeps l s t :=
  ⟨hu, fun h => (State.get_congr hr .a _).trans h, State.get_congr hr .a _, fun k c _ => latched_congr hr k c⟩

theorem LaneKeeps.foldl {β : Type} {f : State → β → State} {bs : List β} (h : LaneKeeps l s t)
    (hf : ∀ {t : State} (b : β), LaneKeeps l s t → LaneKeeps l s (f t b)) : LaneKeeps l s (bs.foldl f t) := by
  induction bs generalizing t with
  | nil => exact h
  | cons b bs ih => exact ih (hf b h)

theorem LaneKeeps.ite {c : Prop} [Decidable c] (ht : c → LaneKeeps l s t) (hu : ¬ c → LaneKeeps l s u) :
    LaneKeeps l s (if c then t else u) := by
  by_cases h : c
  · rw [if_pos h]; exact ht h
  · rw [if_neg h]; exact hu h

/-- The registers other than LANE_STATE, LANE_HEALTH, the event latches and the page epochs. -/
def sparesLane (f : Fld) : Bool := plainFld f && (f.page != Pg.LANE || (f.off != 0x044 && f.off != 0x048))

theorem laneFld_form (l : Lane) : (laneFld l).page = Pg.LANE ∧ (laneFld l).off = 0x044 := by
  cases l <;> exact ⟨rfl, rfl⟩

theorem healthFld_form (l : Lane) : (healthFld l).page = Pg.LANE ∧ (healthFld l).off = 0x048 := by
  cases l <;> exact ⟨rfl, rfl⟩

theorem plain_laneFld (l : Lane) : plainFld (laneFld l) = true := by cases l <;> rfl

theorem plain_healthFld (l : Lane) : plainFld (healthFld l) = true := by cases l <;> rfl

theorem other_lane_ne (l : Lane) : l.other ≠ l := by cases l <;> decide

theorem LaneKeeps.wr (h : LaneKeeps l s t) {k : Lane} {p o : Nat} {w : Word} (hf : sparesLane ⟨p, o, 0, 0⟩ = true) :
    LaneKeeps l s (t.wr k p o w) := by
  refine h.trans ?_
  simp only [sparesLane, plainFld, Pg.LANE, Bool.and_eq_true, Bool.or_eq_true, bne_iff_ne, decide_eq_true_eq] at hf
  have hl := laneFld_form l
  have hh := healthFld_form l
  simp only [Pg.LANE] at hl hh
  have other (f : Fld) (hp : f.page < 256 ∧ f.off < 4096 ∧ (p ≠ f.page ∨ o ≠ f.off)) : (t.wr k p o w).g f = t.g f := by
    obtain ⟨hpage, hoff, hne⟩ := hp
    unfold State.g State.get
    rw [State.rd_wr_ne t w (regKey_ne k .a (by omega) hoff (by omega) hpage hne)]
  refine ⟨rfl, (other _ (by omega)).trans, other _ (by omega), fun m c hc hm => ?_⟩
  unfold Latched at *
  rwa [State.rd_wr_ne t w (regKey_ne _ _ (by omega) (by omega) (by omega) (by omega) (.inr (by omega)))]

theorem LaneKeeps.put (h : LaneKeeps l s t) {k : Lane} {f : Fld} {v : Nat} (hf : sparesLane f = true) :
    LaneKeeps l s (t.put k f v) := h.wr hf

theorem EvKeeps.laneKeeps (h : EvKeeps s t) (l : Lane) : LaneKeeps l s t := by
  have get (f : Fld) (hf : plainFld f = true) : t.g f = s.g f := by
    simp [plainFld] at hf
    exact h.get .a f ⟨by omega, by omega, by omega, by omega⟩
  exact ⟨h.up, (get _ (plain_laneFld l)).trans, get _ (plain_healthFld l), fun k c => latched_keeps h k c⟩

theorem LaneKeeps.ev (h : LaneKeeps l s t) {c u : Nat} {d : List Nat} : LaneKeeps l s (t.ev c u d) :=
  h.trans ((ev_keeps t c u d).laneKeeps l)

/-! ### LANE_STATE -/

theorem laneState_setLane (s : State) (l : Lane) (st : Nat) : (s.setLane l st).laneState l = st % 8 := by
  unfold State.setLane State.laneState
  refine (State.put_other _ .a .a F.LANE_STAT_DUAL (laneFld l) _ (by cases l <;> decide)).trans ?_
  cases l <;> exact State.get_put_same s .a _ st (by decide)

theorem laneState_setLane_ne (s : State) {l k : Lane} (st : Nat) (h : k ≠ l) :
    (s.setLane k st).laneState l = s.laneState l := by
  unfold State.setLane State.laneState
  refine (State.put_other _ .a .a F.LANE_STAT_DUAL (laneFld l) _ (by cases l <;> decide)).trans ?_
  refine State.put_beside s .a (laneFld k) (laneFld l) st ?_
  cases l <;> cases k
  · exact absurd rfl h
  · decide
  · decide
  · exact absurd rfl h

theorem health_setLane (s : State) (l k : Lane) (st : Nat) : (s.setLane k st).g (healthFld l) = s.g (healthFld l) := by
  unfold State.setLane
  exact (State.put_other _ .a .a F.LANE_STAT_DUAL (healthFld l) _ (by cases l <;> decide)).trans
    (State.put_other s .a .a (laneFld k) (healthFld l) st (by cases l <;> cases k <;> decide))

theorem latched_setLane {m : Lane} {code : Nat} (s : State) (k : Lane) (st : Nat) (hc : code < 6656) (h : Latched s m code) :
    Latched (s.setLane k st) m code :=
  latched_put m .a _ _ code (by decide) hc (latched_put m .a _ _ code (plain_laneFld k) hc h)

/-- A lane takes a state beside a FAILED one. -/
theorem LaneKeeps.setLane (h : LaneKeeps l s t) {k : Lane} {st : Nat} (hk : t.laneState l = 6 → k = l → st = 6) :
    LaneKeeps l s (t.setLane k st) := by
  refine h.trans ⟨rfl, fun h6 => ?_, health_setLane t l k st, fun m c hc => latched_setLane t k st hc⟩
  by_cases e : k = l
  · rw [hk h6 e, e, laneState_setLane]
  · rw [laneState_setLane_ne t st e, h6]

/-! ### The transmit role, the arbiter, the gates and staging -/

theorem LaneKeeps.mapCbus (h : LaneKeeps l s t) {k : Lane} {f : Cbus → Cbus} : LaneKeeps l s (t.mapCbus k f) :=
  h.trans (.of_regs rfl rfl)

theorem LaneKeeps.mapPlink (h : LaneKeeps l s t) {k : Lane} {f : Plink → Plink} : LaneKeeps l s (t.mapPlink k f) :=
  h.trans (.of_regs rfl rfl)

theorem LaneKeeps.laneBlock (h : LaneKeeps l s t) {x : Lanes} : LaneKeeps l s { t with lane := x } :=
  h.trans (.of_regs rfl rfl)

theorem LaneKeeps.flash (h : LaneKeeps l s t) {x : Flash} : LaneKeeps l s { t with flash := x } :=
  h.trans (.of_regs rfl rfl)

theorem LaneKeeps.setTx (h : LaneKeeps l s t) {k : Lane} {n v : Nat} : LaneKeeps l s (t.setTx k n v) := h.put rfl

theorem LaneKeeps.txKick (h : LaneKeeps l s t) {k : Lane} : LaneKeeps l s (t.txKick k) := by
  unfold State.txKick
  refine .ite (fun _ => h) fun _ => ?_
  split
  · exact h
  · exact .put (.ite (fun _ => .setTx (.mapCbus h)) fun _ => .mapCbus h) rfl

theorem LaneKeeps.roleLost (h : LaneKeeps l s t) {k : Lane} {cut : Bool} : LaneKeeps l s (t.roleLost k cut) := by
  unfold State.roleLost
  refine .ite (fun _ => h) fun _ => ?_
  refine .put (.put (.put (.put (.put (.put (.mapCbus (.foldl (.put h rfl) fun n h => ?_)) rfl) rfl) rfl) rfl) rfl) rfl
  exact .ite (fun _ => h.setTx) fun _ => h

theorem LaneKeeps.roleTaken (h : LaneKeeps l s t) {k : Lane} : LaneKeeps l s (t.roleTaken k) := by
  unfold State.roleTaken
  refine .ite (fun _ => h) fun _ => ?_
  refine .txKick (.mapCbus (.foldl (.put h rfl) fun n h => ?_))
  exact .ite (fun _ => h.setTx) fun _ => h

theorem LaneKeeps.moveRole (h : LaneKeeps l s t) {taker : Option Lane} {cut : Bool} :
    LaneKeeps l s (t.moveRole taker cut) := by
  unfold State.moveRole
  refine .ite (fun _ => h) fun _ => .ev (.foldl (.foldl h fun k h => ?_) fun k h => ?_)
  · exact .ite (fun _ => h) fun _ => h.roleLost
  · exact .ite (fun _ => h.roleTaken) fun _ => h

theorem LaneKeeps.arbitrate (h : LaneKeeps l s t) : LaneKeeps l s t.arbitrate := by
  unfold State.arbitrate
  split <;> exact h.trans (.of_regs rfl rfl)

theorem LaneKeeps.eisGate (h : LaneKeeps l s t) {c : Bool} : LaneKeeps l s (t.eisGate c) := by
  unfold State.eisGate
  exact .ite (fun _ => h.trans (.of_regs rfl rfl)) fun _ => h

theorem LaneKeeps.stageAbort (h : LaneKeeps l s t) {cond : Nat} : LaneKeeps l s (t.stageAbort cond) := by
  unfold State.stageAbort
  split
  · exact h
  · exact .ev h.flash

theorem LaneKeeps.stageCheck (h : LaneKeeps l s t) : LaneKeeps l s t.stageCheck := by
  unfold State.stageCheck
  split
  · exact h.stageAbort
  · exact h

/-! ### Authority, merges and syncs -/

theorem LaneKeeps.showMerge (h : LaneKeeps l s t) {on : Bool} : LaneKeeps l s (t.showMerge on) := .put (.put h rfl) rfl

theorem LaneKeeps.setOwner (h : LaneKeeps l s t) {o : Option Lane} {cause : Nat} : LaneKeeps l s (t.setOwner o cause) := by
  unfold State.setOwner
  refine .arbitrate (.ev (.put ?_ rfl))
  cases o with
  | none => exact .put (.put h rfl) rfl
  | some k => exact .put (.put (.put h rfl) rfl) rfl

/-- A sync that ends returns the joining lane to SYNC_WAIT, and a FAILED lane does not join. -/
theorem LaneKeeps.syncAbort (h : LaneKeeps l s t) {reason : Nat} : LaneKeeps l s (t.syncAbort reason) := by
  unfold State.syncAbort
  split
  · exact h
  · rename_i y _
    refine .ev (.put (.ite (fun h3 => .setLane h.laneBlock fun h6 e => ?_) fun _ => h.laneBlock) rfl)
    rw [e, h6] at h3
    exact absurd h3 (by decide)

theorem LaneKeeps.mergeStart (h : LaneKeeps l s t) {x : Lane} {cause : Nat} : LaneKeeps l s (t.mergeStart x cause) := by
  unfold State.mergeStart
  refine .eisGate (.arbitrate (.moveRole (.ev (.put ?_ rfl))))
  exact .wr (.wr (.showMerge h.laneBlock) rfl) rfl

theorem LaneKeeps.ownerNone (h : LaneKeeps l s t) {cause : Nat} : LaneKeeps l s (t.ownerNone cause) := by
  unfold State.ownerNone
  exact .moveRole (.ev (.setOwner (.laneBlock (.showMerge h.syncAbort))))

theorem LaneKeeps.takeOver (h : LaneKeeps l s t) {k : Lane} {cause : Nat} (hk : k ≠ l) : LaneKeeps l s (t.takeOver k cause) :=
  .moveRole (.setOwner (h.setLane fun _ e => absurd e hk))

theorem LaneKeeps.takerLost (h : LaneKeeps l s t) {m : Merge} : LaneKeeps l s (t.takerLost m) := by
  unfold State.takerLost
  have ended {d : List Nat} : LaneKeeps l s
      ((({ t with lane := { t.lane with merge := none } } : State).showMerge false).ev 0x1204 0 d) := .ev (.showMerge h.laneBlock)
  refine .ite (fun _ => ?_) fun _ => ?_
  · exact .ownerNone (ended.setLane fun _ _ => rfl)
  · exact .eisGate (.arbitrate ended.moveRole)

/-! ### The failure of a lane (R355) -/

/-- The failure of lane `l` with cause `bit` is told: the bit of the cause stands in LANE_HEALTH and 0x1202 is latched, with
no time passing and no event latch cleared. -/
structure FailureTold (l : Lane) (bit : Nat) (s t : State) : Prop where
  up : t.up = s.up
  health : bitAt (t.g (healthFld l)) bit = true
  told : ∀ k, Latched t k 0x1202
  latched : ∀ k code, code < 6656 → Latched s k code → Latched t k code

/-- The failure is told and the lane is in FAILED. -/
structure Failed (l : Lane) (bit : Nat) (s t : State) : Prop extends FailureTold l bit s t where
  state : t.laneState l = 6

variable {bit : Nat}

theorem Failed.keep (h : Failed l bit s t) (k : LaneKeeps l t u) : Failed l bit s u where
  up := k.up.trans h.up
  health := by rw [k.health, h.health]
  told m := k.latched m _ (by decide) (h.told m)
  latched m c hc hm := k.latched m c hc (h.latched m c hc hm)
  state := k.failed h.state

theorem FailureTold.setLane (h : FailureTold l bit s t) : Failed l bit s (t.setLane l 6) where
  up := h.up
  health := by rw [health_setLane, h.health]
  told m := latched_setLane t l 6 (by decide) (h.told m)
  latched m c hc hm := latched_setLane t l 6 hc (h.latched m c hc hm)
  state := laneState_setLane t l 6

theorem FailureTold.laneBlock (h : FailureTold l bit s t) {x : Lanes} : FailureTold l bit s { t with lane := x } :=
  ⟨h.up, h.health, h.told, h.latched⟩

/-- The health bit of a lane set reads as set. -/
theorem health_putBit (s : State) (l : Lane) (n : Nat) (hb : bit < 8) :
    bitAt ((s.p (healthFld l) (putBit n bit true)).g (healthFld l)) bit = true := by
  have read : (s.p (healthFld l) (putBit n bit true)).g (healthFld l) = putBit n bit true % 2 ^ 8 := by
    cases l <;> exact State.get_put_same s .a _ _ (by decide)
  rw [read, bitAt_testBit, Nat.testBit_mod_two_pow, ← bitAt_testBit, bitAt_putBit]
  simp [hb]

theorem failureTold_ev (s : State) (l : Lane) (d : List Nat) (hb : bit < 8) :
    FailureTold l bit s ((s.p (healthFld l) (putBit (s.g (healthFld l)) bit true)).ev 0x1202 0 d) where
  up := State.ev_up _ _ _ _
  health := (congrArg (bitAt · bit) (State.ev_get _ _ _ _ .a _ (plain_healthFld l))).trans (health_putBit s l _ hb)
  told k := latched_ev _ _ _ _ k (by decide)
  latched k c hc h := latched_keeps (ev_keeps _ _ _ _) k c hc (latched_put k .a _ _ c (plain_healthFld l) hc h)

/-- A lane outside RESET that fails a check is FAILED at the end, whatever becomes of authority (R355, R358). -/
theorem failLane_failed (s : State) (l : Lane) (h : s.laneState l ≠ 0) (hb : bit < 8) :
    Failed l bit s (s.failLane l bit) := by
  unfold State.failLane
  extract_lets st marked report _ timed failed unsynced cause _ handed
  have hrep : FailureTold l bit s report := failureTold_ev s l _ hb
  have hst : report.laneState l = st :=
    (State.ev_get _ _ _ _ _ _ (plain_laneFld l)).trans
      (State.put_other s .a .a (healthFld l) (laneFld l) _ (by cases l <;> decide))
  rw [if_neg h]
  split_ifs with h6
  · exact ⟨hrep, hst.trans h6⟩
  have hfail : Failed l bit s failed := hrep.laneBlock.setLane.keep (LaneKeeps.refl l _).mapPlink
  have hsync : LaneKeeps l failed unsynced := by
    unfold unsynced
    split
    · exact .ite (fun _ => (LaneKeeps.refl l failed).syncAbort) fun _ => .refl l failed
    · exact .refl l failed
  have hhand : LaneKeeps l failed handed := by
    unfold handed
    split
    · exact .ite (fun _ => hsync.laneBlock) fun _ => hsync.takerLost
    · refine .ite (fun _ => .ite (fun _ => hsync.mergeStart) fun _ => hsync.ownerNone) fun _ => ?_
      exact .ite (fun _ => hsync.takeOver (other_lane_ne l)) fun _ => hsync
  exact hfail.keep hhand.stageCheck

end Sys2Proof.Machine
end

section
/-! The watchdogs of a lane and of its resident application (R356, R357), settled over every state. -/

namespace Sys2Proof.Machine

open Sys2Proof

variable {s t : State} {l : Lane}

/-! ### The passing of time up to a deadline -/

@[simp] theorem runTo_regs (s : State) (x : Nat) : (s.runTo x).regs = s.regs := by
  unfold State.runTo; split <;> rfl

theorem tickNs_pos (s : State) : 0 < s.tickNs := by
  unfold State.tickNs; split <;> decide

/-- A run to a deadline ends at the first tick at or after it. -/
theorem runsTo_runTo (s : State) (x : Nat) : s.RunsTo (s.runTo x) x := by
  have hpos := tickNs_pos s
  unfold State.RunsTo State.runTo
  split
  · rename_i hlt
    have hup : (s.elapse ((x - s.up + (s.tickNs - 1)) / s.tickNs * s.tickNs)).up =
        s.up + (x - s.up + (s.tickNs - 1)) / s.tickNs * s.tickNs := rfl
    have hmod := Nat.div_add_mod (x - s.up + (s.tickNs - 1)) s.tickNs
    have hrest := Nat.mod_lt (x - s.up + (s.tickNs - 1)) hpos
    rw [hup, max_eq_right hlt.le]
    rw [Nat.mul_comm] at hmod
    omega
  · omega

/-! ### The end of a command -/

/-- The end of a command leaves a failed lane failed. -/
theorem laneKeeps_settle (l : Lane) (s n : State) : LaneKeeps l n (s.settle n) where
  up := State.settle_up s n
  failed := (State.settle_fld s n .a _ (plain_laneFld l)).trans
  health := State.settle_fld s n .a _ (plain_healthFld l)
  latched k code _ := latched_settle k code

/-- The frame of a command against the state that it meant to reach, which has the same queue of waiting commands. -/
theorem onlyRegs_settle_of {may : Regs} {b n : State} (s : State) (hq : b.pending = s.pending)
    (hp : n = { b with regs := n.regs, answer := n.answer }) (h : KeepsRegs false may b n) : OnlyRegs may b (s.settle n) := by
  refine ⟨?_, fun l p o hp ho h28 he hm => (State.settle_rd s n (by omega)).trans (h l p o hp ho h28 he hm)⟩
  have e := settle_parts s n
  clear h
  generalize s.settle n = t at *
  rw [e, ← hq, hp]

/-- A command that meets nothing to do. -/
theorem does_nothing {c : Instr} (hc : exec c s = s.fin s) (hp : s.pwr.on = true) :
    ∃ t, exec c s = .next t ∧ OnlyRegs noRegs s t :=
  does_fin hc hp (onlyRegs_settle noRegs s s rfl fun _ _ _ _ _ _ _ _ => rfl)

/-! ### Refused and accepted accesses -/

/-- The frame of an answered command that may restart a lock's timer. -/
theorem onlyRegs_locked {may : Regs} {b n : State} (a : Nat × Nat) (s : State) (hq : b.pending = s.pending)
    (hn : n = { b with regs := n.regs, lockT := n.lockT }) (h : KeepsRegs false may b n) :
    OnlyRegs may { b with lockT := (s.settle { n with answer := a }).lockT } (s.settle { n with answer := a }) := by
  rw [State.settle_lockT]
  exact onlyRegs_settle_of s hq (by rw [hn]) h

theorem settle_answer_get (s n : State) (a : Nat × Nat) (k : Lane) {f : Fld} (hf : plainFld f = true) :
    (s.settle { n with answer := a }).get k f = n.get k f := State.settle_fld s _ k f hf

theorem KeepsRegs.congr {u : State} {ev : Bool} {may : Regs} (h : KeepsRegs ev may s t) (hr : u.regs = t.regs) :
    KeepsRegs ev may s u := fun l p o a b c d e => (State.rd_congr hr l p o).trans (h l p o a b c d e)

/-- The frame of an answered command whose state differs from the one before by registers. -/
theorem onlyRegs_answer {may : Regs} {n : State} (a : Nat × Nat) (hn : n = { s with regs := n.regs })
    (h : KeepsRegs false may s n) : OnlyRegs may s (s.settle { n with answer := a }) :=
  onlyRegs_settle may s _ (by rw [hn]) (h.congr rfl)

theorem regKey_lane_ne {p o : Nat} {l k : Lane} (h : isShared p o = false) (hk : k ≠ l) : regKey p o k ≠ regKey p o l := by
  unfold regKey
  rw [h]
  cases l <;> cases k <;> simp [Lane.idx] at hk ⊢

/-- The refusal record is the requester's lane's copy of xx_ERR (R79). -/
theorem refuse_keeps (s : State) (r : Req) {page : Nat} (off code : Nat) (hpage : page < 26) :
    KeepsRegs false (laneReg r.lane ⟨page, 0x020, 31, 0⟩) s (s.refuse r page off code) := by
  intro k p o hp ho _ _ hm
  refine State.rd_wr_ne s _ ?_
  by_cases e : p = page ∧ o = 0x020
  · obtain ⟨rfl, rfl⟩ := e
    refine regKey_lane_ne (by simp [isShared]) fun hk => ?_
    simp [laneReg, hk] at hm
  · exact regKey_ne _ _ (by decide) ho (by omega) (by omega) (by omega)

/-- A refused access writes the requester's lane's copy of xx_ERR alone (R79). -/
theorem does_refused {c : Instr} {r : Req} {page off code : Nat} {cs : List Chk} {eff : State → State}
    (hc : exec c s = s.answered (s.access r page off cs eff)) (hp : s.pwr.on = true) (hpage : page < 26)
    (h : refusal ((.hw, s.deadLane r) :: cs) = some code) :
    ∃ t, exec c s = .next t ∧ t.answer = (code, 0) ∧ OnlyRegs (laneReg r.lane ⟨page, 0x020, 31, 0⟩) s t := by
  rw [access_refused r page off code cs eff h] at hc
  exact does_answered hc hp ⟨State.settle_answer _ _, onlyRegs_answer (code, 0) rfl (refuse_keeps s r off code hpage)⟩

/-- An access that breaks no rule ends with the answer 0. -/
theorem does_accepted {c : Instr} {r : Req} {page off : Nat} {cs : List Chk} {eff : State → State} {P : State → Prop}
    (hc : exec c s = s.answered (s.access r page off cs eff)) (hh : s.hears1 r) (h : ∀ c ∈ cs, c.2 = false)
    (hP : P (s.settle { eff s with answer := (0, 0) })) : ∃ t, exec c s = .next t ∧ t.answer = (0, 0) ∧ P t := by
  rw [access_free r page off cs eff hh.2 h] at hc
  exact does_answered hc hh.1 ⟨State.settle_answer _ _, hP⟩

/-- A requester without the rights is refused with 0x02, before every rule that stands after the rights (R471). -/
theorem refusal_rights {cs : List Chk} (hbefore : ∀ c ∈ cs, c.1 = .hw ∨ c.1 = .auth → c.2 = false)
    (h : (.rights, true) ∈ cs) : refusal cs = some 0x02 := by
  have before {w : Why} (hw : w = .hw ∨ w = .auth) : cs.any (fun c => c.1 == w && c.2) = false := by
    rw [List.any_eq_false]
    intro c hc hb
    simp only [Bool.and_eq_true, beq_iff_eq] at hb
    rw [hbefore c hc (by rwa [hb.1])] at hb
    exact absurd hb.2 (by decide)
  have rights : cs.any (fun c => c.1 == .rights && c.2) = true := List.any_eq_true.2 ⟨_, h, rfl⟩
  unfold refusal whys
  rw [List.findSome?_cons, before (.inl rfl), List.findSome?_cons, before (.inr rfl), List.findSome?_cons, rights]
  rfl

/-- The rules of a field write stand after the rights in the order of R471. -/
theorem regChecks_why {r : Req} {skip : Bool} {page off : Nat} {v : Word} {c : Chk} (h : c ∈ regChecks s r skip page off v) :
    c.1 = .presence ∨ c.1 = .lock ∨ c.1 = .state ∨ c.1 = .value := by
  simp only [regChecks, List.mem_flatMap, Row.checks, List.mem_cons, List.not_mem_nil, or_false] at h
  obtain ⟨_, _, rfl | rfl | rfl | rfl⟩ := h <;> simp

/-! ### LANE_WDOG (R356) -/

theorem laneWdog_kicked (r : Req) (hh : s.hears1 r) (hm : r.path = .mgmt) :
    ∃ t, exec (.laneWdog r 0x5744#32) s = .next t ∧ t.answer = (0, 0) ∧
      OnlyRegs noRegs { s with lane := { s.lane with kick := s.lane.kick.set r.lane s.up } } t :=
  does_accepted rfl hh (by simp [hm]) (onlyRegs_settle_of s rfl rfl fun _ _ _ _ _ _ _ _ => rfl)

theorem laneWdog_wrongKey (r : Req) (v : Word) (hh : s.hears1 r) (hm : r.path = .mgmt) (hv : v ≠ 0x5744#32) :
    ∃ t, exec (.laneWdog r v) s = .next t ∧ t.answer = (0x04, 0) ∧ OnlyRegs (laneReg r.lane ⟨Pg.LANE, 0x020, 31, 0⟩) s t := by
  have hne : v.toNat ≠ 0x5744 := fun h => hv (BitVec.eq_of_toNat_eq h)
  refine does_refused rfl hh.1 (by decide) ?_
  simp [refusal, whys, hh.2, hm, hne, Why.code]

theorem laneWdog_wrongRequester (r : Req) (v : Word) (hh : s.hears1 r) (hm : r.path ≠ .mgmt) :
    ∃ t, exec (.laneWdog r v) s = .next t ∧ t.answer = (0x02, 0) ∧ OnlyRegs (laneReg r.lane ⟨Pg.LANE, 0x020, 31, 0⟩) s t :=
  does_refused rfl hh.1 (by decide) (refusal_rights (by simp [hh.2]) (by simp [hm]))

/-! ### The kick of the application (R357) -/

theorem keepLock_parts (s : State) (r : Req) (page : Nat) :
    s.keepLock r page = { s with lockT := (s.keepLock r page).lockT } := by
  unfold State.keepLock
  split <;> rfl

/-- An accepted write of plain fields changes its register and the lock's timer alone. -/
theorem store_parts (s : State) (r : Req) (page off : Nat) (v : Word) :
    s.store r page off v = { s with regs := (s.store r page off v).regs, lockT := (s.store r page off v).lockT } := by
  unfold State.store
  extract_lets rows old n
  split
  · rw [keepLock_parts]
    rfl
  · rfl

theorem store_regs (s : State) (r : Req) (page off : Nat) (v : Word) : (s.store r page off v).regs =
    (s.wr r.lane page off ((rowsAt page off).foldl (mergeRow v) (s.rd r.lane page off))).regs := by
  unfold State.store
  extract_lets rows old n
  split
  · rw [keepLock_parts]
  · rfl

/-- A register beside the stored one reads as before. -/
theorem store_keeps (s : State) (r : Req) {f : Fld} (v : Word) (hf : f.off < 4096 ∧ f.page < 26) :
    KeepsRegs false (fieldReg f) s (s.store r f.page f.off v) := by
  intro k p o hp ho _ _ hm
  rw [State.rd_congr (store_regs s r f.page f.off v)]
  refine State.rd_wr_ne s _ (regKey_ne _ _ hf.1 ho (by omega) (by omega) ?_)
  simp only [fieldReg, Bool.and_eq_false_iff, beq_eq_false_iff_ne] at hm
  omega

/-- The word of LANE_APP_WD that a kick writes: KICK set, the rest as it reads. -/
def kickWord (s : State) (r : Req) : Word := setBits (s.rd r.lane Pg.LANE 0x054) 31 31 1

theorem kickWord_kick (s : State) (r : Req) : getBits (kickWord s r) 31 31 = 1 :=
  getBits_setBits _ 31 31 1 (by decide) (by decide)

theorem kickWord_toMs (s : State) (r : Req) : getBits (kickWord s r) 15 0 = s.get r.lane F.LANE_APP_WD_TO_MS :=
  getBits_setBits_below _ 31 31 1 15 0 (by decide) (by decide) (by decide)

/-- LANE_APP_WD is shared: every lane's map shows the same TO_MS. -/
theorem get_toMs (s : State) (k : Lane) : s.get k F.LANE_APP_WD_TO_MS = s.g F.LANE_APP_WD_TO_MS :=
  State.get_lane s k .a _ rfl

/-- A kick writes TO_MS back as it reads. -/
theorem store_kickWord_toMs (s : State) (r : Req) :
    (s.store r Pg.LANE 0x054 (kickWord s r)).g F.LANE_APP_WD_TO_MS = s.g F.LANE_APP_WD_TO_MS := by
  have fold (w old : Word) : (rowsAt Pg.LANE 0x054).foldl (mergeRow w) old = setBits old 15 0 (getBits w 15 0) := rfl
  rw [← get_toMs _ r.lane, ← get_toMs _ r.lane, State.get_congr (store_regs s r Pg.LANE 0x054 (kickWord s r)), fold,
    kickWord_toMs]
  exact (State.get_put_same s r.lane F.LANE_APP_WD_TO_MS _ (by decide)).trans (Nat.mod_eq_of_lt (State.get_lt s r.lane _))

/-- A kick breaks the rights alone where the requester is no application core, and else what the write of its word breaks. -/
def kickChecks (s : State) (r : Req) : List Chk :=
  (.rights, !(r.path == .app0 || r.path == .app1)) :: regChecks s r false Pg.LANE 0x054 (kickWord s r)

/-- The state that an accepted kick with the word `v` reaches. -/
def State.appKicked (s : State) (r : Req) (v : Word) : State :=
  let n := s.store r Pg.LANE 0x054 v
  { n with lane := { n.lane with appKick := n.lane.appKick.set r.lane n.up } }

theorem appWdWrite_kick (s : State) (r : Req) : appWdWrite s r (kickWord s r) =
    s.access r Pg.LANE 0x054 (kickChecks s r) fun n => n.appKicked r (kickWord s r) := by
  have same : (getBits (kickWord s r) 15 0 != s.g F.LANE_APP_WD_TO_MS) = false := by
    rw [kickWord_toMs, get_toMs]
    exact bne_self_eq_false _
  simp only [appWdWrite, kickChecks, State.appKicked, same, kickWord_kick, beq_self_eq_true, Bool.true_and, if_true,
    Bool.false_eq_true, if_false]

theorem exec_appWdKick (s : State) (r : Req) : exec (.appWdKick r) s =
    s.answered (s.access r Pg.LANE 0x054 (kickChecks s r) fun n => n.appKicked r (kickWord s r)) :=
  congrArg s.answered (appWdWrite_kick s r)

theorem appKicked_parts (s : State) (r : Req) (v : Word) : s.appKicked r v =
    { s with regs := (s.appKicked r v).regs, lockT := (s.appKicked r v).lockT
             lane := { s.lane with appKick := s.lane.appKick.set r.lane s.up } } := by
  unfold State.appKicked
  rw [store_parts]

theorem appKicked_regs (s : State) (r : Req) (v : Word) : (s.appKicked r v).regs = (s.store r Pg.LANE 0x054 v).regs := rfl

theorem appWdKick_accepted (r : Req) (hh : s.hears1 r) (happ : r.path = .app0 ∨ r.path = .app1)
    (hc : ∀ c ∈ regChecks s r false Pg.LANE 0x054 (kickWord s r), c.2 = false) :
    ∃ t, exec (.appWdKick r) s = .next t ∧ t.answer = (0, 0) ∧ OnlyRegs (fieldReg F.LANE_APP_WD_TO_MS)
      { s with lane := { s.lane with appKick := s.lane.appKick.set r.lane s.up }, lockT := t.lockT } t ∧
      t.g F.LANE_APP_WD_TO_MS = s.g F.LANE_APP_WD_TO_MS := by
  refine does_accepted (exec_appWdKick s r) hh (fun c h => ?_) ⟨?_, ?_⟩
  · rcases List.mem_cons.1 h with rfl | h
    · rcases happ with e | e <;> rw [e] <;> rfl
    · exact hc c h
  · have keeps := (store_keeps s r (f := F.LANE_APP_WD_TO_MS) (kickWord s r) (by decide)).congr (appKicked_regs s r _)
    exact onlyRegs_locked (b := { s with lane := { s.lane with appKick := s.lane.appKick.set r.lane s.up } }) (0, 0) s rfl
      (appKicked_parts s r _) keeps
  · rw [State.g, settle_answer_get s _ _ .a rfl, State.get_congr (appKicked_regs s r _)]
    exact store_kickWord_toMs s r

theorem appWdKick_management (r : Req) (hh : s.hears1 r) (hm : r.path = .mgmt) :
    ∃ t, exec (.appWdKick r) s = .next t ∧ t.answer = (0x02, 0) ∧ OnlyRegs (laneReg r.lane ⟨Pg.LANE, 0x020, 31, 0⟩) s t := by
  refine does_refused (exec_appWdKick s r) hh.1 (by decide) (refusal_rights (fun c h hw => ?_) (by simp [kickChecks, hm]))
  rcases List.mem_cons.1 h with rfl | h
  · exact hh.2
  rcases List.mem_cons.1 h with rfl | h
  · simp at hw
  · rcases regChecks_why h with e | e | e | e <;> simp [e] at hw

/-! ### The ends of the watchdogs -/

theorem kicks_state (h : s.kicks l = true) : s.laneState l ≠ 0 := by
  simp only [State.kicks, Bool.and_eq_true, decide_eq_true_eq] at h
  omega

theorem State.RunsTo.of_up {x : Nat} (h : s.RunsTo t x) {u : State} (hu : u.up = t.up) : s.RunsTo u x := by
  unfold State.RunsTo at *
  rwa [hu]

theorem laneWdogExpire_fails (hp : s.pwr.on = true) (hk : s.kicks l = true) :
    ∃ t, exec (.laneWdogExpire l) s = .next t ∧ t.laneState l = 6 ∧
      s.RunsTo t (s.lane.kick.get l + 20000000) ∧ bitAt (t.g (healthFld l)) 0 = true ∧ ∀ k, Latched t k 0x1202 := by
  let ran := s.runTo (s.lane.kick.get l + 20000000)
  have hstate : ran.laneState l ≠ 0 := by
    unfold State.laneState State.g
    rw [State.get_congr (runTo_regs s _)]
    exact kicks_state hk
  have hfail := (failLane_failed ran l (bit := 0) hstate (by decide)).keep (laneKeeps_settle l s _)
  refine does_fin (n := ran.failLane l 0) ?_ hp
    ⟨hfail.state, (runsTo_runTo s _).of_up hfail.up, hfail.health, hfail.told⟩
  exact congrArg s.fin (if_pos hk)

/-- The state at which a missed kick of the application is told. -/
def State.appMissed (s : State) (l : Lane) : State :=
  let n := s.runTo (s.lane.appKick.get l + 1000000 * s.g F.LANE_APP_WD_TO_MS)
  ({ n with lane := { n.lane with appKick := n.lane.appKick.set l n.up } } : State).ev 0x120B 0 [l.idx]

theorem appWdExpire_idle (h : s.g F.LANE_APP_WD_TO_MS = 0) : appWdExpire s l = s := if_pos (.inl h)

theorem appWdExpire_missed (h : s.g F.LANE_APP_WD_TO_MS ≠ 0) (hk : s.kicks l = true) : appWdExpire s l =
    if (s.appMissed l).gb F.LANE_CFG_APP_WD_ACT then (s.appMissed l).failLane l 6 else s.appMissed l := by
  refine if_neg ?_
  rintro (h0 | hk0)
  · exact h h0
  · simp [hk] at hk0

theorem appMissed_up (s : State) (l : Lane) :
    s.RunsTo (s.appMissed l) (s.lane.appKick.get l + 1000000 * s.g F.LANE_APP_WD_TO_MS) :=
  (runsTo_runTo s _).of_up (State.ev_up _ _ _ _)

/-- Telling a missed kick leaves every register but the event latches as it was. -/
theorem appMissed_get (s : State) (l : Lane) {f : Fld} (hf : plainFld f = true) : (s.appMissed l).g f = s.g f :=
  (State.ev_get _ _ _ _ .a f hf).trans (State.get_congr (runTo_regs s _) .a f)

theorem appMissed_latched (s : State) (l k : Lane) : Latched (s.appMissed l) k 0x120B := latched_ev _ _ _ _ k (by decide)

theorem appWdExpire_told (hp : s.pwr.on = true) (hto : s.g F.LANE_APP_WD_TO_MS ≠ 0) (hk : s.kicks l = true) :
    ∃ t, exec (.appWdExpire l) s = .next t ∧ (∀ k, Latched t k 0x120B) ∧
      s.RunsTo t (s.lane.appKick.get l + 1000000 * s.g F.LANE_APP_WD_TO_MS) ∧
      (s.g F.LANE_CFG_APP_WD_ACT = 1 → t.laneState l = 6 ∧ bitAt (t.g (healthFld l)) 6 = true) ∧
      (s.g F.LANE_CFG_APP_WD_ACT = 0 → t.laneState l = s.laneState l) := by
  have hstate : (s.appMissed l).laneState l = s.laneState l := appMissed_get s l (plain_laneFld l)
  have hact : (s.appMissed l).gb F.LANE_CFG_APP_WD_ACT = (s.g F.LANE_CFG_APP_WD_ACT != 0) :=
    congrArg (· != 0) (appMissed_get s l rfl)
  refine does_fin (congrArg s.fin (appWdExpire_missed hto hk)) hp ?_
  rw [hact]
  by_cases h0 : s.g F.LANE_CFG_APP_WD_ACT = 0
  · have keep := laneKeeps_settle l s (s.appMissed l)
    rw [h0, if_neg (by decide)]
    refine ⟨fun k => keep.latched k _ (by decide) (appMissed_latched s l k), (appMissed_up s l).of_up keep.up,
      fun h1 => absurd h1 (by decide), fun _ => ?_⟩
    exact (State.settle_fld s _ .a _ (plain_laneFld l)).trans hstate
  · have hfail := (failLane_failed (s.appMissed l) l (bit := 6) (hstate ▸ kicks_state hk) (by decide)).keep
      (laneKeeps_settle l s _)
    rw [if_pos (bne_iff_ne.2 h0)]
    exact ⟨fun k => hfail.latched k _ (by decide) (appMissed_latched s l k), (appMissed_up s l).of_up hfail.up,
      fun _ => ⟨hfail.state, hfail.health⟩, fun h => absurd h h0⟩

/-- Settles O49: an accepted kick reaches the stated state and a refused one leaves the refusal record alone; an awaited
expiry runs to its deadline and, where the lane fails, failLane_failed says what the failure leaves. -/
theorem watchdogsAreKicked : Obligations.WatchdogsAreKicked := by
  unfold Obligations.WatchdogsAreKicked
  refine ⟨fun r v s hh => ⟨?_, ?_, ?_⟩, fun r s hh => ⟨?_, ?_⟩, fun l s hp => ⟨?_, ?_, ?_, ?_⟩⟩
  · rintro hm rfl
    exact laneWdog_kicked r hh hm
  · exact laneWdog_wrongKey r v hh
  · exact laneWdog_wrongRequester r v hh
  · exact appWdKick_accepted r hh
  · exact appWdKick_management r hh
  · exact laneWdogExpire_fails hp
  · exact fun hk => does_nothing (congrArg s.fin (if_neg (by simp [hk]))) hp
  · exact appWdExpire_told hp
  · exact fun h => does_nothing (congrArg s.fin (appWdExpire_idle h)) hp

end Sys2Proof.Machine
end

section
/-! The receive FIFO (R388, R389), settled over every state: what the counting of an arrived frame leaves alone, what the
filters decide for an 11-bit frame, and what the window shows. -/

namespace Sys2Proof.Machine

open Sys2Proof

variable {s t u : State} {l k : Lane}

theorem get_pair_set {α : Type} (p : Pair α) (l : Lane) (x : α) : (p.set l x).get l = x := by cases l <;> rfl

/-! ### Operations on registers alone -/

/-- The memories and the controllers of the container bus are as before. -/
structure SameBlocks (s t : State) : Prop where
  dram : t.dram = s.dram
  sram : t.sram = s.sram
  cbus : t.cbus = s.cbus

theorem SameBlocks.trans (h : SameBlocks s t) (g : SameBlocks t u) : SameBlocks s u :=
  ⟨g.dram.trans h.dram, g.sram.trans h.sram, g.cbus.trans h.cbus⟩

theorem sameBlocks_wr (s : State) (l : Lane) (page off : Nat) (w : Word) : SameBlocks s (s.wr l page off w) := ⟨rfl, rfl, rfl⟩

theorem sameBlocks_put (s : State) (l : Lane) (f : Fld) (v : Nat) : SameBlocks s (s.put l f v) := ⟨rfl, rfl, rfl⟩

theorem EvKeeps.sameBlocks (h : EvKeeps s t) : SameBlocks s t := ⟨h.dram, h.sram, h.cbus⟩

theorem sameBlocks_settle (old n : State) : SameBlocks n (old.settle n) :=
  ⟨State.settle_dram old n, State.settle_sram old n, State.settle_cbus old n⟩

theorem sameMemory_of (hd : t.dram = s.dram) (hs : t.sram = s.sram) : SameMemory s t := fun m a => by
  rw [hd, hs]
  exact ⟨rfl, rfl⟩

theorem SameBlocks.memory (h : SameBlocks s t) : SameMemory s t := sameMemory_of h.dram h.sram

theorem SameMemory.trans (h : SameMemory s t) (g : SameMemory t u) : SameMemory s u := fun m a =>
  ⟨(g m a).1.trans (h m a).1, (g m a).2.trans (h m a).2⟩

/-! ### What counting a frame leaves alone -/

/-- The registers that decide where a frame goes or that show what was received: CBUS_RXCFG, CBUS_RXLOST, the FIFO's window
and the filters. -/
def rxReg (off : Nat) : Bool :=
  off == 0x064 || off == 0x08C || (decide (0x280 ≤ off) && decide (off < 0x2CC)) ||
    (decide (0x400 ≤ off) && decide (off < 0x600))

/-- `t` has the memories, lane `l`'s FIFO and lane `l`'s registers of reception as `s` has them. -/
structure RxKeeps (l : Lane) (s t : State) : Prop where
  dram : t.dram = s.dram
  sram : t.sram = s.sram
  fifo : (t.cbus.get l).fifo = (s.cbus.get l).fifo
  rd : ∀ o, rxReg o = true → t.rd l Pg.CBUS o = s.rd l Pg.CBUS o

theorem RxKeeps.memory (h : RxKeeps l s t) : SameMemory s t := sameMemory_of h.dram h.sram

theorem rxReg_iff {o : Nat} : rxReg o = true ↔
    o = 0x064 ∨ o = 0x08C ∨ (0x280 ≤ o ∧ o < 0x2CC) ∨ (0x400 ≤ o ∧ o < 0x600) := by
  simp [rxReg, or_assoc]

theorem rxReg_lt {o : Nat} (h : rxReg o = true) : o < 0x600 := by
  rw [rxReg_iff] at h
  omega

theorem rxReg_window {i : Nat} (h : i < 19) : rxReg (0x280 + 4 * i) = true := by
  rw [rxReg_iff]
  omega

theorem RxKeeps.refl (l : Lane) (s : State) : RxKeeps l s s := ⟨rfl, rfl, rfl, fun _ _ => rfl⟩

theorem RxKeeps.trans (h : RxKeeps l s t) (g : RxKeeps l t u) : RxKeeps l s u :=
  ⟨g.dram.trans h.dram, g.sram.trans h.sram, g.fifo.trans h.fifo, fun o ho => (g.rd o ho).trans (h.rd o ho)⟩

theorem RxKeeps.ite {c : Prop} [Decidable c] (ht : RxKeeps l s t) (hu : RxKeeps l s u) :
    RxKeeps l s (if c then t else u) := by
  by_cases h : c
  · rwa [if_pos h]
  · rwa [if_neg h]

/-- A write beside the registers of reception. -/
theorem RxKeeps.put (h : RxKeeps l s t) {f : Fld} {v : Nat}
    (hf : (f.page == Pg.CBUS && decide (f.off < 4096) && !rxReg f.off) = true) : RxKeeps l s (t.put k f v) := by
  simp only [Bool.and_eq_true, beq_iff_eq, decide_eq_true_eq, Bool.not_eq_true'] at hf
  obtain ⟨⟨hpage, hoff⟩, hrx⟩ := hf
  refine h.trans ⟨rfl, rfl, rfl, fun o ho => State.rd_put_ne t v ?_⟩
  have hne : f.off ≠ o := fun e => by simp [e, ho] at hrx
  exact regKey_ne _ _ hoff ((rxReg_lt ho).trans (by decide)) (by rw [hpage]; decide) (by decide) (.inr hne)

theorem EvKeeps.rxKeeps (h : EvKeeps s t) (l : Lane) : RxKeeps l s t where
  dram := h.dram
  sram := h.sram
  fifo := by rw [h.cbus]
  rd o ho := by
    have hlt := rxReg_lt ho
    rw [rxReg_iff] at ho
    exact h.rd l Pg.CBUS o (by omega) (by decide) (by omega) (by omega)

theorem RxKeeps.evL (h : RxKeeps l s t) {c n : Nat} {d : List Nat} : RxKeeps l s (t.evL k c n d) :=
  h.trans ((evL_keeps t k c n d).rxKeeps l)

theorem RxKeeps.mark (h : RxKeeps l s t) {n : Nat} : RxKeeps l s (t.mark n) := h.trans ((mark_keeps t n).rxKeeps l)

/-- A change of a controller beside its FIFO. -/
theorem RxKeeps.mapCbus (h : RxKeeps l s t) {f : Cbus → Cbus} (hf : ∀ c, (f c).fifo = c.fifo) :
    RxKeeps l s (t.mapCbus l f) :=
  h.trans ⟨rfl, rfl, (congrArg Cbus.fifo (get_pair_set _ l _)).trans (hf _), fun _ _ => rfl⟩

theorem RxKeeps.setErr (h : RxKeeps l s t) {tec rx : Nat} : RxKeeps l s (t.setErr l tec rx) := by
  unfold State.setErr
  extract_lets _ _ _ _ _ counted shown flagged warned told
  have hc : RxKeeps l s counted := h.mapCbus fun _ => rfl
  have hf : RxKeeps l s flagged := .put (.put (.put (.put (.put hc rfl) rfl) rfl) rfl) rfl
  have ht : RxKeeps l s told := .ite (.ite hf.evL hf) (.evL (.ite hf.evL hf))
  exact .ite (.evL (.put ht rfl)) ht

theorem RxKeeps.stranger (h : RxKeeps l s t) {c : Bool} {cnt : Fld} {kind code : Nat} {d : List Nat}
    (hcnt : (cnt.page == Pg.CBUS && decide (cnt.off < 4096) && !rxReg cnt.off) = true) :
    RxKeeps l s (t.stranger l c cnt kind code d) := by
  have counted : RxKeeps l s (t.bumpSat l cnt) := h.put hcnt
  exact .ite (.ite (.evL (.mark counted)) counted) h

theorem RxKeeps.strangers (h : RxKeeps l s t) {f : CanFrame} : RxKeeps l s (t.strangers l f) :=
  .stranger (.stranger (.stranger h rfl) rfl) rfl

/-! ### An 11-bit frame arrives -/

/-- The state in which an 11-bit frame meets the filters: it is counted, and the receive error counter falls (R391, R397). -/
def State.rxCounted (s : State) (l : Lane) (f : CanFrame) : State :=
  let n := (s.bump l F.CBUS_CNT_RX).strangers l f
  let c := n.cbus.get l
  n.setErr l c.tec (if 127 < c.rxErr then 127 else c.rxErr - 1)

theorem rxCounted_keeps (s : State) (l : Lane) (f : CanFrame) : RxKeeps l s (s.rxCounted l f) :=
  .setErr (.strangers (.put (.refl l s) rfl))

theorem cbusFrameRx_std {f : CanFrame} (ts : Nat) (hon : s.get l F.CBUS_STAT_ON = 1)
    (hen : s.get l F.CBUS_CTRL_ENABLE = 1) (hf : f.ide = false) :
    cbusFrameRx s l f ts = (s.rxCounted l f).filterRx l f ts := by
  simp only [cbusFrameRx, State.rxCounted, State.getB, hon, hen, hf]
  rfl

/-- The filters send an 11-bit frame to the FIFO under the filter index `k`: no filter before `k` is enabled, and `k` is
0xFFFF where CBUS_RXCFG.ACC_ALL lets in a frame that no filter takes, or an enabled filter for the FIFO that matches. -/
def State.SendsToFifo (s : State) (l : Lane) (f : CanFrame) (k : Nat) : Prop :=
  (∀ j, j < 32 → j < k → s.get l (F.CBUS_FLT_CFG_EN j) = 0) ∧
  (k = 0xFFFF ∧ s.get l F.CBUS_RXCFG_ACC_ALL = 1 ∨ k < 32 ∧ s.get l (F.CBUS_FLT_CFG_EN k) = 1 ∧
    s.get l (F.CBUS_FLT_CFG_DEST k) = 1 ∧ s.get l (F.CBUS_FLT_ID_IDE k) = 0 ∧
    Nat.land (Nat.xor f.ident (s.get l (F.CBUS_FLT_ID_ID k))) (s.get l (F.CBUS_FLT_MASK_MASK k)) = 0)

theorem RxKeeps.get (h : RxKeeps l s t) {f : Fld} (hpage : f.page = Pg.CBUS) (hf : rxReg f.off = true) :
    t.get l f = s.get l f := by
  unfold State.get
  rw [hpage, h.rd _ hf]

theorem rxReg_filter {j off : Nat} (hj : j < 32) (hoff : 0x400 ≤ off ∧ off < 0x410) : rxReg (off + 0x10 * j) = true := by
  rw [rxReg_iff]
  omega

theorem RxKeeps.sendsToFifo (h : RxKeeps l s t) {f : CanFrame} {n : Nat} (hs : s.SendsToFifo l f n) :
    t.SendsToFifo l f n := by
  obtain ⟨before, hs⟩ := hs
  refine ⟨fun j hj hn => (h.get rfl (rxReg_filter hj (by decide))).trans (before j hj hn), ?_⟩
  refine hs.imp (fun ⟨hn, hacc⟩ => ⟨hn, (h.get rfl rfl).trans hacc⟩) fun ⟨hn, hs⟩ => ⟨hn, ?_⟩
  rwa [h.get (f := F.CBUS_FLT_CFG_EN n) rfl (rxReg_filter hn (by decide)),
    h.get (f := F.CBUS_FLT_CFG_DEST n) rfl (rxReg_filter hn (by decide)),
    h.get (f := F.CBUS_FLT_ID_IDE n) rfl (rxReg_filter hn (by decide)),
    h.get (f := F.CBUS_FLT_ID_ID n) rfl (rxReg_filter hn (by decide)),
    h.get (f := F.CBUS_FLT_MASK_MASK n) rfl (rxReg_filter hn (by decide))]

theorem filterRx_sends {f : CanFrame} {n : Nat} (ts : Nat) (hf : f.ide = false) (h : s.SendsToFifo l f n) :
    s.filterRx l f ts = s.fifoPush l ⟨f, n, ts⟩ := by
  obtain ⟨before, h⟩ := h
  unfold State.filterRx
  extract_lets hit
  rcases h with ⟨rfl, hacc⟩ | ⟨hn, hen, hdest, hide, hid⟩
  · have missed : hit = none := by
      refine List.find?_range_eq_none.2 fun j hj => ?_
      simp [State.getB, before j hj (by omega)]
    simp [missed, State.getB, hacc]
  · have found : hit = some n := by
      refine List.find?_range_eq_some.2 ⟨?_, List.mem_range.2 hn, fun j hj => ?_⟩
      · simp only [State.getB, hen, hide, hf, hid, bne_self_eq_false, beq_self_eq_true, Bool.and_true]
        rfl
      · simp [State.getB, before j (by omega) hj]
    simp [found, hdest]

/-! ### Words stored from an offset upwards -/

theorem wrWords_append (s : State) (l : Lane) (page off : Nat) (ws : List Nat) (w : Nat) :
    s.wrWords l page off (ws ++ [w]) =
      (s.wrWords l page off ws).wr l page (off + 4 * ws.length) (BitVec.ofNat 32 w) := by
  simp [State.wrWords, List.range_succ, List.zip_append]

theorem sameBlocks_wrWords (s : State) (l : Lane) (page off : Nat) (ws : List Nat) :
    SameBlocks s (s.wrWords l page off ws) := by
  induction ws using List.reverseRecOn with
  | nil => exact ⟨rfl, rfl, rfl⟩
  | append_singleton ws w ih =>
    rw [wrWords_append]
    exact ih.trans (sameBlocks_wr _ l page _ _)

theorem wrWords_rd (s : State) (l : Lane) {page off i : Nat} {ws : List Nat} (hp : page < 256)
    (hoff : off + 4 * ws.length ≤ 4096) (hi : i < ws.length) :
    (s.wrWords l page off ws).rd l page (off + 4 * i) = BitVec.ofNat 32 (ws.getD i 0) := by
  induction ws using List.reverseRecOn with
  | nil => exact absurd hi (by simp)
  | append_singleton ws w ih =>
    rw [List.length_append, List.length_singleton] at hoff hi
    rw [wrWords_append]
    rcases Nat.lt_succ_iff_lt_or_eq.1 hi with hlt | rfl
    · rw [State.rd_wr_ne _ _ (regKey_ne _ _ (by omega) (by omega) hp hp (.inr (by omega))), ih (by omega) hlt,
        List.getD_append _ _ _ _ hlt]
    · rw [State.rd_wr_same, List.getD_append_right _ _ _ _ le_rfl, Nat.sub_self, List.getD_cons_zero]

/-! ### The FIFO's window (R389) -/

/-- The words of the FIFO's window: its head's, zeros where it is empty. -/
def windowWords : List CanRx → List Nat
  | [] => List.replicate 19 0
  | x :: _ => rxWords x false

theorem windowWords_length (q : List CanRx) : (windowWords q).length = 19 := by
  cases q with
  | nil => rfl
  | cons x _ => simp [windowWords, rxWords]

theorem showFifo_eq (s : State) (l : Lane) : s.showFifo l =
    ((s.wrWords l Pg.CBUS 0x280 (windowWords (s.cbus.get l).fifo)).put l F.CBUS_RXSTAT_FIFO_LVL
      (s.cbus.get l).fifo.length).put l F.CBUS_STAT_RXF_NE (b2n (!(s.cbus.get l).fifo.isEmpty)) := by
  unfold State.showFifo
  cases (s.cbus.get l).fifo <;> rfl

theorem sameBlocks_showFifo (s : State) (l : Lane) : SameBlocks s (s.showFifo l) := by
  rw [showFifo_eq]
  exact (sameBlocks_wrWords s l _ _ _).trans ((sameBlocks_put _ l _ _).trans (sameBlocks_put _ l _ _))

theorem put_window (s : State) (l : Lane) (f : Fld) (v i : Nat) (hf : f.page < 256 ∧ f.off < 0x280) (hi : i < 19) :
    (s.put l f v).rd l Pg.CBUS (0x280 + 4 * i) = s.rd l Pg.CBUS (0x280 + 4 * i) :=
  State.rd_put_ne s v (regKey_ne _ _ (by omega) (by omega) hf.1 (by decide) (.inr (by omega)))

theorem showFifo_rd (s : State) (l : Lane) {i : Nat} (hi : i < 19) : (s.showFifo l).rd l Pg.CBUS (0x280 + 4 * i) =
    BitVec.ofNat 32 ((windowWords (s.cbus.get l).fifo).getD i 0) := by
  have hlen := windowWords_length (s.cbus.get l).fifo
  rw [showFifo_eq, put_window _ _ _ _ _ (by decide) hi, put_window _ _ _ _ _ (by decide) hi]
  exact wrWords_rd s l (by decide) (by omega) (by omega)

theorem showFifo_level (s : State) (l : Lane) (h : (s.cbus.get l).fifo.length < 32) :
    (s.showFifo l).get l F.CBUS_RXSTAT_FIFO_LVL = (s.cbus.get l).fifo.length := by
  rw [showFifo_eq, State.put_other _ _ _ _ _ _ (by decide), State.get_put_same _ _ _ _ (by decide)]
  exact Nat.mod_eq_of_lt h

theorem showFifo_notEmpty (s : State) (l : Lane) (h : (s.cbus.get l).fifo ≠ []) :
    (s.showFifo l).get l F.CBUS_STAT_RXF_NE = 1 := by
  rw [showFifo_eq, State.get_put_same _ _ _ _ (by decide), List.isEmpty_eq_false_iff.2 h]
  rfl

/-- The state with `q` in lane `l`'s FIFO, as its window, level and flag show it. -/
def State.withFifo (s : State) (l : Lane) (q : List CanRx) : State :=
  (s.mapCbus l fun c => { c with fifo := q }).showFifo l

theorem mapCbus_fifo (s : State) (l : Lane) (q : List CanRx) :
    ((s.mapCbus l fun c => { c with fifo := q }).cbus.get l).fifo = q := congrArg Cbus.fifo (get_pair_set _ l _)

/-- After `s`, with no byte of memory changed, lane `l`'s FIFO is `q` in `t`, and its level, flag and window show `q` (R389). -/
structure ShowsFifo (l : Lane) (q : List CanRx) (s t : State) : Prop where
  fifo : (t.cbus.get l).fifo = q
  level : t.get l F.CBUS_RXSTAT_FIFO_LVL = q.length
  notEmpty : q ≠ [] → t.get l F.CBUS_STAT_RXF_NE = 1
  memory : SameMemory s t
  window : ∀ i, i < 19 → t.rd l Pg.CBUS (0x280 + 4 * i) = BitVec.ofNat 32 ((windowWords q).getD i 0)

theorem showsFifo_withFifo (s : State) (l : Lane) (q : List CanRx) (h : q.length < 32) :
    ShowsFifo l q s (s.withFifo l q) := by
  have hq := mapCbus_fifo s l q
  have same := sameBlocks_showFifo (s.mapCbus l fun c => { c with fifo := q }) l
  refine ⟨by rwa [State.withFifo, same.cbus], ?_, fun hne => ?_, sameMemory_of same.dram same.sram, fun i hi => ?_⟩
  · exact (showFifo_level _ l (by rwa [hq])).trans (congrArg List.length hq)
  · exact showFifo_notEmpty _ l (by rwa [hq])
  · exact (showFifo_rd _ l hi).trans (by rw [hq])

theorem ShowsFifo.after {q : List CanRx} (h : ShowsFifo l q t u) (hm : SameMemory s t) : ShowsFifo l q s u :=
  ⟨h.fifo, h.level, h.notEmpty, hm.trans h.memory, h.window⟩

theorem ShowsFifo.answer {q : List CanRx} (h : ShowsFifo l q s t) (a : Nat × Nat) : ShowsFifo l q s { t with answer := a } :=
  ⟨h.fifo, h.level, h.notEmpty, h.memory, h.window⟩

/-- The end of a command leaves the FIFO as shown. -/
theorem ShowsFifo.settle {q : List CanRx} (h : ShowsFifo l q s t) (old : State) : ShowsFifo l q s (old.settle t) where
  fifo := by rw [State.settle_cbus, h.fifo]
  level := (State.settle_fld old t l _ rfl).trans h.level
  notEmpty hne := (State.settle_fld old t l _ rfl).trans (h.notEmpty hne)
  memory := h.memory.trans (sameBlocks_settle old t).memory
  window i hi := (State.settle_rd old t (by omega)).trans (h.window i hi)

/-! ### A frame enters the FIFO, or is dropped -/

theorem fifoPush_room (x : CanRx) (h : (s.cbus.get l).fifo.length < 16) :
    s.fifoPush l x = s.withFifo l ((s.cbus.get l).fifo ++ [x]) := if_pos h

/-- The state after a drop at a full FIFO: the drop is counted, and the first one told. -/
def State.rxDropped (s : State) (l : Lane) : State :=
  if s.get l F.CBUS_RXLOST_FIFO = 0 then (s.bumpSat l F.CBUS_RXLOST_FIFO).evL l 0x1304 else s.bumpSat l F.CBUS_RXLOST_FIFO

theorem fifoPush_full (x : CanRx) (h : 16 ≤ (s.cbus.get l).fifo.length) : s.fifoPush l x = s.rxDropped l := by
  unfold State.fifoPush
  rw [if_neg (by omega)]
  simp only [State.rxDropped, beq_iff_eq]

theorem sameBlocks_rxDropped (s : State) (l : Lane) : SameBlocks s (s.rxDropped l) := by
  have counted : SameBlocks s (s.bumpSat l F.CBUS_RXLOST_FIFO) := sameBlocks_put s l _ _
  unfold State.rxDropped
  split
  · exact counted.trans (evL_keeps _ l _ _ _).sameBlocks
  · exact counted

theorem satInc_le (max n : Nat) : satInc max n ≤ max := by
  unfold satInc
  split <;> omega

theorem rxDropped_lost (s : State) (l : Lane) :
    (s.rxDropped l).get l F.CBUS_RXLOST_FIFO = satInc 0xFFFF (s.get l F.CBUS_RXLOST_FIFO) := by
  have counted : (s.bumpSat l F.CBUS_RXLOST_FIFO).get l F.CBUS_RXLOST_FIFO = satInc 0xFFFF (s.get l F.CBUS_RXLOST_FIFO) :=
    (State.get_put_same s l F.CBUS_RXLOST_FIFO _ (by decide)).trans
      (Nat.mod_eq_of_lt (Nat.lt_succ_of_le (satInc_le 0xFFFF _)))
  unfold State.rxDropped
  split
  · exact (State.evL_get _ l _ _ _ l _ rfl).trans counted
  · exact counted

theorem rxDropped_told (h : s.get l F.CBUS_RXLOST_FIFO = 0) : Latched (s.rxDropped l) l 0x1304 := by
  unfold State.rxDropped
  rw [if_pos h]
  exact latched_evL _ l _ _ _ (by decide)

theorem rxDropped_window (s : State) (l : Lane) {i : Nat} (hi : i < 19) :
    (s.rxDropped l).rd l Pg.CBUS (0x280 + 4 * i) = s.rd l Pg.CBUS (0x280 + 4 * i) := by
  have counted := put_window s l F.CBUS_RXLOST_FIFO (satInc 0xFFFF (s.get l F.CBUS_RXLOST_FIFO)) i (by decide) hi
  unfold State.rxDropped
  split
  · exact ((evL_keeps _ l _ _ _).rd l Pg.CBUS _ (by omega) (by decide) (by omega) (by omega)).trans counted
  · exact counted

/-! ### The commands -/

section

variable {f : CanFrame} {n : Nat} (ts : Nat) (hon : s.get l F.CBUS_STAT_ON = 1) (hen : s.get l F.CBUS_CTRL_ENABLE = 1)
  (hf : f.ide = false) (hs : s.SendsToFifo l f n)
include hon hen hf hs

theorem cbusFrameRx_fifo : cbusFrameRx s l f ts = (s.rxCounted l f).fifoPush l ⟨f, n, ts⟩ :=
  (cbusFrameRx_std ts hon hen hf).trans (filterRx_sends ts hf ((rxCounted_keeps s l f).sendsToFifo hs))

variable (hp : s.pwr.on = true)
include hp

/-- A frame that the filters send to a FIFO with room becomes its last frame. -/
theorem frameRx_queued (h : (s.cbus.get l).fifo.length < 16) : ∃ t, exec (.cbusFrameRx l f ts) s = .next t ∧
    ShowsFifo l ((s.cbus.get l).fifo ++ [⟨f, n, ts⟩]) s t := by
  have keeps := rxCounted_keeps s l f
  have pushed := fifoPush_room (s := s.rxCounted l f) (l := l) ⟨f, n, ts⟩ (by rwa [keeps.fifo])
  rw [keeps.fifo] at pushed
  have shows := showsFifo_withFifo (s.rxCounted l f) l ((s.cbus.get l).fifo ++ [⟨f, n, ts⟩])
    (by rw [List.length_append, List.length_singleton]; omega)
  exact does_fin (congrArg s.fin ((cbusFrameRx_fifo ts hon hen hf hs).trans pushed)) hp
    ((shows.after keeps.memory).settle s)

/-- A frame that the filters send to a full FIFO is dropped, counted and, the first time, told. -/
theorem frameRx_dropped (h : 16 ≤ (s.cbus.get l).fifo.length) : ∃ t, exec (.cbusFrameRx l f ts) s = .next t ∧
    (t.cbus.get l).fifo = (s.cbus.get l).fifo ∧ t.get l F.CBUS_RXLOST_FIFO = satInc 0xFFFF (s.get l F.CBUS_RXLOST_FIFO) ∧
    (s.get l F.CBUS_RXLOST_FIFO = 0 → Latched t l 0x1304) ∧ SameMemory s t ∧
    ∀ i, i < 19 → t.rd l Pg.CBUS (0x280 + 4 * i) = s.rd l Pg.CBUS (0x280 + 4 * i) := by
  have keeps := rxCounted_keeps s l f
  have lost : (s.rxCounted l f).get l F.CBUS_RXLOST_FIFO = s.get l F.CBUS_RXLOST_FIFO := keeps.get rfl rfl
  have pushed := fifoPush_full (s := s.rxCounted l f) (l := l) ⟨f, n, ts⟩ (by rwa [keeps.fifo])
  have ended := (sameBlocks_rxDropped (s.rxCounted l f) l).trans (sameBlocks_settle s _)
  refine does_fin (congrArg s.fin ((cbusFrameRx_fifo ts hon hen hf hs).trans pushed)) hp
    ⟨?_, ?_, fun h0 => ?_, keeps.memory.trans ended.memory, fun i hi => ?_⟩
  · rw [ended.cbus, keeps.fifo]
  · rw [State.settle_fld _ _ _ _ rfl, rxDropped_lost, lost]
  · exact latched_settle l _ (rxDropped_told (lost.trans h0))
  · rw [State.settle_rd _ _ (by omega), rxDropped_window _ l hi, keeps.rd _ (rxReg_window hi)]

end

theorem fifoPop_eq (s : State) (l : Lane) {x : CanRx} {q : List CanRx} (h : (s.cbus.get l).fifo = x :: q) :
    fifoPop s l = ((s.rd l Pg.CBUS 0x2C8).toNat, s.withFifo l q) := by
  simp only [fifoPop, State.withFifo, State.mapCbus, h, List.drop_succ_cons, List.drop_zero]

/-- A read of a register that acts, by a requester whose path meets no dead lane, answers its value. -/
theorem readBy_hears {r : Req} (hh : s.hears1 r) (page off : Nat) (x : Nat × State) :
    s.readBy r page off x = s.readOut x.1 x.2 := if_neg (by simp [hh.2])

/-- The read of the window's last word answers that word and pops the head. -/
theorem fifoPop_pops (r : Req) {x : CanRx} {q : List CanRx} (hh : s.hears1 r) (h : (s.cbus.get r.lane).fifo = x :: q)
    (hq : q.length < 16) : ∃ t, exec (.cbusFifoPop r) s = .next t ∧ t.answer = (0, (s.rd r.lane Pg.CBUS 0x2C8).toNat) ∧
      ShowsFifo r.lane q s t := by
  have read : exec (.cbusFifoPop r) s = s.readOut (s.rd r.lane Pg.CBUS 0x2C8).toNat (s.withFifo r.lane q) :=
    (readBy_hears hh _ _ _).trans (by rw [fifoPop_eq s r.lane h])
  have shows := showsFifo_withFifo s r.lane q (by omega)
  exact does_readOut read hh.1 ⟨State.settle_answer _ _, (shows.answer _).settle s⟩

/-! ### The window's words, as the obligation writes them -/

theorem windowWords_getD (q : List CanRx) (i : Nat) :
    (windowWords q).getD i 0 = ((q.head?.map fun y => rxWords y false).getD []).getD i 0 := by
  cases q with
  | nil => exact (List.getD_eq_getElem?_getD ..).trans (List.getElem?_getD_replicate_default_eq 0 19 i)
  | cons x q => rfl

theorem windowWords_append (q : List CanRx) (x : CanRx) :
    windowWords (q ++ [x]) = (q.head?.map fun y => rxWords y false).getD (rxWords x false) := by
  cases q <;> rfl

/-- Settles O54: an 11-bit frame that the filters send to the FIFO is queued or dropped by frameRx_queued and
frameRx_dropped, and the read of the window's last word pops the head by fifoPop_pops. -/
theorem receiveFifo : Obligations.ReceiveFifo := by
  unfold Obligations.ReceiveFifo
  refine ⟨fun l f ts k s hp hon hen hf hbefore hk => ⟨fun hroom => ?_, ?_⟩, fun r x rest s hh hfifo hlen => ?_⟩
  · obtain ⟨t, run, shows⟩ := frameRx_queued ts hon hen hf ⟨hbefore, hk⟩ hp hroom
    refine ⟨t, run, shows.fifo, ?_, shows.notEmpty (by simp), shows.memory, fun i hi => ?_⟩
    · rw [shows.level, List.length_append, List.length_singleton]
    · rw [shows.window i hi, windowWords_append]
  · exact frameRx_dropped ts hon hen hf ⟨hbefore, hk⟩ hp
  · obtain ⟨t, run, answer, shows⟩ := fifoPop_pops r hh hfifo hlen
    refine ⟨t, run, answer, shows.fifo, shows.level, shows.memory, fun i hi => ?_⟩
    rw [shows.window i hi, windowWords_getD]

end Sys2Proof.Machine
end
